-- ==== Sys2Proof/Word.lean ====
section
/-!
DEFINITION. The words of the LDK-8830: bytes, 32-bit words, lane time in 125 ps units (R9), the 72-bit
accumulators (R67), the three lanes (R2), the two copies of an engine pair (R3) and their plainest arithmetic.
-/

namespace Sys2Proof

/-- A byte of a memory or of a packet. -/
abbrev Byte := BitVec 8
/-- A 32-bit word: a general register, a peripheral register, an instruction of the helm. -/
abbrev Word := BitVec 32
/-- Lane time: 64 bits, one unit is 125 ps (R9). -/
abbrev LTime := BitVec 64
/-- A helm or drive accumulator (R67). -/
abbrev Acc := BitVec 72
/-- A general-register field of a helm instruction (R68). -/
abbrev Reg5 := BitVec 5
/-- The 13-bit immediate of formats I and M (R68). -/
abbrev Imm13 := BitVec 13

/-- The three lanes of the module (R2). -/
inductive LaneId where
  | a | b | c
  deriving DecidableEq, Repr

/-- The lane letter as CS_LANE and the packets carry it: 0x1 A, 0x2 B, 0x3 C (R95, R312). -/
def LaneId.code : LaneId → Nat
  | .a => 1 | .b => 2 | .c => 3

/-- The lane's place in the vectors, 0 for Lane A (R324). -/
def LaneId.idx : LaneId → Nat
  | .a => 0 | .b => 1 | .c => 2

/-- The next lane, A to B, B to C, C to A (SPLC_STAT). -/
def LaneId.next : LaneId → LaneId
  | .a => .b | .b => .c | .c => .a

/-- The previous lane. -/
def LaneId.prev : LaneId → LaneId
  | .a => .c | .b => .a | .c => .b

/-- The three lanes in letter order. -/
def LaneId.all : List LaneId := [.a, .b, .c]

/-- The two ends of a lane's splice links: the link to the next lane and the link to the previous lane. -/
inductive Side where
  | next | prev
  deriving DecidableEq, Repr

/-- The lane at the other end of a link. -/
def LaneId.at (l : LaneId) : Side → LaneId
  | .next => l.next
  | .prev => l.prev

/-- The two feeds of a lane (R19). -/
inductive FeedId where
  | f1 | f2
  deriving DecidableEq, Repr

/-- The two engine pairs of a lane (R2). -/
inductive Engine where
  | helm | drive
  deriving DecidableEq, Repr

/-- The two members of an engine pair (R3). -/
inductive Copy where
  | p | s
  deriving DecidableEq, Repr

/-- One thing held by copy P and by copy S. -/
structure Pair (α : Type) where
  p : α
  s : α
  deriving DecidableEq, Repr

/-- Apply one function to both copies. -/
def Pair.map {α β : Type} (f : α → β) (x : Pair α) : Pair β := ⟨f x.p, f x.s⟩

/-- Combine two pairs copy by copy. -/
def Pair.zip {α β γ : Type} (f : α → β → γ) (x : Pair α) (y : Pair β) : Pair γ := ⟨f x.p y.p, f x.s y.s⟩

/-- The member that a copy holds. -/
def Pair.get {α : Type} (x : Pair α) : Copy → α
  | .p => x.p
  | .s => x.s

/-- One thing for each lane. -/
structure Trio (α : Type) where
  a : α
  b : α
  c : α
  deriving DecidableEq, Repr

/-- The member of a lane. -/
def Trio.get {α : Type} (x : Trio α) : LaneId → α
  | .a => x.a | .b => x.b | .c => x.c

/-- Replace the member of a lane. -/
def Trio.set {α : Type} (x : Trio α) (l : LaneId) (v : α) : Trio α :=
  match l with
  | .a => { x with a := v }
  | .b => { x with b := v }
  | .c => { x with c := v }

/-- Apply one function to each lane's member. -/
def Trio.map {α β : Type} (f : α → β) (x : Trio α) : Trio β := ⟨f x.a, f x.b, f x.c⟩

/-- The members in letter order. -/
def Trio.list {α : Type} (x : Trio α) : List α := [x.a, x.b, x.c]

end Sys2Proof
end

