-- ==== Sys2Proof/Syntax.lean ====
section
/-!
DEFINITION. The commands of the block: one constructor of `Instr` for each row of spec/opcode_table.json, with the
operands the row's rule gives it. A command names the lane it acts in. Where an event carries a lane time of its own,
the operand `t` is that time.
-/

namespace Sys2Proof

/-- What one issue of the helm pair through its joint issue gate brings (R68, R106, R107): the lane, the predicate
field of the instruction word, whether the two halves of the gate agree, and, for a load of a single per-lane
register, how many of the first four comparisons of the two captures differ (R99). -/
structure HelmIssue where
  lane : LaneId
  pn : Bool
  pq : BitVec 2
  agree : Bool
  differ : Nat
  deriving DecidableEq, Repr

/-- What one issue of the drive pair brings (R135). -/
structure DriveIssue where
  lane : LaneId
  agree : Bool
  deriving DecidableEq, Repr

/-- Slot X or Y of an operation bundle: its opcode and its three raw fields (R133). -/
structure SlotXY where
  op : BitVec 5
  d : BitVec 6
  a : BitVec 6
  b : BitVec 6
  deriving DecidableEq, Repr

/-- Slot M of a bundle (R133). -/
structure SlotM where
  op : BitVec 4
  w : BitVec 6
  p : BitVec 3
  deriving DecidableEq, Repr

/-- An operation bundle (R133). -/
structure OpBundle where
  stg : BitVec 3
  x : SlotXY
  y : SlotXY
  m : SlotM
  deriving DecidableEq, Repr

/-- What a position line's input stage reports of an edge (R164, R165): on which line of the incremental channel it
came, at which level the line now stands, whether an edge of the other counting line is coincident, or that the edge
and its opposite were a glitch. -/
inductive PosEdge where
  | a (level : Bool)
  | b (level : Bool)
  /-- coincident edges of A and B with the new AB state -/
  | both (la lb : Bool)
  | index (level : Bool)
  | glitch
  deriving DecidableEq, Repr

/-- The bits of an SSI frame as sampled (R186, R187): the idle level before the first falling edge, the data bits
right-aligned, the parity bit and the check bit. -/
structure SsiData where
  idleHigh : Bool
  bits : Word
  parity : Bool
  check : Bool
  deriving DecidableEq, Repr

/-- What the six-step kernel publishes of one channel for a PWM period (R213 to R217, R227): the trellis outputs, the
hall sector it recorded for the oldest column, the back-EMF test, the ramp's sector and whether its speed has reached
THRESH, whether |w| stands below FLOOR, whether the period ran unsampled, and the observer angle. -/
structure KernelObs where
  ch : Fin 6
  tvalid : Bool
  sBest : Fin 6
  sConf : Fin 6
  hallThen : Option (Fin 6)
  emfOk : Bool
  rampSector : Fin 6
  rampReached : Bool
  slow : Bool
  narrow : Bool
  angle : Option (BitVec 12)
  deriving DecidableEq, Repr

/-- One acquisition of a channel's four converters (R205, R280): whether a window qualified, the sense currents of the conducting transistors in Q1.31 of full scale with their sides,
the floating node's and the line voltage in Q1.31 of 80 V, the sample time in 6.25 ns units, and the auto-zero
corrections of the four converters and the hold error of the three sense paths in microvolts. -/
structure SampleData where
  window : Bool
  iu : Int
  iv : Int
  iw : Int
  highU : Option Bool
  highV : Option Bool
  highW : Option Bool
  node : Int
  line : Int
  at625 : Nat
  zero : List Int
  holdUv : List Int
  deriving DecidableEq, Repr

/-- The faults standing in a lane by the classes of R357 other than lane loss: the classes present and their number. -/
structure FaultSet where
  cls : BitVec 6
  count : Nat
  deriving DecidableEq, Repr

/-- A lane's entry in the lane-state vector (R324, R358, R366, R413). -/
structure LaneEntry where
  lstate : Nat
  mode : Nat
  react : Bool
  gtok : Bool
  gtack : Bool
  checks : Bool
  eolq : Bool
  faults : FaultSet
  /-- a network loss that stands for a splice link (R550) -/
  linkLoss : Bool
  /-- the lane has been RUNNING since the module's start (R357) -/
  ran : Bool
  /-- the boot record's trial flag (R510) -/
  trial : Bool
  /-- inter-lane protocol level in force (R509, R516) -/
  level : Nat
  deriving DecidableEq, Repr

/-- The entry of a lane that is ABSENT. -/
def LaneEntry.reset : LaneEntry :=
  { lstate := 0, mode := 1, react := false, gtok := false, gtack := false, checks := false, eolq := false,
    faults := ⟨0, 0⟩, linkLoss := false, ran := false, trial := false, level := 0 }

/-- The payload of a V packet (R312). -/
structure VBody where
  tally : BitVec 128
  frame : Word
  fphase : Word
  entry : LaneEntry
  shares : Trio Nat
  paceLive : Word
  demand : List LaneId
  deriving DecidableEq, Repr

/-- One channel of a Q0 packet (R312): `none` where the contribution is not valid. -/
structure ChanQ where
  state : Nat
  dfc : Bool
  hand : Bool
  angle : Option (BitVec 16)
  catchR : Option (Int × BitVec 16)
  deriving DecidableEq, Repr

/-- The payload of a Q0 packet (R312). -/
structure Q0Body where
  vbus : Option (BitVec 16)
  layCorr : Option Int
  ch : List ChanQ
  deriving DecidableEq, Repr

/-- The payload of an agreement packet by its type (R312). -/
inductive Payload where
  | v (b : VBody)
  | q0 (b : Q0Body)
  /-- Q1 to Q3: the words and their valid bits -/
  | q (k : Fin 3) (words : List Word) (valid : Word)
  | c (rx : LTime) (data : List Byte)
  | l (k : Fin 2) (outs : List Word)
  deriving DecidableEq, Repr

/-- An agreement packet as a lane receives it (R312): `crcOk` is the outcome of its CRC-32C; `pair` gives, when the
packet pairs with one that this lane sent, that lane-time stamp and the neighbour's receive stamp of it (R317). -/
structure Packet where
  src : LaneId
  frame : BitVec 16
  sent : LTime
  crcOk : Bool
  pair : Option (LTime × LTime)
  body : Payload
  deriving DecidableEq, Repr

/-- What makes a Stopper loss outside the output switch test (R356). -/
inductive StopperCause where
  /-- the halves disagree on a filtered input for 5 ms -/
  | halves
  /-- a readback differs from its commanded switch state for 1 ms -/
  | readback
  deriving DecidableEq, Repr

/-- The outcome of the reduced start-up BIST (R375): whether zeroisation was confirmed, whether logic BIST and memory
BIST passed, the logic coverage in 0.1 % and the duration in ms. -/
structure BistResult where
  zeroised : Bool
  logic : Bool
  sram : Bool
  coverage : Nat
  ms : Nat
  deriving DecidableEq, Repr

/-- A word whose fill read-back was wrong (R391): its memory, its word index, the first wrong bit, and whether two or
more bits were wrong. -/
structure FillError where
  m : Fin 8
  wadr : BitVec 20
  bit : Nat
  many : Bool
  deriving DecidableEq, Repr

/-- Whether the sectors that the loader reads pass their check within three reads (R404): those of image slots 0 and
1, and those of configuration copies 0 and 1. -/
structure LoadResult where
  slot0 : Bool
  slot1 : Bool
  cfg0 : Bool
  cfg1 : Bool
  deriving DecidableEq, Repr

/-- What the asked domain answers, as far as it lies outside the state (R382): a converter calibration runs, a CAN
frame is queued, the other powered lanes have reached their own ask of domain 5, and the lane that refused, if one
did. -/
structure SleepAnswer where
  calibrating : Bool
  canQueued : Bool
  othersReady : Bool
  refusedBy : Option LaneId
  deriving DecidableEq, Repr

/-- The wake sources of R385. -/
inductive WakeSource where
  | key | can | lay | timer | guard | estop
  | partner (l : LaneId)
  deriving DecidableEq, Repr

/-- How a sector read went (R404): the number of reads that failed, 0 to 3. -/
structure SectorRead where
  failed : Fin 4
  deriving DecidableEq, Repr

/-- The thresholds of R412. -/
inductive PlanStep where
  | d5 | d12 | d35 | d55
  deriving DecidableEq, Repr

/-- A host command as the handler takes it (R468): whether it came over Lay, the source address of an ISO 11783
command, and its bytes 0 (OPC), 1 (TAG), 2 (LEAD), 3 and 4-31 (ARG). -/
structure HostCmd where
  lay : Bool
  src : Byte
  opc : Byte
  tag : Byte
  lead : Byte
  rsv : Byte
  args : List Byte
  /-- lane time of the command's first receipt (R469) -/
  first : LTime
  deriving DecidableEq, Repr

/-- A chunk of an image block (R508): SID, block index, chunk number and content. -/
structure Chunk where
  sid : Byte
  block : Nat
  chunk : Nat
  data : List Byte
  deriving DecidableEq, Repr

/-- A Lay frame as a receiver takes it (R436 to R439): its channel, the lane time of its first start bit, its
characters, and whether every character had a stop bit of 1. -/
structure LayRx where
  ch : Fin 2
  start : LTime
  chars : List Byte
  stops : Bool
  deriving DecidableEq, Repr

/-- What a transport-protocol packet of ISO 11783 does (R478): open a session by BAM or in connection mode for a PGN and
a size, carry a data packet by its number, or close the session. -/
inductive TpKind where
  | start (bam : Bool) (pgn : BitVec 18) (size : Nat)
  | data (num : Nat) (bytes : List Byte)
  | close
  deriving DecidableEq, Repr

/-- A transport-protocol packet. -/
structure TpPacket where
  src : Byte
  kind : TpKind
  deriving DecidableEq, Repr

/-- The sentence types of R484. -/
inductive NmeaKind where
  | gga | rmc | vtg | other
  deriving DecidableEq, Repr

/-- An NMEA 0183 sentence with what R484 and R485 read of it: length in characters, whether its checksum is present and
correct and its talker two uppercase letters, its UTC in ms of the day, and the units of the GNSS registers. -/
structure Nmea where
  len : Nat
  sumOk : Bool
  talkerOk : Bool
  kind : NmeaKind
  utc : Nat
  lat : Int
  lon : Int
  alt : Int
  sog : Nat
  cog : Nat
  qual : Nat
  sats : Nat
  deriving DecidableEq, Repr

/-- The IEEE 1149.1 instructions of R541. -/
inductive JtagInstr where
  | bypass | idcode | samplePreload | extest
  deriving DecidableEq, Repr

/-- The commands, in the order of the table. -/
inductive Instr where
  /-- FEED_PRESENT (R19): A feed that has stayed above 8.6 V for 1 ms becomes present. -/
  | feedPresent (l : LaneId) (f : FeedId) (t : LTime)
  /-- FEED_LOSS (R22): A present feed falls below 8.0 V; the loss flag is set, an event is logged and one fault is counted. -/
  | feedLoss (l : LaneId) (f : FeedId) (t : LTime)
  /-- REVERSE_CURRENT_TURN_OFF (R21): An ideal-diode element sees reverse current of 0.5 A or more, turns off by its fast path and sets REVB. -/
  | reverseCurrentTurnOff (l : LaneId) (f : FeedId)
  /-- FEED_VOLTAGE_REFRESH (R24): PWR_FEEDV is refreshed every 1 ms of lane time. -/
  | feedVoltageRefresh (l : LaneId) (mv1 : Int) (mv2 : Int) (t : LTime)
  /-- PWR_DOMCTL_WRITE (R33): A domain control write is accepted, held while BUSY, or rejected with REJ and a log event. -/
  | pwrDomctlWrite (l : LaneId) (v : Word)
  /-- DOMAIN_QUIET_ACKNOWLEDGE (R31): A domain has drained its in-flight operations; its isolation cells clamp and its switch opens. -/
  | domainQuietAcknowledge (l : LaneId) (d : Fin 8)
  /-- DOMAIN_RAIL_STABLE (R31): A powered-up domain rail is stable; reset and isolation are released. -/
  | domainRailStable (l : LaneId) (d : Fin 8)
  /-- DOMAIN_RAIL_OFF (R31): A domain rail has fallen below retention after its switch opened. -/
  | domainRailOff (l : LaneId) (d : Fin 8)
  /-- CRYSTAL_CHECK (R44): Every 10 µs the always-on domain compares the crystal with its ring and withdraws the lane on failure. -/
  | crystalCheck (l : LaneId) (missNs : Nat) (ppm : Int) (t : LTime)
  /-- CONTROL_FRAME_START (R46): A control frame begins at a multiple of the frame period; agreed values install and frame-start work runs. -/
  | controlFrameStart (l : LaneId) (bad : List Nat)
  /-- PWM_PERIOD_START (R47): A PWM period starts with the shadow load of leg and channel commands. -/
  | pwmPeriodStart (l : LaneId) (obs : List KernelObs) (bad : List Nat)
  /-- PACE_CTL_WRITE (R52): A write of the target operating point is applied, held, or discarded under the pace interlock. -/
  | paceCtlWrite (l : LaneId) (v : Word)
  /-- PACE_RATE_WRITE (R55): A write of new PWM and frame periods is applied, held or rejected. -/
  | paceRateWrite (l : LaneId) (v : Word)
  /-- CORE_VOLTAGE_REACHED (R58): The core voltage reaches the new operating point and OP and the ceiling update. -/
  | coreVoltageReached (l : LaneId)
  /-- TIME_NOW_LO_READ (R45): A read of TIME_NOW_LO returns lane time and latches TIME_NOW_HI. -/
  | timeNowLoRead (l : LaneId) (t : LTime)
  /-- TIME_CMPHI_WRITE (R527): A write to TIME_CMPHI arms the lane-time compare. -/
  | timeCmphiWrite (l : LaneId) (v : Word) (t : LTime)
  /-- COMPARE_MATCH (R527): Lane time reaches the armed compare value; MATCH is set and ARM cleared. -/
  | compareMatch (l : LaneId)
  /-- ADD (R72): Helm add of two registers. -/
  | add (i : HelmIssue) (gd : Reg5) (ga : Reg5) (gb : Reg5)
  /-- SUB (R72): Helm subtract. -/
  | sub (i : HelmIssue) (gd : Reg5) (ga : Reg5) (gb : Reg5)
  /-- AND (R72): Helm bitwise AND. -/
  | and (i : HelmIssue) (gd : Reg5) (ga : Reg5) (gb : Reg5)
  /-- OR (R72): Helm bitwise OR. -/
  | or (i : HelmIssue) (gd : Reg5) (ga : Reg5) (gb : Reg5)
  /-- XOR (R72): Helm bitwise XOR. -/
  | xor (i : HelmIssue) (gd : Reg5) (ga : Reg5) (gb : Reg5)
  /-- ANDN (R72): Helm AND with complement. -/
  | andn (i : HelmIssue) (gd : Reg5) (ga : Reg5) (gb : Reg5)
  /-- SLL (R72): Helm logical left shift by register or immediate. -/
  | sll (i : HelmIssue) (imm : Bool) (gd : Reg5) (ga : Reg5) (gb : Reg5)
  /-- SRL (R72): Helm logical right shift by register or immediate. -/
  | srl (i : HelmIssue) (imm : Bool) (gd : Reg5) (ga : Reg5) (gb : Reg5)
  /-- SRA (R72): Helm arithmetic right shift by register or immediate. -/
  | sra (i : HelmIssue) (imm : Bool) (gd : Reg5) (ga : Reg5) (gb : Reg5)
  /-- SLT (R72): Helm set if less than, signed. -/
  | slt (i : HelmIssue) (gd : Reg5) (ga : Reg5) (gb : Reg5)
  /-- SLTU (R72): Helm set if less than, unsigned. -/
  | sltu (i : HelmIssue) (gd : Reg5) (ga : Reg5) (gb : Reg5)
  /-- MIN (R72): Helm signed minimum. -/
  | min (i : HelmIssue) (gd : Reg5) (ga : Reg5) (gb : Reg5)
  /-- MAX (R72): Helm signed maximum. -/
  | max (i : HelmIssue) (gd : Reg5) (ga : Reg5) (gb : Reg5)
  /-- MINU (R72): Helm unsigned minimum. -/
  | minu (i : HelmIssue) (gd : Reg5) (ga : Reg5) (gb : Reg5)
  /-- MAXU (R72): Helm unsigned maximum. -/
  | maxu (i : HelmIssue) (gd : Reg5) (ga : Reg5) (gb : Reg5)
  /-- ABS (R72): Helm wrapping absolute value. -/
  | abs (i : HelmIssue) (gd : Reg5) (ga : Reg5) (gb : Reg5)
  /-- CLZ (R72): Helm count of leading zeros. -/
  | clz (i : HelmIssue) (gd : Reg5) (ga : Reg5) (gb : Reg5)
  /-- POP (R72): Helm population count. -/
  | pop (i : HelmIssue) (gd : Reg5) (ga : Reg5) (gb : Reg5)
  /-- SXB (R72): Helm sign-extend byte. -/
  | sxb (i : HelmIssue) (gd : Reg5) (ga : Reg5) (gb : Reg5)
  /-- SXH (R72): Helm sign-extend halfword. -/
  | sxh (i : HelmIssue) (gd : Reg5) (ga : Reg5) (gb : Reg5)
  /-- ZXB (R72): Helm zero-extend byte. -/
  | zxb (i : HelmIssue) (gd : Reg5) (ga : Reg5) (gb : Reg5)
  /-- ZXH (R72): Helm zero-extend halfword. -/
  | zxh (i : HelmIssue) (gd : Reg5) (ga : Reg5) (gb : Reg5)
  /-- QADD (R66): Helm saturating add, setting SV on saturation. -/
  | qadd (i : HelmIssue) (gd : Reg5) (ga : Reg5) (gb : Reg5)
  /-- QSUB (R66): Helm saturating subtract. -/
  | qsub (i : HelmIssue) (gd : Reg5) (ga : Reg5) (gb : Reg5)
  /-- QNEG (R66): Helm saturating negate. -/
  | qneg (i : HelmIssue) (gd : Reg5) (ga : Reg5) (gb : Reg5)
  /-- QABS (R66): Helm saturating absolute value. -/
  | qabs (i : HelmIssue) (gd : Reg5) (ga : Reg5) (gb : Reg5)
  /-- QSHL (R66): Helm saturating left shift by register or immediate. -/
  | qshl (i : HelmIssue) (imm : Bool) (gd : Reg5) (ga : Reg5) (gb : Reg5)
  /-- ADDI (R72): Helm add sign-extended immediate. -/
  | addi (i : HelmIssue) (gd : Reg5) (ga : Reg5) (imm : Imm13)
  /-- ANDI (R72): Helm AND zero-extended immediate. -/
  | andi (i : HelmIssue) (gd : Reg5) (ga : Reg5) (imm : Imm13)
  /-- ORI (R72): Helm OR zero-extended immediate. -/
  | ori (i : HelmIssue) (gd : Reg5) (ga : Reg5) (imm : Imm13)
  /-- XORI (R72): Helm XOR zero-extended immediate. -/
  | xori (i : HelmIssue) (gd : Reg5) (ga : Reg5) (imm : Imm13)
  /-- LUI (R72): Helm load upper immediate. -/
  | lui (i : HelmIssue) (gd : Reg5) (imm : BitVec 18)
  /-- ORIL (R72): Helm OR of a low 14-bit immediate into gd. -/
  | oril (i : HelmIssue) (gd : Reg5) (imm : BitVec 18)
  /-- MUL (R72): Helm low-word multiply. -/
  | mul (i : HelmIssue) (gd : Reg5) (ga : Reg5) (gb : Reg5)
  /-- MULH (R72): Helm signed high-word multiply. -/
  | mulh (i : HelmIssue) (gd : Reg5) (ga : Reg5) (gb : Reg5)
  /-- MULHU (R72): Helm unsigned high-word multiply. -/
  | mulhu (i : HelmIssue) (gd : Reg5) (ga : Reg5) (gb : Reg5)
  /-- QMUL (R81): Helm rounded saturating Q1.31 multiply. -/
  | qmul (i : HelmIssue) (gd : Reg5) (ga : Reg5) (gb : Reg5)
  /-- DIV (R82): Helm signed divide with defined special cases. -/
  | div (i : HelmIssue) (gd : Reg5) (ga : Reg5) (gb : Reg5)
  /-- DIVU (R82): Helm unsigned divide. -/
  | divu (i : HelmIssue) (gd : Reg5) (ga : Reg5) (gb : Reg5)
  /-- REM (R82): Helm signed remainder. -/
  | rem (i : HelmIssue) (gd : Reg5) (ga : Reg5) (gb : Reg5)
  /-- REMU (R82): Helm unsigned remainder. -/
  | remu (i : HelmIssue) (gd : Reg5) (ga : Reg5) (gb : Reg5)
  /-- MAC (R67): Helm signed multiply-accumulate into ha or hb with saturation. -/
  | mac (i : HelmIssue) (hb : Bool) (gd : Reg5) (ga : Reg5) (gb : Reg5)
  /-- MSU (R67): Helm signed multiply-subtract from an accumulator. -/
  | msu (i : HelmIssue) (hb : Bool) (gd : Reg5) (ga : Reg5) (gb : Reg5)
  /-- MACU (R67): Helm unsigned multiply-accumulate. -/
  | macu (i : HelmIssue) (hb : Bool) (gd : Reg5) (ga : Reg5) (gb : Reg5)
  /-- MST (R67): Helm set accumulator to a signed product. -/
  | mst (i : HelmIssue) (hb : Bool) (gd : Reg5) (ga : Reg5) (gb : Reg5)
  /-- CLR (R67): Helm clear an accumulator. -/
  | clr (i : HelmIssue) (hb : Bool) (gd : Reg5) (ga : Reg5) (gb : Reg5)
  /-- MTAC (R67): Helm move two registers into an accumulator. -/
  | mtac (i : HelmIssue) (hb : Bool) (gd : Reg5) (ga : Reg5) (gb : Reg5)
  /-- MFAL (R67): Helm read accumulator bits 31:0. -/
  | mfal (i : HelmIssue) (hb : Bool) (gd : Reg5) (ga : Reg5) (gb : Reg5)
  /-- MFAH (R67): Helm read accumulator bits 63:32. -/
  | mfah (i : HelmIssue) (hb : Bool) (gd : Reg5) (ga : Reg5) (gb : Reg5)
  /-- MFAG (R67): Helm read accumulator guard bits. -/
  | mfag (i : HelmIssue) (hb : Bool) (gd : Reg5) (ga : Reg5) (gb : Reg5)
  /-- EXQ (R66): Helm rounded saturating Q1.31 extract from an accumulator. -/
  | exq (i : HelmIssue) (hb : Bool) (gd : Reg5) (ga : Reg5) (gb : Reg5)
  /-- EXS (R66): Helm shifted saturating extract from an accumulator. -/
  | exs (i : HelmIssue) (hb : Bool) (gd : Reg5) (ga : Reg5) (gb : Reg5)
  /-- LDW (R86): Helm word load with precise exceptions. -/
  | ldw (i : HelmIssue) (gd : Reg5) (ga : Reg5) (imm : Imm13)
  /-- LDH (R86): Helm signed halfword load. -/
  | ldh (i : HelmIssue) (gd : Reg5) (ga : Reg5) (imm : Imm13)
  /-- LDHU (R86): Helm unsigned halfword load. -/
  | ldhu (i : HelmIssue) (gd : Reg5) (ga : Reg5) (imm : Imm13)
  /-- LDB (R86): Helm signed byte load. -/
  | ldb (i : HelmIssue) (gd : Reg5) (ga : Reg5) (imm : Imm13)
  /-- LDBU (R86): Helm unsigned byte load. -/
  | ldbu (i : HelmIssue) (gd : Reg5) (ga : Reg5) (imm : Imm13)
  /-- STW (R73): Helm word store, posted or held. -/
  | stw (i : HelmIssue) (gd : Reg5) (ga : Reg5) (imm : Imm13)
  /-- STH (R73): Helm halfword store. -/
  | sth (i : HelmIssue) (gd : Reg5) (ga : Reg5) (imm : Imm13)
  /-- STB (R73): Helm byte store. -/
  | stb (i : HelmIssue) (gd : Reg5) (ga : Reg5) (imm : Imm13)
  /-- BR (R90): Helm PC-relative branch. -/
  | br (i : HelmIssue) (off : BitVec 23)
  /-- CALL (R90): Helm PC-relative call writing g31. -/
  | call (i : HelmIssue) (off : BitVec 23)
  /-- JR (R90): Helm jump to register. -/
  | jr (i : HelmIssue) (gd : Reg5) (ga : Reg5) (gb : Reg5) (fn : Byte)
  /-- JALR (R90): Helm jump to register with link. -/
  | jalr (i : HelmIssue) (gd : Reg5) (ga : Reg5) (gb : Reg5) (fn : Byte)
  /-- CMP (R72): Helm compare of two registers into a predicate. -/
  | cmp (i : HelmIssue) (qd : BitVec 2) (ga : Reg5) (gb : Reg5) (cond : BitVec 3) (rsv : Byte)
  /-- CMPI (R72): Helm compare with immediate into a predicate. -/
  | cmpi (i : HelmIssue) (qd : BitVec 2) (ga : Reg5) (cond : BitVec 3) (imm : Imm13)
  /-- QAND (R72): Helm predicate AND. -/
  | qand (i : HelmIssue) (qd : BitVec 2) (qa : BitVec 2) (qb : BitVec 2) (rsv : BitVec 14)
  /-- QOR (R72): Helm predicate OR. -/
  | qor (i : HelmIssue) (qd : BitVec 2) (qa : BitVec 2) (qb : BitVec 2) (rsv : BitVec 14)
  /-- QXOR (R72): Helm predicate XOR. -/
  | qxor (i : HelmIssue) (qd : BitVec 2) (qa : BitVec 2) (qb : BitVec 2) (rsv : BitVec 14)
  /-- QANDN (R72): Helm predicate AND NOT. -/
  | qandn (i : HelmIssue) (qd : BitVec 2) (qa : BitVec 2) (qb : BitVec 2) (rsv : BitVec 14)
  /-- MFQ (R62): Helm move predicates to a register. -/
  | mfq (i : HelmIssue) (gd : Reg5) (ga : Reg5) (gb : Reg5)
  /-- MTQ (R62): Helm move a register into q1-q3. -/
  | mtq (i : HelmIssue) (gd : Reg5) (ga : Reg5) (gb : Reg5)
  /-- MFCS (R95): Helm read a core control register. -/
  | mfcs (i : HelmIssue) (gd : Reg5) (cs : Reg5) (ga : Reg5) (rsv : Byte)
  /-- MTCS (R91): Helm write a core control register, effective for the next instruction. -/
  | mtcs (i : HelmIssue) (gd : Reg5) (cs : Reg5) (ga : Reg5) (rsv : Byte)
  /-- TRAP (R92): Helm trap: retires then raises the trap exception. -/
  | trap (i : HelmIssue) (rsv : BitVec 7) (code : BitVec 16)
  /-- ERET (R114): Helm return from exception, restoring IE and lowering the depth. -/
  | eret (i : HelmIssue) (rsv : BitVec 23)
  /-- FENCE (R80): Helm wait until all earlier instructions retire and stores drain or release. -/
  | fence (i : HelmIssue) (rsv : BitVec 23)
  /-- WFE (R110): Helm wait until an interrupt request is pending. -/
  | wfe (i : HelmIssue) (rsv : BitVec 23)
  /-- INTERRUPT_ENTRY (R110): At an instruction boundary the joint issue gate takes the lowest-numbered enabled pending interrupt. -/
  | interruptEntry (l : LaneId)
  /-- RELEASE_ERROR_ENTRY (R89): A held entry whose release had a bus error raises STORE_BUS at the next boundary. -/
  | releaseErrorEntry (l : LaneId)
  /-- DEFERRED_RELEASE_ERROR (R554): A deferred release error is taken at the next boundary with IE set or after the next eret. -/
  | deferredReleaseError (l : LaneId)
  /-- STORE_DRAIN (R73): A posted store drains from the store buffer into its target. -/
  | storeDrain (l : LaneId) (e : Engine)
  /-- TALLY_WINDOW_CLOSE (R305): A tally window closes, folds live registers and compares copy P with copy S. -/
  | tallyWindowClose (l : LaneId) (e : Engine)
  /-- HELD_ENTRY_RELEASE (R117): A held entry of an equal window is compared between copies and drained into its target. -/
  | heldEntryRelease (l : LaneId) (e : Engine) (miss : Option Copy) (t : LTime)
  /-- DOORBELL (R122): Release of a doorbell store hands the filling command bank to the drive engine as pending. -/
  | doorbell (l : LaneId) (v : Word)
  /-- STATUS_MAILBOX_READ (R125): A load of status mailbox word 0 latches the completed status under the ready/sequence rule. -/
  | statusMailboxRead (l : LaneId)
  /-- STATUS_PUBLISH (R152): Release of a drive store to mailbox word 0 publishes the status and sets PUB. -/
  | statusPublish (l : LaneId)
  /-- OPERATION_BUNDLE (R134): A drive operation bundle issues its X, Y and M slot operations together. -/
  | operationBundle (i : DriveIssue) (b : OpBundle)
  /-- IMMEDIATE_BUNDLE (R134): A drive immediate bundle writes a 32-bit immediate and its M slot. -/
  | immediateBundle (i : DriveIssue) (stg : BitVec 3) (wd : BitVec 6) (rsv : Byte) (imm : Word) (m : SlotM)
  /-- LOOP (R153): Drive modulo-scheduled loop with register rotation. -/
  | loop (i : DriveIssue) (cs : Bool) (wn : BitVec 6) (imm : BitVec 16) (s1 : BitVec 3) (l1 : BitVec 10) (rsv : BitVec 20)
  /-- BF (R136): Drive branch if flag set. -/
  | bf (i : DriveIssue) (f : BitVec 2) (rsv : BitVec 30) (off : BitVec 24)
  /-- BNF (R136): Drive branch if flag clear. -/
  | bnf (i : DriveIssue) (f : BitVec 2) (rsv : BitVec 30) (off : BitVec 24)
  /-- DRIVE_BRANCH (R136): Drive unconditional branch control bundle. -/
  | driveBranch (i : DriveIssue) (rsv : Word) (off : BitVec 24)
  /-- DRIVE_CALL (R136): Drive call pushing the return stack. -/
  | driveCall (i : DriveIssue) (rsv : Word) (off : BitVec 24)
  /-- RET (R136): Drive return popping the return stack. -/
  | ret (i : DriveIssue) (rsv : BitVec 56)
  /-- DRIVE_FENCE (R136): Drive wait until earlier stores drain or release. -/
  | driveFence (i : DriveIssue) (rsv : BitVec 56)
  /-- WFP (R155): Drive wait for the next PWM period start or an urgent event. -/
  | wfp (i : DriveIssue) (rsv : BitVec 56)
  /-- EDGE_ACCEPTED (R166): An edge on a position line is accepted after the glitch interval and updates its channel. -/
  | edgeAccepted (l : LaneId) (n : Fin 8) (e : PosEdge) (t : LTime)
  /-- REFINEMENT_DEADLINE (R177): At t1 + RWAIT with no edge the result is extrapolated and published. -/
  | refinementDeadline (l : LaneId) (s : Fin 16)
  /-- ZERO_SPEED_TIMEOUT (R178): No counted edge for ZTMO sets speed 0 with ZERO. -/
  | zeroSpeedTimeout (l : LaneId) (s : Fin 16)
  /-- HALL_TRANSITION (R183): A hall state change counts, skips or marks invalid. -/
  | hallTransition (l : LaneId) (h : Fin 8) (lines : BitVec 3) (t : LTime)
  /-- HALL_INVALID_STATE_TIMEOUT (R184): Hall state 0 or 7 held for 2 µs causes a hall fault. -/
  | hallInvalidStateTimeout (l : LaneId) (h : Fin 8)
  /-- SSI_FRAME_END (R187): An SSI frame completes and is accepted or rejected. -/
  | ssiFrameEnd (l : LaneId) (m : Fin 2) (d : SsiData) (t : LTime)
  /-- ECHO_EDGE (R191): An echo output emits a scheduled quadrature edge. -/
  | echoEdge (l : LaneId) (k : Fin 2) (t : LTime)
  /-- CLEAR_FAULT (R195): POS_CMD clears CFLT, HFLT or the SSI fault of a target. -/
  | clearFault (l : LaneId) (target : Reg5)
  /-- RE_REFERENCE_INDEX (R195): POS_CMD clears SUSPECT and REFD so the next index takes a new reference. -/
  | reReferenceIndex (l : LaneId) (target : Reg5)
  /-- CLEAR_DRIFT_STATISTIC (R195): POS_CMD clears the drift statistic of a channel. -/
  | clearDriftStatistic (l : LaneId) (target : Reg5)
  /-- SPEED_RESULT_READ (R181): A read of POS_SRs_STAT latches a speed result set. -/
  | speedResultRead (l : LaneId) (s : Fin 16)
  /-- SSI_RESULT_READ (R181): A read of POS_SSm_STAT latches an SSI result set. -/
  | ssiResultRead (l : LaneId) (m : Fin 2)
  /-- COMMUTATION_AT_CT (R204): At CT a channel with NEXT moves to the neighbouring sector. -/
  | commutationAtCt (l : LaneId) (c : Fin 6)
  /-- SAMPLE (R205): Converters sample currents and the floating node at the window centre. -/
  | sample (l : LaneId) (c : Fin 6) (d : SampleData) (t : LTime)
  /-- DEMAGNETISATION_END (R206): The floating switch node leaves its clamping rail. -/
  | demagnetisationEnd (l : LaneId) (c : Fin 6)
  /-- SHORT_RECATCH (R225): Every 10 ms of SHORT the channel holds FREE for a 2 ms re-catch. -/
  | shortRecatch (l : LaneId) (c : Fin 6) (t : LTime)
  /-- SHORT_TIMEOUT (R225): After 2 s of SHORT the channel sets SFLT and enters OFF. -/
  | shortTimeout (l : LaneId) (c : Fin 6)
  /-- ALIGN_END (R226): ALIGNT elapses and the channel enters RAMP. -/
  | alignEnd (l : LaneId) (c : Fin 6)
  /-- LOW_SPEED (R229): Sixteen consecutive low-speed periods set LOWSPD. -/
  | lowSpeed (l : LaneId) (c : Fin 6)
  /-- HALL_CROSS_CHECK_FAULT (R218): Three disagreeing counted columns set HXF. -/
  | hallCrossCheckFault (l : LaneId) (c : Fin 6) (emfOk : Bool)
  /-- DRIVE_DEFICIT (R235): Eight consecutive deficit periods set DEF. -/
  | driveDeficit (l : LaneId) (c : Fin 6)
  /-- BOOTSTRAP_REFRESH (R233): After 15 full-on periods the 16th period is a refresh period. -/
  | bootstrapRefresh (l : LaneId) (leg : Fin 18)
  /-- START_FORWARD (R221): COMM_CMD START forward of a channel in OFF. -/
  | startForward (l : LaneId) (c : Fin 6)
  /-- START_REVERSE (R221): COMM_CMD START reverse of a channel in OFF. -/
  | startReverse (l : LaneId) (c : Fin 6)
  /-- CHANNEL_STOP (R221): COMM_CMD STOP makes the channel FREE and OFF. -/
  | channelStop (l : LaneId) (c : Fin 6)
  /-- CHANNEL_CLEAR (R221): COMM_CMD CLEAR clears SFLT, DEF, HXF and BADC and turns LOST into OFF. -/
  | channelClear (l : LaneId) (c : Fin 6)
  /-- MANUAL_ON (R259): LOOP_CMD MANUAL ON puts a slot in manual. -/
  | manualOn (l : LaneId) (slot : Reg5)
  /-- MANUAL_OFF (R259): LOOP_CMD MANUAL OFF ends manual with a preset. -/
  | manualOff (l : LaneId) (slot : Reg5)
  /-- PRESET (R260): LOOP_CMD PRESET presets the named slots from LOOP_MANi. -/
  | preset (l : LaneId) (slot : Reg5)
  /-- INJECT_START (R263): LOOP_CMD INJECT START begins the test signal. -/
  | injectStart (l : LaneId)
  /-- INJECT_STOP (R263): LOOP_CMD INJECT STOP ends the test signal. -/
  | injectStop (l : LaneId)
  /-- CAPTURE_START (R266): LOOP_CMD CAPTURE START begins capture into the buffer. -/
  | captureStart (l : LaneId)
  /-- CAPTURE_STOP (R266): LOOP_CMD CAPTURE STOP ends capture and publishes the result. -/
  | captureStop (l : LaneId)
  /-- SWEEP_END (R265): The swept sine ends after LOOP_SWDUR frames or at the frequency limit. -/
  | sweepEnd (l : LaneId)
  /-- CAPTURE_END (R266): The capture buffer fills and the capture result is published. -/
  | captureEnd (l : LaneId)
  /-- LOOP_RSTAT_READ (R257): A read of LOOP_RSTAT latches the loop result set. -/
  | loopRstatRead (l : LaneId)
  /-- LOOP_CAPSTAT_READ (R266): A read of LOOP_CAPSTAT latches the capture result. -/
  | loopCapstatRead (l : LaneId)
  /-- LOOP_CAPDATA_READ (R267): A read returns and compares the buffer word and increments the index. -/
  | loopCapdataRead (l : LaneId)
  /-- LOCK_OUT_ENGAGE (R273): x_VGD falls below 8.5 V; all gates go low and the lane withdraws. -/
  | lockOutEngage (l : LaneId) (t : LTime)
  /-- LOCK_OUT_RELEASE (R272): x_VGD rises above 9.2 V and the lock-out releases. -/
  | lockOutRelease (l : LaneId) (t : LTime)
  /-- BLANKING_END (R283): Blanking of a transistor ends and its trip comparator is unmasked. -/
  | blankingEnd (l : LaneId) (leg : Fin 18) (low : Bool) (above : Bool) (t : LTime)
  /-- SHORT_DETECTED (R284): A hard or trip filter expires and the leg begins soft turn-off and latches. -/
  | shortDetected (l : LaneId) (leg : Fin 18) (low : Bool) (hard : Bool) (t : LTime)
  /-- SOFT_TURN_OFF_END (R285): A soft turn-off ends and the channel's other legs turn off. -/
  | softTurnOffEnd (l : LaneId) (leg : Fin 18)
  /-- BRDG_SCCLR (R288): A short-circuit clear releases latched legs that meet the conditions. -/
  | brdgScclr (l : LaneId) (legs : BitVec 18) (below : BitVec 18)
  /-- RESERVE_STAGE_SWITCH (R270): A gate output changes to its reserve stage once both outputs of its leg are low. -/
  | reserveStageSwitch (l : LaneId) (o : Fin 37)
  /-- VBUS_CONVERSION (R281): x_VBUS is converted every 1 µs into BRDG_VBUS. -/
  | vbusConversion (l : LaneId) (code : BitVec 16) (t : LTime)
  /-- CHOPPER_ON (R290): VBUS at or above CHTH for 1 µs turns the chopper on. -/
  | chopperOn (l : LaneId) (t : LTime)
  /-- CHOPPER_OFF (R290): VBUS below CHTH - HYS for 1 µs turns the chopper off. -/
  | chopperOff (l : LaneId) (t : LTime)
  /-- CHOPPER_CURRENT_SAMPLE (R291): The chopper sense current is sampled and low time counted. -/
  | chopperCurrentSample (l : LaneId) (ma : Nat)
  /-- CHOPPER_OVER_TIMEOUT (R292): VBUS above CHTH + 4 V for 200 µs with the chopper on is a fault OVER. -/
  | chopperOverTimeout (l : LaneId)
  /-- CHOPPER_SHORT (R292): Chopper sense current above its limit for 60 ns latches it off, cause SHORT. -/
  | chopperShort (l : LaneId)
  /-- OVERVOLTAGE_LINE (R297): VBUS at OVABS for 2 µs raises the line to the Stopper and sets OVA. -/
  | overvoltageLine (l : LaneId) (t : LTime)
  /-- OVERVOLTAGE_CLEAR (R297): VBUS below OVABS - 2 V for 1 ms clears OVA. -/
  | overvoltageClear (l : LaneId)
  /-- BRDG_CHCLR (R298): A chopper clear clears CHF and the SHORT latch if the conditions hold. -/
  | brdgChclr (l : LaneId) (v : Word) (ma : Nat)
  /-- SPLICE_LINK_LOST (R311): No valid character for 200 ns or four CRC failures loses a link. -/
  | spliceLinkLost (l : LaneId) (sd : Side)
  /-- SPLICE_LINK_RESTORED (R311): A passing packet after 1 ms of valid idle restores a link. -/
  | spliceLinkRestored (l : LaneId) (sd : Side)
  /-- AGREEMENT_PACKET_RECEIVED (R312): An agreement packet arrives on a splice link and completes rounds. -/
  | agreementPacketReceived (l : LaneId) (sd : Side) (relayed : Bool) (p : Packet) (t : LTime)
  /-- ROUND_TIMEOUT (R315): A lane's V packet missing at the end of its round registers its withdrawal. -/
  | roundTimeout (l : LaneId)
  /-- STATE_PACKET_RECEIVED (R335): A state block arrives and becomes readable once its check passes. -/
  | statePacketReceived (l : LaneId) (sd : Side) (blk : Byte) (data : List Word) (crcOk : Bool)
  /-- WITHDRAWAL_CODE_RECEIVED (R315): A lane's withdrawal code arrives and the withdrawal is registered. -/
  | withdrawalCodeReceived (l : LaneId) (src : LaneId)
  /-- WITHDRAWAL_DEMAND_RECEIVED (R316): A withdrawal demand arrives; two demands force hold and withdrawal. -/
  | withdrawalDemandReceived (l : LaneId) (src : LaneId)
  /-- VOTE_CUT (R320): The vote cut starts the V round. -/
  | voteCut (l : LaneId)
  /-- AGREEMENT_POINT (R320): Values for the next frame are captured and Q0-Q3 rounds start. -/
  | agreementPoint (l : LaneId)
  /-- SHARE_CUT (R320): Withdrawals registered by now take effect at the next frame start. -/
  | shareCut (l : LaneId)
  /-- UNMATCHED_COMMAND (R326): A command without a matching copy by 28.68 µs is discarded. -/
  | unmatchedCommand (l : LaneId) (t : LTime)
  /-- COMPARATOR_SELF_CHECK_DONE (R338): The comparator self-check completes with pass or miss. -/
  | comparatorSelfCheckDone (l : LaneId) (miss : Byte)
  /-- TALLY_VSTAT_READ (R328): A read of TALLY_VSTAT latches the vote result. -/
  | tallyVstatRead (l : LaneId)
  /-- TALLY_SCK_READ (R338): A read of TALLY_SCK latches the self-check result. -/
  | tallySckRead (l : LaneId)
  /-- TALLY_AGDATA_ACCESS (R335): An access of the agreed-state word at TALLY_AGIDX increments the index. -/
  | tallyAgdataAccess (l : LaneId) (wr : Option Word)
  /-- TALLY_HDATA_READ (R336): A read returns a history word and increments the word index. -/
  | tallyHdataRead (l : LaneId)
  /-- SAFETY_INPUT_FILTERED (R342): A safety input settles open or closed after 1.5 ms of equal samples. -/
  | safetyInputFiltered (l : LaneId) (inp : Fin 4) (closed : Bool) (t : LTime)
  /-- DISCREPANCY (R343): A pair's filtered inputs differ for 50 ms. -/
  | discrepancy (l : LaneId) (guard : Bool)
  /-- CHALLENGE (R344): The Stopper issues a heartbeat challenge every 1 ms. -/
  | challenge (l : LaneId) (t : LTime)
  /-- HEARTBEAT_RESPONSE (R344): Release of a store to LCTL_HBRESP is judged as an answer. -/
  | heartbeatResponse (l : LaneId) (v : Word) (t : LTime)
  /-- CHALLENGE_MISS (R344): A challenge with no answer by 800 µs is a miss. -/
  | challengeMiss (l : LaneId)
  /-- NO_VALID_LANE (R341): While armed, no valid lane for 1 ms triggers a reaction. -/
  | noValidLane (l : LaneId)
  /-- CHOP_BOUNDARY (R350): A park-path chop period begins and the positive high side turns on. -/
  | chopBoundary (l : LaneId) (c : Fin 6)
  /-- CHOP_END (R350): The high side turns off at the current limit or 47 µs after the boundary. -/
  | chopEnd (l : LaneId) (c : Fin 6)
  /-- APPLY_TIME_END (R350): APPLYT elapses and the limit changes to HOLDI. -/
  | applyTimeEnd (l : LaneId)
  /-- STOPPER_LOSS (R356): A half disagreement or readback error persists and the Stopper opens its switches. -/
  | stopperLoss (l : LaneId) (cause : StopperCause)
  /-- OUTPUT_SWITCH_TEST_DONE (R378): The STARTTEST output switch test completes. -/
  | outputSwitchTestDone (l : LaneId) (pass : Bool)
  /-- LCTL_GTACK (R355): Release of a store of 1 acknowledges the guard cycle for the helm. -/
  | lctlGtack (l : LaneId) (v : Word)
  /-- STANDSTILL_TIME_ELAPSED (R361): SPDW has stayed below VSTOP for 500 ms. -/
  | standstillTimeElapsed (l : LaneId)
  /-- LIMP_TIME_ELAPSED (R361): LIMPT has elapsed since LIMP began. -/
  | limpTimeElapsed (l : LaneId)
  /-- REQUEST_STANDBY (R367): A mode request for STANDBY is judged at its frame. -/
  | requestStandby (l : LaneId)
  /-- REQUEST_ARMED (R367): A mode request for ARMED is judged at its frame. -/
  | requestArmed (l : LaneId)
  /-- REQUEST_SERVICE (R367): A mode request for SERVICE is judged at its frame. -/
  | requestService (l : LaneId)
  /-- REQUEST_RUN3 (R367): A mode request for RUN3 is judged at its frame. -/
  | requestRun3 (l : LaneId)
  /-- REQUEST_RUN2 (R367): A mode request for RUN2 is judged at its frame. -/
  | requestRun2 (l : LaneId)
  /-- REQUEST_SLEEP (R382): A mode request for SLEEP starts the sleep sequence. -/
  | requestSleep (l : LaneId)
  /-- REQUEST_SHUTDOWN (R379): A mode request for SHUTDOWN starts the shutdown sequence. -/
  | requestShutdown (l : LaneId)
  /-- REQUEST_UPDATE (R511): A mode request for UPDATE of a named lane activates its pending target. -/
  | requestUpdate (l : LaneId) (named : BitVec 2)
  /-- REDUCED_BIST_DONE (R375): The reduced start-up BIST completes and writes its record. -/
  | reducedBistDone (l : LaneId) (r : BistResult)
  /-- SRAM_FILL_DONE (R390): All SRAM is filled and read back. -/
  | sramFillDone (l : LaneId) (bad : List FillError)
  /-- IMAGE_LOADED (R512): The image and configuration are loaded and verified. -/
  | imageLoaded (l : LaneId) (r : LoadResult)
  /-- CONFIGURATION_LOCK (R373): The configuration record is written into every LK field and locked. -/
  | configurationLock (l : LaneId)
  /-- SHUTDOWN_LOG_FLUSHED (R379): The log line and wear records are flushed to MRAM. -/
  | shutdownLogFlushed (l : LaneId)
  /-- FIELD_FUSE_REPAIR (R400): A pending hard address is repaired with a spare row or column. -/
  | fieldFuseRepair (l : LaneId)
  /-- ZEROISATION_CONFIRMED (R380): The zeroisation circuit confirms and scan is enabled. -/
  | zeroisationConfirmed (l : LaneId)
  /-- ZEROISATION_TIMEOUT (R380): No confirmation within 20 ms; a failing record is written without BIST. -/
  | zeroisationTimeout (l : LaneId)
  /-- LOGIC_BIST_DONE (R379): The shutdown logic BIST completes. -/
  | logicBistDone (l : LaneId) (pass : Bool)
  /-- MEMORY_BIST_DONE (R379): The shutdown memory BIST completes. -/
  | memoryBistDone (l : LaneId) (sramOk : Bool) (mramOk : Bool)
  /-- BIST_RECORD_WRITTEN (R381): The BIST record is written and switched domains power down. -/
  | bistRecordWritten (l : LaneId) (ms : BitVec 16)
  /-- KEY_HIGH (R385): x_KEY high for 10 ms wakes or restarts the lane. -/
  | keyHigh (l : LaneId) (t : LTime)
  /-- SLEEP_DOMAIN_ANSWER (R382): A domain agrees or refuses to sleep. -/
  | sleepDomainAnswer (l : LaneId) (a : SleepAnswer)
  /-- SLEEP_ANSWER_TIMEOUT (R382): A domain that has not answered in 100 µs has refused. -/
  | sleepAnswerTimeout (l : LaneId)
  /-- WAKE (R385): A CAN, Lay, guard, emergency-stop or partner event wakes the lane. -/
  | wake (l : LaneId) (w : WakeSource) (t : LTime)
  /-- WAKE_TIMER (R385): PWR_WKTIME seconds after sleep entry the lane wakes. -/
  | wakeTimer (l : LaneId) (t : LTime)
  /-- SCRUB_READ (R392): The scrub engine reads a word and corrects a single-bit error. -/
  | scrubRead (l : LaneId) (m : Fin 9) (wadr : BitVec 20) (upset : BitVec 39)
  /-- CORRECTIVE_WRITE_BACK (R394): A queued corrective write-back is performed unless a newer write intervened. -/
  | correctiveWriteBack (l : LaneId)
  /-- MEM_CBTEST (R397): A write to MEM_CBTEST turns check-bit test mode on or off. -/
  | memCbtest (l : LaneId) (v : Word)
  /-- MEM_CBGEN (R388): A write to MEM_CBGEN computes the check bits of a word. -/
  | memCbgen (l : LaneId) (v : Word)
  /-- SECTOR_PROGRAM (R403): A store-die sector program completes and is verified. -/
  | sectorProgram (l : LaneId) (blk : Fin 478) (sec : Fin 16) (crc : Word) (ok : Bool)
  /-- ERASE_DONE (R403): A block erase completes or fails at 400 ms. -/
  | eraseDone (l : LaneId) (blk : Fin 478) (ok : Bool)
  /-- SECTOR_READ_CHECK (R404): A sector read is checked against its CRC and retried. -/
  | sectorReadCheck (l : LaneId) (blk : Fin 478) (sec : Fin 16) (r : SectorRead)
  /-- BLOCK_REFRESH (R405): A marked block is moved to a reserve block. -/
  | blockRefresh (l : LaneId) (blk : Fin 478) (eraseOk : Bool)
  /-- RETENTION_READ (R420): Every 200 h each written block's retention margin is read. -/
  | retentionRead (l : LaneId) (blk : Fin 478) (margin : Nat)
  /-- CHAFE_WINDOW (R409): A 1 ms monitor window ends and the drift is published. -/
  | chafeWindow (l : LaneId) (d : Fin 9) (n : Nat) (tj : Int)
  /-- PLANNER_THRESHOLD (R412): Drift held at a threshold for 60 s triggers the planner's action. -/
  | plannerThreshold (l : LaneId) (th : PlanStep)
  /-- WEAR_RECORD (R424): An hourly wear record is written to MRAM. -/
  | wearRecord (l : LaneId)
  /-- BASELINE_PERIOD_END (R417): After 10 h of running an edge-time baseline is set. -/
  | baselinePeriodEnd (l : LaneId) (o : Fin 37) (rise : Nat) (fall : Nat)
  /-- CONVERTER_TAKEOVER (R421): A reserve converter takes over after shadowing 64 periods. -/
  | converterTakeover (l : LaneId) (k : Fin 24)
  /-- BASE (R417): WEAR_CMD BASE resets the edge-time baselines. -/
  | base (l : LaneId)
  /-- LOG_EVENT_WRITE (R426): The log-line writer writes a buffered event into MRAM. -/
  | logEventWrite (l : LaneId)
  /-- FROZEN_RECORD_COPY (R430): A locked span finishes copying to a frozen-record slot. -/
  | frozenRecordCopy (l : LaneId)
  /-- LOG_USER (R427): A held store writes a user event. -/
  | logUser (l : LaneId) (v : Word)
  /-- LOG_RSEL_WRITE (R425): A write selects an event SEQ and resets the word index. -/
  | logRselWrite (l : LaneId) (v : Word)
  /-- LOG_RDATA_READ (R425): A read returns an event word and increments the index. -/
  | logRdataRead (l : LaneId)
  /-- LOG_FDATA_READ (R432): A read returns a frozen-record word and increments the index. -/
  | logFdataRead (l : LaneId)
  /-- LAY_FRAME_VALID (R441): A received Lay frame passes acceptance and raises its frame-valid event. -/
  | layFrameValid (l : LaneId) (f : LayRx) (t : LTime)
  /-- LAY_CYCLE_START (R442): A 1 ms Lay cycle starts in network time. -/
  | layCycleStart (l : LaneId) (t : LTime)
  /-- MISSING_REFERENCE_FRAME (R448): A reference slot passes without an accepted reference frame. -/
  | missingReferenceFrame (l : LaneId)
  /-- REFERENCE_FRAME_SEND (R454): A reference node sends a reference frame at the action point. -/
  | referenceFrameSend (l : LaneId) (rbOk : BitVec 2) (t : LTime)
  /-- STRAND_FRAME_SEND (R458): A committed strand buffer is sent in its slot. -/
  | strandFrameSend (l : LaneId) (b : Fin 64) (rbOk : Bool)
  /-- YARN_SLOT_END (R445): A yarn slot ends and the yarn counter advances. -/
  | yarnSlotEnd (l : LaneId) (h : Fin 2) (dur : Nat)
  /-- YARN_FRAME_SEND (R458): A pending yarn buffer is sent in its slot. -/
  | yarnFrameSend (l : LaneId) (h : Fin 2) (rbOk : Bool)
  /-- TAKEOVER (R455): A backup reference node enters REF after its count of missing frames. -/
  | takeover (l : LaneId)
  /-- COLD_START (R456): After 5 ms UNSYNC a cold-start reference frame is sent. -/
  | coldStart (l : LaneId) (t : LTime)
  /-- COLD_START_COLLISION (R457): A cold-start readback differs and the node waits RANK x 250 µs. -/
  | coldStartCollision (l : LaneId) (bad : BitVec 2) (t : LTime)
  /-- COLD_START_RETRY (R457): The collision wait ends and the cold-start frame is sent again. -/
  | coldStartRetry (l : LaneId) (t : LTime)
  /-- TRANSMIT_COMMIT (R458): A held store to LAY_TXCTLb commits staged data, LEN and KIND. -/
  | transmitCommit (l : LaneId) (b : Fin 66) (v : Word)
  /-- LAY_YQACK (R462): A SEQ store removes the oldest receive-queue entry. -/
  | layYqack (l : LaneId) (v : Word)
  /-- LAY_CQACK (R464): A SEQ store removes the oldest agreed-command entry. -/
  | layCqack (l : LaneId) (v : Word)
  /-- TRANSMITTER_ON (R460): A held store to LAY_CTL turns a transmitter on again. -/
  | transmitterOn (l : LaneId) (v : Word)
  /-- LAY_RXSTAT_READ (R461): A read latches a strand receive result set. -/
  | layRxstatRead (l : LaneId) (b : Fin 64)
  /-- LAY_YQSTAT_READ (R462): A read latches the oldest receive-queue entry. -/
  | layYqstatRead (l : LaneId)
  /-- LAY_YQDATA_READ (R462): A read returns the next payload word of the latched entry. -/
  | layYqdataRead (l : LaneId)
  /-- LAY_CQSTAT_READ (R464): A read latches the oldest agreed command. -/
  | layCqstatRead (l : LaneId)
  /-- SUMMARY (R477): Host command returning the 512-byte SUMMARY record. -/
  | summary (l : LaneId) (k : HostCmd)
  /-- MODE (R470): Host command writing LCTL_MODEREQ. -/
  | mode (l : LaneId) (k : HostCmd)
  /-- STOP (R473): Host command overriding brake channel duty via an urgent message. -/
  | hostStop (l : LaneId) (k : HostCmd)
  /-- RELEASE (R473): Host command ending a STOP override. -/
  | release (l : LaneId) (k : HostCmd)
  /-- CHANNEL (R470): Host command writing COMM_CMD. -/
  | channel (l : LaneId) (k : HostCmd)
  /-- LOOPCMD (R470): Host command writing LOOP_CMD. -/
  | loopcmd (l : LaneId) (k : HostCmd)
  /-- SETVAL (R470): Host command staging a LOOP_SP, LOOP_AUX or LOOP_MAN value. -/
  | setval (l : LaneId) (k : HostCmd)
  /-- CLEAR (R470): Host command writing BRDG_SCCLR, BRDG_CHCLR or POS_CMD. -/
  | hostClear (l : LaneId) (k : HostCmd)
  /-- LOGREAD (R470): Host command returning log events. -/
  | logread (l : LaneId) (k : HostCmd)
  /-- FROZENREAD (R470): Host command starting the read of a frozen-record sector. -/
  | frozenread (l : LaneId) (k : HostCmd)
  /-- FROZENREAD_DONE (R476): A frozen-record sector result becomes ready. -/
  | frozenreadDone (l : LaneId)
  /-- RESULT (R475): Host command returning a pending command's result. -/
  | result (l : LaneId) (k : HostCmd)
  /-- ATTEST (R519): Host command starting an attestation report. -/
  | attest (l : LaneId) (k : HostCmd)
  /-- ATTEST_DONE (R519): The signed attestation report becomes ready. -/
  | attestDone (l : LaneId)
  /-- UNKNOWN_OPCODE (R470): A command with an unlisted opcode is answered with RESULT 0x02. -/
  | unknownOpcode (l : LaneId) (k : HostCmd)
  /-- OPEN (R507): Update command erasing the target and opening a session. -/
  | openSession (l : LaneId) (k : HostCmd)
  /-- OPEN_ERASE_DONE (R507): The OPEN erase completes. -/
  | openEraseDone (l : LaneId)
  /-- CLOSE (R509): Update command verifying the transferred image. -/
  | closeSession (l : LaneId) (k : HostCmd)
  /-- CLOSE_VERIFY_DONE (R509): Verification of a closed session completes. -/
  | closeVerifyDone (l : LaneId)
  /-- ARM (R510): Update command making a verified target pending. -/
  | arm (l : LaneId) (k : HostCmd)
  /-- ABORT (R507): Update command ending a session. -/
  | abort (l : LaneId) (k : HostCmd)
  /-- COMMIT (R514): Update command committing a migrated configuration. -/
  | commit (l : LaneId) (k : HostCmd)
  /-- ROLLBACK (R515): Update command making the previous slot and copy pending. -/
  | rollback (l : LaneId) (k : HostCmd)
  /-- STATUS (R507): Update command returning update status. -/
  | status (l : LaneId) (k : HostCmd)
  /-- REVOKE (R506): Update command applying a verified revocation. -/
  | revoke (l : LaneId) (k : HostCmd)
  /-- UPDATE_CHUNK (R508): An update data chunk is moved into the update engine; complete blocks are checked and programmed. -/
  | updateChunk (l : LaneId) (c : Chunk)
  /-- TRIAL_TIMEOUT (R514): A lane not RUNNING 2 s after release falls back to the previous slot. -/
  | trialTimeout (l : LaneId)
  /-- UPD_STAT_READ (R467): A read latches the update result set. -/
  | updStatRead (l : LaneId)
  /-- LCTL_BISTSTAT_READ (R467): A read latches the BIST result set. -/
  | lctlBiststatRead (l : LaneId)
  /-- ADDRESS_CLAIM (R479): An ISO 11783 address claim is received or lost. -/
  | addressClaim (l : LaneId) (addr : Byte) (name : BitVec 64)
  /-- REQUEST (R478): An ISO 11783 Request is answered or negatively acknowledged. -/
  | request (l : LaneId) (pgn : BitVec 18) (src : Byte) (dst : Byte)
  /-- TRANSPORT_PACKET (R478): An ISO 11783 transport protocol packet is received. -/
  | transportPacket (l : LaneId) (p : TpPacket) (t : LTime)
  /-- PROPRIETARY_A_COMMAND (R480): A command received over ISO 11783 is sent for agreement. -/
  | proprietaryACommand (l : LaneId) (src : Byte) (data : List Byte) (t : LTime)
  /-- DM3 (R482): DM3 clears DM2. -/
  | dm3 (l : LaneId)
  /-- BUS_OFF_RECOVERY (R478): Bus-off recovers after 128 x 11 recessive bits. -/
  | busOffRecovery (l : LaneId)
  /-- STATUS_MESSAGE (R481): A Proprietary B status message is sent every PER x 10 ms. -/
  | statusMessage (l : LaneId)
  /-- WHEEL_BASED_SPEED (R483): Wheel-based speed and distance is sent every 100 ms. -/
  | wheelBasedSpeed (l : LaneId)
  /-- GROUND_BASED_SPEED (R528): An accepted ground-based speed message completes a CAN_GS result. -/
  | groundBasedSpeed (l : LaneId) (spd : BitVec 16) (dir : BitVec 2) (dist : Word)
  /-- CAN_GSSTAT_READ (R528): A read latches the ground-based speed result. -/
  | canGsstatRead (l : LaneId)
  /-- GNSS_SENTENCE (R484): An NMEA sentence is accepted or discarded; an epoch may be published. -/
  | gnssSentence (l : LaneId) (s : Nmea) (t : LTime)
  /-- GNSS_PPS_EDGE (R485): A 1PPS edge is timestamped for pairing. -/
  | gnssPpsEdge (l : LaneId) (t : LTime)
  /-- PPS_PAIRING_TIMEOUT (R485): A 1PPS edge without an RMC within 900 ms sets PPSM. -/
  | ppsPairingTimeout (l : LaneId)
  /-- GNSS_STAT_READ (R484): A read latches the GNSS epoch. -/
  | gnssStatRead (l : LaneId)
  /-- SECTION_EDGE (R494): A committed section edge changes the lane's output level. -/
  | sectionEdge (l : LaneId) (j : Fin 48)
  /-- SCHEDULE_COMMIT (R490): A store to SECT_NXTj_C commits a next boundary record. -/
  | scheduleCommit (l : LaneId) (j : Fin 48) (v : Word)
  /-- SECTION_FORCE (R495): A SECT_FORCE write sets SERVICE levels from the next frame start. -/
  | sectionForce (l : LaneId) (upper : Bool) (v : Word)
  /-- VALID_LINE_CHANGE (R496): A lane's valid line at a majority gate changes. -/
  | validLineChange (l : LaneId)
  /-- GATE_DISAGREEMENT (R497): A valid input differs from SECn for 200 ns and is counted. -/
  | gateDisagreement (j : Fin 48) (src : LaneId)
  /-- SECT_ESTAT_READ (R486): A read latches the motion estimate result set. -/
  | sectEstatRead (l : LaneId)
  /-- REGISTER_WRITE (R10): A write to a register without its own row acts by its access code. -/
  | registerWrite (l : LaneId) (addr : Word) (v : Word)
  /-- FEED_SOURCE_CHANGE (R20): The feed that supplies the lane changes because one present feed rises above the other or the two come within 0.2 V, changing F1_SRC and F2_SRC without REVB. -/
  | feedSourceChange (l : LaneId) (mv1 : Int) (mv2 : Int)
  /-- FEED_REVERSED_POLARITY (R21): A feed is connected with reversed polarity; it supplies nothing, reads as absent and sets REVB. -/
  | feedReversedPolarity (l : LaneId) (f : FeedId)
  /-- CATCH_SAMPLE (R223): During CATCH, or a re-catch in SHORT, the converters sample the three switch nodes every 10 µs for zero crossings and amplitude. -/
  | catchSample (l : LaneId) (c : Fin 6) (vu : Int) (vv : Int) (vw : Int) (t : LTime)
  /-- PWM_EDGE (R276): A gate output turns on or off at its commanded instant within the period, with dead time on turn-on, starting blanking and the edge-time measurement. -/
  | pwmEdge (l : LaneId) (o : Fin 37) (on : Bool) (ns : Nat) (t : LTime)
  /-- SHORT_PULSE_CURRENT_LIMIT (R201): In a LOWP period the low-side sense current exceeds SHILIM and the pulse ends early. -/
  | shortPulseCurrentLimit (l : LaneId) (leg : Fin 18)
  /-- BUS_OFF (R478): The lane's CAN controller enters bus-off and sets CAN_STAT.BUSOFF. -/
  | busOff (l : LaneId)
  /-- BOUNDARY_SCAN_INSTRUCTION (R541): An IEEE 1149.1 instruction is loaded on the lane's test port; EXTEST is accepted only in INIT or SHUTDOWN and otherwise selects BYPASS. -/
  | boundaryScanInstruction (l : LaneId) (i : JtagInstr)
  deriving DecidableEq, Repr

end Sys2Proof
end

