-- ==== Sys2Proof/WellFormed.lean ====
section
/-!
DEFINITION. Well-formed commands: the fields of a helm instruction (R62, R68, R69, R71) and of a drive bundle (R133,
R134, R142, R143) that are legal whatever the state. Every other command is well formed as its type has it.
-/

namespace Sys2Proof

/-- A predicate encoding that is legal (R69). -/
def predLegal (i : HelmIssue) : Bool := !(i.pn && i.pq == 0)

/-- The fields of a helm instruction that it does not use are 0, its destination is no q0, its condition and control
register exist. -/
def fieldsLegal : Instr → Bool
  | .abs _ _ _ gb | .clz _ _ _ gb | .pop _ _ _ gb | .sxb _ _ _ gb | .sxh _ _ _ gb | .zxb _ _ _ gb | .zxh _ _ _ gb
  | .qneg _ _ _ gb | .qabs _ _ _ gb => gb == 0
  | .oril _ _ imm => imm.extractLsb' 14 4 == 0
  | .mac _ _ gd _ _ | .msu _ _ gd _ _ | .macu _ _ gd _ _ | .mst _ _ gd _ _ | .mtac _ _ gd _ _ => gd == 0
  | .clr _ _ gd ga gb => gd == 0 && ga == 0 && gb == 0
  | .mfal _ _ _ ga gb | .mfah _ _ _ ga gb | .mfag _ _ _ ga gb | .exq _ _ _ ga gb => ga == 0 && gb == 0
  | .exs _ _ _ ga _ => ga == 0
  | .jr _ gd _ gb fn => gd == 0 && gb == 0 && fn == 0
  | .jalr _ _ _ gb fn => gb == 0 && fn == 0
  | .cmp _ qd _ _ cond rsv => qd != 0 && cond != 7 && rsv == 0
  | .cmpi _ qd _ cond _ => qd != 0 && cond != 7
  | .qand _ qd _ _ rsv | .qor _ qd _ _ rsv | .qxor _ qd _ _ rsv | .qandn _ qd _ _ rsv => qd != 0 && rsv == 0
  | .mfq _ _ ga gb => ga == 0 && gb == 0
  | .mtq _ gd _ gb => gd == 0 && gb == 0
  | .mfcs _ _ cs ga rsv => decide (cs.toNat ≤ 7) && ga == 0 && rsv == 0
  | .mtcs _ gd cs _ rsv => decide (cs.toNat ≤ 7) && gd == 0 && rsv == 0
  | .trap _ rsv code => rsv == 0 && code.extractLsb' 8 8 == 0
  | .eret _ rsv | .fence _ rsv | .wfe _ rsv => rsv == 0
  | _ => true

/-- Slot X or Y: an opcode of the table with its unused fields 0 and its indexes in range. -/
def slotLegal (x : SlotXY) : Bool :=
  let (n, a, b) := (x.d.toNat, x.a.toNat, x.b.toNat)
  match x.op.toNat with
  | 0x00 => n == 0 && a == 0 && b == 0
  | 0x08 | 0x09 | 0x0A => decide (b ≤ 31)
  | 0x0D | 0x0E => b == 0
  | 0x10 | 0x11 | 0x12 => decide (1 ≤ n ∧ n ≤ 3)
  | 0x13 | 0x14 | 0x15 => decide (n ≤ 3)
  | 0x17 => decide (a ≤ 3) && b == 0
  | 0x18 => decide (a ≤ 3)
  | 0x19 => decide (n ≤ 3) && a == 0 && b == 0
  | 0x1A | 0x1B => decide (1 ≤ b ∧ b ≤ 16 ∧ a + b ≤ 64 ∧ n ≤ 62)
  | 0x1D | 0x1E | 0x1F => false
  | _ => true

/-- Slot M. -/
def slotMLegal (m : SlotM) : Bool :=
  match m.op.toNat with
  | 0x0 => m.w == 0 && m.p == 0
  | 0xB | 0xD => m.w == 0 && decide (m.p.toNat ≤ 5)
  | 0xC => m.p == 0
  | 0xE | 0xF => false
  | _ => true

/-- The fields of a drive bundle. -/
def bundleLegal : Instr → Bool
  | .operationBundle _ b => slotLegal b.x && slotLegal b.y && slotMLegal b.m && decide (b.y.op.toNat < 0x1A)
  | .immediateBundle _ _ _ rsv _ m => rsv == 0 && slotMLegal m
  | .loop _ _ _ _ _ _ rsv => rsv == 0
  | .bf _ _ rsv _ | .bnf _ _ rsv _ => rsv == 0
  | .driveBranch _ rsv _ | .driveCall _ rsv _ => rsv == 0
  | .ret _ rsv | .driveFence _ rsv | .wfp _ rsv => rsv == 0
  | _ => true

/-- The issue of a helm instruction; none for any other command. -/
def helmIssue? : Instr → Option HelmIssue
  | .add i .. | .sub i .. | .and i .. | .or i .. | .xor i .. | .andn i .. | .sll i .. | .srl i .. | .sra i ..
  | .slt i .. | .sltu i .. | .min i .. | .max i .. | .minu i .. | .maxu i .. | .abs i .. | .clz i .. | .pop i ..
  | .sxb i .. | .sxh i .. | .zxb i .. | .zxh i .. | .qadd i .. | .qsub i .. | .qneg i .. | .qabs i .. | .qshl i ..
  | .addi i .. | .andi i .. | .ori i .. | .xori i .. | .lui i .. | .oril i .. | .mul i .. | .mulh i .. | .mulhu i ..
  | .qmul i .. | .div i .. | .divu i .. | .rem i .. | .remu i .. | .mac i .. | .msu i .. | .macu i .. | .mst i ..
  | .clr i .. | .mtac i .. | .mfal i .. | .mfah i .. | .mfag i .. | .exq i .. | .exs i .. | .ldw i .. | .ldh i ..
  | .ldhu i .. | .ldb i .. | .ldbu i .. | .stw i .. | .sth i .. | .stb i .. | .br i .. | .call i .. | .jr i ..
  | .jalr i .. | .cmp i .. | .cmpi i .. | .qand i .. | .qor i .. | .qxor i .. | .qandn i .. | .mfq i .. | .mtq i ..
  | .mfcs i .. | .mtcs i .. | .trap i .. | .eret i .. | .fence i .. | .wfe i .. => some i
  | _ => none

/-- The issue of a drive bundle; none for any other command. -/
def driveIssue? : Instr → Option DriveIssue
  | .operationBundle i .. | .immediateBundle i .. | .loop i .. | .bf i .. | .bnf i .. | .driveBranch i ..
  | .driveCall i .. | .ret i .. | .driveFence i .. | .wfp i .. => some i
  | _ => none

/-- A well-formed command. -/
def wellFormed (c : Instr) : Bool :=
  (match helmIssue? c with
    | some i => predLegal i
    | none => true) && fieldsLegal c && bundleLegal c

end Sys2Proof
end

