-- ==== Sys2Proof/Decode.lean ====
section
/-!
DEFINITION. Words and commands: the table's own words, and the encodings of the helm's instructions (R68) and of the
drive engine's bundles (R133), whose commands stand for a word that an engine pair has fetched.
-/

namespace Sys2Proof

/-- The command that a word of spec/opcode_table.json spells: its rows give no bits, so no word spells one (log 35). -/
def decodeTableWord (_nbits _w : Nat) : Option Instr := none

/-! ### Helm words (R68) -/

/-- The fields of format A: opcode, gd, ga, gb, fn. -/
def formA (i : HelmIssue) (op : BitVec 6) (gd ga gb : Reg5) (fn : Byte) : Word :=
  BitVec.ofBool i.pn ++ i.pq ++ op ++ gd ++ ga ++ gb ++ fn

/-- Formats I and M: opcode, gd, ga, imm13. -/
def formI (i : HelmIssue) (op : BitVec 6) (gd ga : Reg5) (imm : Imm13) : Word :=
  BitVec.ofBool i.pn ++ i.pq ++ op ++ gd ++ ga ++ imm

/-- Format U. -/
def formU (i : HelmIssue) (op : BitVec 6) (gd : Reg5) (imm : BitVec 18) : Word := BitVec.ofBool i.pn ++ i.pq ++ op ++ gd ++ imm

/-- Format B, and the 23 low bits of the system instructions without fields. -/
def formB (i : HelmIssue) (op : BitVec 6) (off : BitVec 23) : Word := BitVec.ofBool i.pn ++ i.pq ++ op ++ off

/-- Format C. -/
def formC (i : HelmIssue) (qd : BitVec 2) (ga gb : Reg5) (cond : BitVec 3) (rsv : Byte) : Word :=
  BitVec.ofBool i.pn ++ i.pq ++ (0x28 : BitVec 6) ++ qd ++ ga ++ gb ++ cond ++ rsv

/-- Format CI. -/
def formCI (i : HelmIssue) (qd : BitVec 2) (ga : Reg5) (cond : BitVec 3) (imm : Imm13) : Word :=
  BitVec.ofBool i.pn ++ i.pq ++ (0x29 : BitVec 6) ++ qd ++ ga ++ cond ++ imm

/-- Format P. -/
def formP (i : HelmIssue) (qd qa qb : BitVec 2) (fn : BitVec 3) (rsv : BitVec 14) : Word :=
  BitVec.ofBool i.pn ++ i.pq ++ (0x2A : BitVec 6) ++ qd ++ qa ++ qb ++ fn ++ rsv

/-- Format S of trap. -/
def formTrap (i : HelmIssue) (rsv : BitVec 7) (code : BitVec 16) : Word :=
  BitVec.ofBool i.pn ++ i.pq ++ (0x32 : BitVec 6) ++ rsv ++ code

/-- fn of opcode 0x0A: the accumulator in bit 7. -/
def accFn (hb : Bool) (fn : BitVec 7) : Byte := BitVec.ofBool hb ++ fn

/-- The word of a helm instruction; none for the commands that are no instruction of the helm. -/
def encodeHelm : Instr → Option Word
  | .add i gd ga gb => some (formA i 0x00 gd ga gb 0x00)
  | .sub i gd ga gb => some (formA i 0x00 gd ga gb 0x01)
  | .and i gd ga gb => some (formA i 0x00 gd ga gb 0x02)
  | .or i gd ga gb => some (formA i 0x00 gd ga gb 0x03)
  | .xor i gd ga gb => some (formA i 0x00 gd ga gb 0x04)
  | .andn i gd ga gb => some (formA i 0x00 gd ga gb 0x05)
  | .slt i gd ga gb => some (formA i 0x00 gd ga gb 0x0A)
  | .sltu i gd ga gb => some (formA i 0x00 gd ga gb 0x0B)
  | .min i gd ga gb => some (formA i 0x00 gd ga gb 0x10)
  | .max i gd ga gb => some (formA i 0x00 gd ga gb 0x11)
  | .minu i gd ga gb => some (formA i 0x00 gd ga gb 0x12)
  | .maxu i gd ga gb => some (formA i 0x00 gd ga gb 0x13)
  | .abs i gd ga gb => some (formA i 0x00 gd ga gb 0x14)
  | .clz i gd ga gb => some (formA i 0x00 gd ga gb 0x18)
  | .pop i gd ga gb => some (formA i 0x00 gd ga gb 0x19)
  | .sxb i gd ga gb => some (formA i 0x00 gd ga gb 0x1A)
  | .sxh i gd ga gb => some (formA i 0x00 gd ga gb 0x1B)
  | .zxb i gd ga gb => some (formA i 0x00 gd ga gb 0x1C)
  | .zxh i gd ga gb => some (formA i 0x00 gd ga gb 0x1D)
  | .qadd i gd ga gb => some (formA i 0x00 gd ga gb 0x20)
  | .qsub i gd ga gb => some (formA i 0x00 gd ga gb 0x21)
  | .qneg i gd ga gb => some (formA i 0x00 gd ga gb 0x22)
  | .qabs i gd ga gb => some (formA i 0x00 gd ga gb 0x23)
  | .sll i imm gd ga gb => some (formA i (if imm then 0x05 else 0x00) gd ga gb 0x06)
  | .srl i imm gd ga gb => some (formA i (if imm then 0x05 else 0x00) gd ga gb 0x07)
  | .sra i imm gd ga gb => some (formA i (if imm then 0x05 else 0x00) gd ga gb 0x08)
  | .qshl i imm gd ga gb => some (formA i (if imm then 0x05 else 0x00) gd ga gb 0x24)
  | .addi i gd ga imm => some (formI i 0x01 gd ga imm)
  | .andi i gd ga imm => some (formI i 0x02 gd ga imm)
  | .ori i gd ga imm => some (formI i 0x03 gd ga imm)
  | .xori i gd ga imm => some (formI i 0x04 gd ga imm)
  | .lui i gd imm => some (formU i 0x06 gd imm)
  | .oril i gd imm => some (formU i 0x07 gd imm)
  | .mul i gd ga gb => some (formA i 0x08 gd ga gb 0x00)
  | .mulh i gd ga gb => some (formA i 0x08 gd ga gb 0x01)
  | .mulhu i gd ga gb => some (formA i 0x08 gd ga gb 0x02)
  | .qmul i gd ga gb => some (formA i 0x08 gd ga gb 0x03)
  | .div i gd ga gb => some (formA i 0x09 gd ga gb 0x00)
  | .divu i gd ga gb => some (formA i 0x09 gd ga gb 0x01)
  | .rem i gd ga gb => some (formA i 0x09 gd ga gb 0x02)
  | .remu i gd ga gb => some (formA i 0x09 gd ga gb 0x03)
  | .mac i hb gd ga gb => some (formA i 0x0A gd ga gb (accFn hb 0x00))
  | .msu i hb gd ga gb => some (formA i 0x0A gd ga gb (accFn hb 0x01))
  | .macu i hb gd ga gb => some (formA i 0x0A gd ga gb (accFn hb 0x02))
  | .mst i hb gd ga gb => some (formA i 0x0A gd ga gb (accFn hb 0x03))
  | .clr i hb gd ga gb => some (formA i 0x0A gd ga gb (accFn hb 0x04))
  | .mtac i hb gd ga gb => some (formA i 0x0A gd ga gb (accFn hb 0x05))
  | .mfal i hb gd ga gb => some (formA i 0x0A gd ga gb (accFn hb 0x06))
  | .mfah i hb gd ga gb => some (formA i 0x0A gd ga gb (accFn hb 0x07))
  | .mfag i hb gd ga gb => some (formA i 0x0A gd ga gb (accFn hb 0x08))
  | .exq i hb gd ga gb => some (formA i 0x0A gd ga gb (accFn hb 0x09))
  | .exs i hb gd ga gb => some (formA i 0x0A gd ga gb (accFn hb 0x0A))
  | .ldw i gd ga imm => some (formI i 0x10 gd ga imm)
  | .ldh i gd ga imm => some (formI i 0x11 gd ga imm)
  | .ldhu i gd ga imm => some (formI i 0x12 gd ga imm)
  | .ldb i gd ga imm => some (formI i 0x13 gd ga imm)
  | .ldbu i gd ga imm => some (formI i 0x14 gd ga imm)
  | .stw i gd ga imm => some (formI i 0x18 gd ga imm)
  | .sth i gd ga imm => some (formI i 0x19 gd ga imm)
  | .stb i gd ga imm => some (formI i 0x1A gd ga imm)
  | .br i off => some (formB i 0x20 off)
  | .call i off => some (formB i 0x21 off)
  | .jr i gd ga gb fn => some (formA i 0x22 gd ga gb fn)
  | .jalr i gd ga gb fn => some (formA i 0x23 gd ga gb fn)
  | .cmp i qd ga gb cond rsv => some (formC i qd ga gb cond rsv)
  | .cmpi i qd ga cond imm => some (formCI i qd ga cond imm)
  | .qand i qd qa qb rsv => some (formP i qd qa qb 0 rsv)
  | .qor i qd qa qb rsv => some (formP i qd qa qb 1 rsv)
  | .qxor i qd qa qb rsv => some (formP i qd qa qb 2 rsv)
  | .qandn i qd qa qb rsv => some (formP i qd qa qb 3 rsv)
  | .mfq i gd ga gb => some (formA i 0x2B gd ga gb 0x00)
  | .mtq i gd ga gb => some (formA i 0x2B gd ga gb 0x01)
  | .mfcs i gd cs ga rsv => some (formA i 0x30 gd cs ga rsv)
  | .mtcs i gd cs ga rsv => some (formA i 0x31 gd cs ga rsv)
  | .trap i rsv code => some (formTrap i rsv code)
  | .eret i rsv => some (formB i 0x33 rsv)
  | .fence i rsv => some (formB i 0x34 rsv)
  | .wfe i rsv => some (formB i 0x35 rsv)
  | _ => none

/-- The fields of a word. -/
def wPn (w : Word) : Bool := w.getLsbD 31
def wPq (w : Word) : BitVec 2 := w.extractLsb' 29 2
def wOp (w : Word) : BitVec 6 := w.extractLsb' 23 6
def wGd (w : Word) : Reg5 := w.extractLsb' 18 5
def wGa (w : Word) : Reg5 := w.extractLsb' 13 5
def wGb (w : Word) : Reg5 := w.extractLsb' 8 5
def wFn (w : Word) : Byte := w.extractLsb' 0 8
def wImm (w : Word) : Imm13 := w.extractLsb' 0 13
def wImm18 (w : Word) : BitVec 18 := w.extractLsb' 0 18
def wOff (w : Word) : BitVec 23 := w.extractLsb' 0 23
def wQd (w : Word) : BitVec 2 := w.extractLsb' 21 2

/-- The register ALU: opcode 0x00 and, for the shifts, 0x05. -/
def decodeAlu (i : HelmIssue) (imm : Bool) (gd ga gb : Reg5) (fn : Byte) : Option Instr :=
  match imm, fn.toNat with
  | _, 0x06 => some (.sll i imm gd ga gb)
  | _, 0x07 => some (.srl i imm gd ga gb)
  | _, 0x08 => some (.sra i imm gd ga gb)
  | _, 0x24 => some (.qshl i imm gd ga gb)
  | false, 0x00 => some (.add i gd ga gb)
  | false, 0x01 => some (.sub i gd ga gb)
  | false, 0x02 => some (.and i gd ga gb)
  | false, 0x03 => some (.or i gd ga gb)
  | false, 0x04 => some (.xor i gd ga gb)
  | false, 0x05 => some (.andn i gd ga gb)
  | false, 0x0A => some (.slt i gd ga gb)
  | false, 0x0B => some (.sltu i gd ga gb)
  | false, 0x10 => some (.min i gd ga gb)
  | false, 0x11 => some (.max i gd ga gb)
  | false, 0x12 => some (.minu i gd ga gb)
  | false, 0x13 => some (.maxu i gd ga gb)
  | false, 0x14 => some (.abs i gd ga gb)
  | false, 0x18 => some (.clz i gd ga gb)
  | false, 0x19 => some (.pop i gd ga gb)
  | false, 0x1A => some (.sxb i gd ga gb)
  | false, 0x1B => some (.sxh i gd ga gb)
  | false, 0x1C => some (.zxb i gd ga gb)
  | false, 0x1D => some (.zxh i gd ga gb)
  | false, 0x20 => some (.qadd i gd ga gb)
  | false, 0x21 => some (.qsub i gd ga gb)
  | false, 0x22 => some (.qneg i gd ga gb)
  | false, 0x23 => some (.qabs i gd ga gb)
  | _, _ => none

/-- Opcode of mul. -/
def decodeMul (i : HelmIssue) (gd ga gb : Reg5) (fn : Byte) : Option Instr :=
  match fn.toNat with
  | 0x00 => some (.mul i gd ga gb)
  | 0x01 => some (.mulh i gd ga gb)
  | 0x02 => some (.mulhu i gd ga gb)
  | 0x03 => some (.qmul i gd ga gb)
  | _ => none

/-- Opcode of div. -/
def decodeDiv (i : HelmIssue) (gd ga gb : Reg5) (fn : Byte) : Option Instr :=
  match fn.toNat with
  | 0x00 => some (.div i gd ga gb)
  | 0x01 => some (.divu i gd ga gb)
  | 0x02 => some (.rem i gd ga gb)
  | 0x03 => some (.remu i gd ga gb)
  | _ => none

/-- Opcode 0x0A. -/
def decodeAcc (i : HelmIssue) (gd ga gb : Reg5) (fn : Byte) : Option Instr :=
  let hb := fn.getLsbD 7
  match (fn.extractLsb' 0 7).toNat with
  | 0x00 => some (.mac i hb gd ga gb)
  | 0x01 => some (.msu i hb gd ga gb)
  | 0x02 => some (.macu i hb gd ga gb)
  | 0x03 => some (.mst i hb gd ga gb)
  | 0x04 => some (.clr i hb gd ga gb)
  | 0x05 => some (.mtac i hb gd ga gb)
  | 0x06 => some (.mfal i hb gd ga gb)
  | 0x07 => some (.mfah i hb gd ga gb)
  | 0x08 => some (.mfag i hb gd ga gb)
  | 0x09 => some (.exq i hb gd ga gb)
  | 0x0A => some (.exs i hb gd ga gb)
  | _ => none

/-- Opcode 0x2A. -/
def decodePred (i : HelmIssue) (w : Word) : Option Instr :=
  let qa : BitVec 2 := w.extractLsb' 19 2
  let qb : BitVec 2 := w.extractLsb' 17 2
  let rsv : BitVec 14 := w.extractLsb' 0 14
  match (w.extractLsb' 14 3).toNat with
  | 0 => some (.qand i (wQd w) qa qb rsv)
  | 1 => some (.qor i (wQd w) qa qb rsv)
  | 2 => some (.qxor i (wQd w) qa qb rsv)
  | 3 => some (.qandn i (wQd w) qa qb rsv)
  | _ => none

/-- Opcode 0x2B. -/
def decodeMove (i : HelmIssue) (gd ga gb : Reg5) (fn : Byte) : Option Instr :=
  match fn.toNat with
  | 0x00 => some (.mfq i gd ga gb)
  | 0x01 => some (.mtq i gd ga gb)
  | _ => none

/-- The instruction of a word at an issue of which the lane, the gate and the captures are known; none for an opcode or
fn that R71 calls illegal. -/
def decodeHelm (l : LaneId) (agree : Bool) (differ : Nat) (w : Word) : Option Instr :=
  let i : HelmIssue := ⟨l, wPn w, wPq w, agree, differ⟩
  match (wOp w).toNat with
  | 0x00 => decodeAlu i false (wGd w) (wGa w) (wGb w) (wFn w)
  | 0x05 => decodeAlu i true (wGd w) (wGa w) (wGb w) (wFn w)
  | 0x06 => some (.lui i (wGd w) (wImm18 w))
  | 0x07 => some (.oril i (wGd w) (wImm18 w))
  | 0x08 => decodeMul i (wGd w) (wGa w) (wGb w) (wFn w)
  | 0x09 => decodeDiv i (wGd w) (wGa w) (wGb w) (wFn w)
  | 0x0A => decodeAcc i (wGd w) (wGa w) (wGb w) (wFn w)
  | 0x01 => some (.addi i (wGd w) (wGa w) (wImm w))
  | 0x02 => some (.andi i (wGd w) (wGa w) (wImm w))
  | 0x03 => some (.ori i (wGd w) (wGa w) (wImm w))
  | 0x04 => some (.xori i (wGd w) (wGa w) (wImm w))
  | 0x10 => some (.ldw i (wGd w) (wGa w) (wImm w))
  | 0x11 => some (.ldh i (wGd w) (wGa w) (wImm w))
  | 0x12 => some (.ldhu i (wGd w) (wGa w) (wImm w))
  | 0x13 => some (.ldb i (wGd w) (wGa w) (wImm w))
  | 0x14 => some (.ldbu i (wGd w) (wGa w) (wImm w))
  | 0x18 => some (.stw i (wGd w) (wGa w) (wImm w))
  | 0x19 => some (.sth i (wGd w) (wGa w) (wImm w))
  | 0x1A => some (.stb i (wGd w) (wGa w) (wImm w))
  | 0x20 => some (.br i (wOff w))
  | 0x21 => some (.call i (wOff w))
  | 0x22 => some (.jr i (wGd w) (wGa w) (wGb w) (wFn w))
  | 0x23 => some (.jalr i (wGd w) (wGa w) (wGb w) (wFn w))
  | 0x28 => some (.cmp i (wQd w) (w.extractLsb' 16 5) (w.extractLsb' 11 5) (w.extractLsb' 8 3) (wFn w))
  | 0x29 => some (.cmpi i (wQd w) (w.extractLsb' 16 5) (w.extractLsb' 13 3) (wImm w))
  | 0x2A => decodePred i w
  | 0x2B => decodeMove i (wGd w) (wGa w) (wGb w) (wFn w)
  | 0x30 => some (.mfcs i (wGd w) (wGa w) (wGb w) (wFn w))
  | 0x31 => some (.mtcs i (wGd w) (wGa w) (wGb w) (wFn w))
  | 0x32 => some (.trap i (w.extractLsb' 16 7) (w.extractLsb' 0 16))
  | 0x33 => some (.eret i (wOff w))
  | 0x34 => some (.fence i (wOff w))
  | 0x35 => some (.wfe i (wOff w))
  | _ => none

/-! ### Drive bundles (R133) -/

/-- Slot X or Y. -/
def slotBits (x : SlotXY) : BitVec 23 := x.op ++ x.d ++ x.a ++ x.b

/-- Slot M. -/
def slotMBits (m : SlotM) : BitVec 13 := m.op ++ m.w ++ m.p

/-- A control bundle of a cop and its 56 low bits. -/
def ctlBits (cop : BitVec 6) (x : BitVec 56) : BitVec 64 := (1 : BitVec 2) ++ cop ++ x

/-- The 64 bits of a bundle; none for the commands that are no bundle. -/
def encodeDrive : Instr → Option (BitVec 64)
  | .operationBundle _ b => some ((0 : BitVec 2) ++ b.stg ++ slotBits b.x ++ slotBits b.y ++ slotMBits b.m)
  | .immediateBundle _ stg wd rsv imm m => some ((2 : BitVec 2) ++ stg ++ wd ++ rsv ++ imm ++ slotMBits m)
  | .loop _ cs wn imm s1 l1 rsv => some (ctlBits 0x01 (BitVec.ofBool cs ++ wn ++ imm ++ s1 ++ l1 ++ rsv))
  | .driveBranch _ rsv off => some (ctlBits 0x02 (rsv ++ off))
  | .bf _ f rsv off => some (ctlBits 0x03 (f ++ rsv ++ off))
  | .bnf _ f rsv off => some (ctlBits 0x04 (f ++ rsv ++ off))
  | .driveCall _ rsv off => some (ctlBits 0x05 (rsv ++ off))
  | .ret _ rsv => some (ctlBits 0x06 rsv)
  | .wfp _ rsv => some (ctlBits 0x07 rsv)
  | .driveFence _ rsv => some (ctlBits 0x08 rsv)
  | _ => none

/-- Slot X or Y from its bits. -/
def slotOf (x : BitVec 23) : SlotXY := ⟨x.extractLsb' 18 5, x.extractLsb' 12 6, x.extractLsb' 6 6, x.extractLsb' 0 6⟩

/-- Slot M from its bits. -/
def slotMOf (x : BitVec 13) : SlotM := ⟨x.extractLsb' 9 4, x.extractLsb' 3 6, x.extractLsb' 0 3⟩

/-- A control bundle; none for another cop. -/
def decodeCtl (i : DriveIssue) (w : BitVec 64) : Option Instr :=
  match (w.extractLsb' 56 6).toNat with
  | 0x01 => some (.loop i (w.getLsbD 55) (w.extractLsb' 49 6) (w.extractLsb' 33 16) (w.extractLsb' 30 3)
      (w.extractLsb' 20 10) (w.extractLsb' 0 20))
  | 0x02 => some (.driveBranch i (w.extractLsb' 24 32) (w.extractLsb' 0 24))
  | 0x03 => some (.bf i (w.extractLsb' 54 2) (w.extractLsb' 24 30) (w.extractLsb' 0 24))
  | 0x04 => some (.bnf i (w.extractLsb' 54 2) (w.extractLsb' 24 30) (w.extractLsb' 0 24))
  | 0x05 => some (.driveCall i (w.extractLsb' 24 32) (w.extractLsb' 0 24))
  | 0x06 => some (.ret i (w.extractLsb' 0 56))
  | 0x07 => some (.wfp i (w.extractLsb' 0 56))
  | 0x08 => some (.driveFence i (w.extractLsb' 0 56))
  | _ => none

/-- The bundle of 64 bits at an issue of which the lane and the gate are known; none for an illegal format or cop. -/
def decodeDrive (l : LaneId) (agree : Bool) (w : BitVec 64) : Option Instr :=
  let i : DriveIssue := ⟨l, agree⟩
  match (w.extractLsb' 62 2).toNat with
  | 0 => some (.operationBundle i ⟨w.extractLsb' 59 3, slotOf (w.extractLsb' 36 23), slotOf (w.extractLsb' 13 23),
      slotMOf (w.extractLsb' 0 13)⟩)
  | 1 => decodeCtl i w
  | 2 => some (.immediateBundle i (w.extractLsb' 59 3) (w.extractLsb' 53 6) (w.extractLsb' 45 8) (w.extractLsb' 13 32)
      (slotMOf (w.extractLsb' 0 13)))
  | _ => none

end Sys2Proof
end

