-- ==== Sys2Proof/Config.lean ====
section
/-!
DEFINITION. The free values: what the spec leaves open, as constants without a body, so that nothing can be proved
of any of their values. notes/assumptions says, for each, which text of the spec leaves it open.
-/

namespace Sys2Proof.Config

open Sys2Proof

/-- A value that the spec does not fix, drawn afresh in a lane with the lane's counter `free` (log 1). -/
opaque freeWord : LaneId → Nat → BitVec 64

/-- The 7 Hsiao check bits of a data word: R388 names the code and gives no matrix (log 6). -/
opaque checkBits : Word → BitVec 7

/-- What a load returns, and whether it is taken for a corrected word, when three or more bits of a protected word
are wrong: R388 speaks of one and of two (log 6). -/
opaque multiBit : Nat → Option Word

/-- The next state of the heartbeat's 16-bit maximal-length register: R344 names no polynomial (log 7). -/
opaque lfsrNext : BitVec 16 → BitVec 16

/-- The SM3 digest of a byte string (GB/T 32905, R504): the spec cites the standard and does not give it (log 8). -/
opaque sm3 : List Byte → BitVec 256

/-- The SM2 signature of the lane's identity key over a byte string (R518, R519) (log 8). -/
opaque sm2Sign : LaneId → List Byte → BitVec 512

/-- The 64-bit digest of the agreed-state memory that R327 folds: its function is not given (log 9). -/
opaque stateDigest : List (Nat × Word) → BitVec 64

/-- Sine in Q1.31 of an angle in 2^32 units per revolution (R264, R487): no rounding or table is given (log 10). -/
opaque sine : BitVec 32 → Int

/-- Cosine, as `sine` (log 10). -/
opaque cosine : BitVec 32 → Int

/-- The angle whose tangent is y/x, in 2^32 units per revolution (R487) (log 10). -/
opaque atan2 : Int → Int → BitVec 32

/-- The square root of a non-negative integer, rounded to nearest (R487, R210): the rounding is not given (log 10). -/
opaque sqrt : Nat → Nat

/-- The factory value of a store-die, wear or baseline item that the spec calls a factory record without giving it:
N0 of R411 by monitor, operating point and junction temperature (log 11). -/
opaque factoryN0 : Nat → Nat → Int → Nat

/-- The factory auto-zero correction of a converter (R411, R418) (log 11). -/
opaque factoryOff : LaneId → Nat → Int

/-- The factory retention margin of a store-die block (R411, R420) (log 11). -/
opaque factoryMargin : LaneId → Nat → Nat

/-- The serial number of a lane (R518) (log 11). -/
opaque serial : LaneId → BitVec 64

/-- The identity certificate of a lane (R518) (log 11). -/
opaque certificate : LaneId → List Byte

/-- What an uncorrectable MRAM word holds: below 4096 that slot of the event ring, 4096 or 4097 a copy of the factory
baseline record, else nothing that a reader of R396 uses. The spec gives MRAM no layout (log 6). -/
opaque mramUse : Nat → Nat

/-- Z_A of a signer ID and a public key (GB/T 32918.2, R504), which the spec cites and does not give (log 8). -/
opaque sm2Za : List Byte → List Byte → List Byte

/-- Whether an SM2 signature over a digest is valid for a public key (R504) (log 8). -/
opaque sm2Verify : List Byte → BitVec 256 → List Byte → Bool

/-- What a firmware's migration table makes of configuration entries: R513 gives the table no format (log 19). -/
opaque migrate : List Byte → List (Nat × Word) → List (Nat × Word)

/-- The event code in the DTC of a standing network loss (R482): R429 has no event for one (log 22). -/
opaque networkCode : Nat

/-- What a lane answers to a Request for software or ECU identification, by PGN (R478): no content is given (log 22). -/
opaque identification : LaneId → Nat → List Byte

/-- The 96-bit item that the frame tally folds for a quantity: R327 names the quantities and their order and gives no
layout of their items. Place in the order, value (log 9). -/
opaque frameItem : Nat → Nat → BitVec 96

/-- What tbk finds in an empty context, the states of R147 in bits 2:0 and 10:8 (by context), and the decision of a state that an older column does not hold
because DC_TRM has been changed since (by state): R144 and R147 state neither (log 30). -/
opaque emptyTrace : Nat → Word
opaque lostDecision : Nat → Fin 3

/-- What DC_LC reads after a loop has ended, by ROT: it is named for the running loop only (log 30). -/
opaque idleLc : Nat → Word

end Sys2Proof.Config
end

