-- ==== Sys2Proof/Machine/Regs.lean ====
section
/-!
DEFINITION. The registers of one lane (R526 and the chapter named in each docstring), by their byte offset from
0x4000_0000: their addresses, their fields, their access codes (R10) and their reset values (R11).
-/

namespace Sys2Proof.Machine

/-- A peripheral register, named by its byte offset from 0x4000_0000 (R97). -/
abbrev Reg := Nat

/-- Bits [hi:lo] of a register. -/
structure Field where
  reg : Reg
  hi : Nat
  lo : Nat
  deriving DecidableEq, Repr

/-- One row of the register map: `count` registers, `stride` bytes apart, with their reset value, the bits of each
access code of R10, and whether the register is held once per copy (R98), its stores are held (R88) or staged (R126). -/
structure RegRow where
  first : Reg
  stride : Nat
  count : Nat
  reset : Word
  rw : Word
  w1c : Word
  w1s : Word
  wo : Word
  rta : Word
  lk : Word
  copy : Bool
  held : Bool
  staged : Bool
  deriving DecidableEq, Repr

/-- LCTL_MODE (12_modes_start_shutdown_sleep.md) -/
def LCTL_MODE : Reg := 0x0
def LCTL_MODE_MODE : Field := ⟨LCTL_MODE, 3, 0⟩
def LCTL_MODE_PREV : Field := ⟨LCTL_MODE, 7, 4⟩
def LCTL_MODE_PEND : Field := ⟨LCTL_MODE, 11, 8⟩
def LCTL_MODE_REJ : Field := ⟨LCTL_MODE, 12, 12⟩
def LCTL_MODE_REJC : Field := ⟨LCTL_MODE, 23, 16⟩
/-- LCTL_MODEREQ (12_modes_start_shutdown_sleep.md) -/
def LCTL_MODEREQ : Reg := 0x4
def LCTL_MODEREQ_TARGET : Field := ⟨LCTL_MODEREQ, 3, 0⟩
def LCTL_MODEREQ_LANE : Field := ⟨LCTL_MODEREQ, 5, 4⟩
def LCTL_MODEREQ_FRAME : Field := ⟨LCTL_MODEREQ, 31, 16⟩
/-- LCTL_IRQ_PEND (04_helm_system.md) -/
def LCTL_IRQ_PEND : Reg := 0x8
def LCTL_IRQ_PEND_PEND : Field := ⟨LCTL_IRQ_PEND, 20, 0⟩
/-- LCTL_IRQ_EN (04_helm_system.md) -/
def LCTL_IRQ_EN : Reg := 0xC
def LCTL_IRQ_EN_EN : Field := ⟨LCTL_IRQ_EN, 20, 0⟩
/-- LCTL_MBSTAT (04_helm_system.md) -/
def LCTL_MBSTAT : Reg := 0x10
def LCTL_MBSTAT_PEND : Field := ⟨LCTL_MBSTAT, 0, 0⟩
def LCTL_MBSTAT_URGP : Field := ⟨LCTL_MBSTAT, 1, 1⟩
def LCTL_MBSTAT_OVR : Field := ⟨LCTL_MBSTAT, 2, 2⟩
def LCTL_MBSTAT_PUB : Field := ⟨LCTL_MBSTAT, 3, 3⟩
def LCTL_MBSTAT_PUBOV : Field := ⟨LCTL_MBSTAT, 4, 4⟩
def LCTL_MBSTAT_TAKEN : Field := ⟨LCTL_MBSTAT, 15, 8⟩
/-- LCTL_HFAULT (04_helm_system.md) -/
def LCTL_HFAULT : Reg := 0x14
def LCTL_HFAULT_CODE : Field := ⟨LCTL_HFAULT, 7, 0⟩
def LCTL_HFAULT_SIDE : Field := ⟨LCTL_HFAULT, 9, 8⟩
def LCTL_HFAULT_DEPTH : Field := ⟨LCTL_HFAULT, 11, 10⟩
/-- LCTL_HFADDR (04_helm_system.md) -/
def LCTL_HFADDR : Reg := 0x18
def LCTL_HFADDR_ADDR : Field := ⟨LCTL_HFADDR, 31, 0⟩
/-- LCTL_DFAULT (05_drive_engine.md) -/
def LCTL_DFAULT : Reg := 0x1C
def LCTL_DFAULT_CODE : Field := ⟨LCTL_DFAULT, 7, 0⟩
def LCTL_DFAULT_SIDE : Field := ⟨LCTL_DFAULT, 9, 8⟩
def LCTL_DFAULT_PC : Field := ⟨LCTL_DFAULT, 23, 10⟩
/-- LCTL_DSTAT (05_drive_engine.md) -/
def LCTL_DSTAT : Reg := 0x20
def LCTL_DSTAT_RUN : Field := ⟨LCTL_DSTAT, 0, 0⟩
def LCTL_DSTAT_WAIT : Field := ⟨LCTL_DSTAT, 1, 1⟩
def LCTL_DSTAT_OVR : Field := ⟨LCTL_DSTAT, 2, 2⟩
def LCTL_DSTAT_OVRCNT : Field := ⟨LCTL_DSTAT, 15, 8⟩
def LCTL_DSTAT_USED : Field := ⟨LCTL_DSTAT, 31, 16⟩
/-- LCTL_FSET (11_stopper_and_two_faults.md) -/
def LCTL_FSET : Reg := 0x24
def LCTL_FSET_CLS : Field := ⟨LCTL_FSET, 5, 0⟩
def LCTL_FSET_LCNT : Field := ⟨LCTL_FSET, 11, 8⟩
def LCTL_FSET_MCNT : Field := ⟨LCTL_FSET, 15, 12⟩
def LCTL_FSET_LIMPD : Field := ⟨LCTL_FSET, 16, 16⟩
def LCTL_FSET_PARKD : Field := ⟨LCTL_FSET, 17, 17⟩
/-- LCTL_LIMPCFG (11_stopper_and_two_faults.md) -/
def LCTL_LIMPCFG : Reg := 0x28
def LCTL_LIMPCFG_DECEL : Field := ⟨LCTL_LIMPCFG, 5, 0⟩
def LCTL_LIMPCFG_STBW : Field := ⟨LCTL_LIMPCFG, 9, 6⟩
def LCTL_LIMPCFG_AUXD : Field := ⟨LCTL_LIMPCFG, 13, 10⟩
def LCTL_LIMPCFG_AUXR : Field := ⟨LCTL_LIMPCFG, 17, 14⟩
def LCTL_LIMPCFG_SPDW : Field := ⟨LCTL_LIMPCFG, 22, 18⟩
def LCTL_LIMPCFG_VSTOP : Field := ⟨LCTL_LIMPCFG, 27, 23⟩
def LCTL_LIMPCFG_LIMPT : Field := ⟨LCTL_LIMPCFG, 31, 28⟩
/-- LCTL_SAFEIN (11_stopper_and_two_faults.md) -/
def LCTL_SAFEIN : Reg := 0x2C
def LCTL_SAFEIN_IN : Field := ⟨LCTL_SAFEIN, 3, 0⟩
/-- LCTL_HBRESP (11_stopper_and_two_faults.md) -/
def LCTL_HBRESP : Reg := 0x30
def LCTL_HBRESP_HBRESP : Field := ⟨LCTL_HBRESP, 31, 0⟩
/-- LCTL_GTACK (11_stopper_and_two_faults.md) -/
def LCTL_GTACK : Reg := 0x34
def LCTL_GTACK_ACK : Field := ⟨LCTL_GTACK, 0, 0⟩
/-- LCTL_BISTSTAT (12_modes_start_shutdown_sleep.md) -/
def LCTL_BISTSTAT : Reg := 0x38
def LCTL_BISTSTAT_SEQ : Field := ⟨LCTL_BISTSTAT, 15, 0⟩
def LCTL_BISTSTAT_READY : Field := ⟨LCTL_BISTSTAT, 16, 16⟩
def LCTL_BISTSTAT_PASS : Field := ⟨LCTL_BISTSTAT, 17, 17⟩
def LCTL_BISTSTAT_KIND : Field := ⟨LCTL_BISTSTAT, 18, 18⟩
def LCTL_BISTSTAT_MISSING : Field := ⟨LCTL_BISTSTAT, 19, 19⟩
def LCTL_BISTSTAT_FAILD : Field := ⟨LCTL_BISTSTAT, 23, 20⟩
/-- LCTL_BISTCOV (12_modes_start_shutdown_sleep.md) -/
def LCTL_BISTCOV : Reg := 0x3C
def LCTL_BISTCOV_LOGIC : Field := ⟨LCTL_BISTCOV, 9, 0⟩
def LCTL_BISTCOV_MEM : Field := ⟨LCTL_BISTCOV, 25, 16⟩
/-- LCTL_BISTDUR (12_modes_start_shutdown_sleep.md) -/
def LCTL_BISTDUR : Reg := 0x40
def LCTL_BISTDUR_MS : Field := ⟨LCTL_BISTDUR, 15, 0⟩
/-- TIME_NOW_LO (02_steps_and_lane_time.md) -/
def TIME_NOW_LO : Reg := 0x10000
def TIME_NOW_LO_LO : Field := ⟨TIME_NOW_LO, 31, 0⟩
/-- TIME_NOW_HI (02_steps_and_lane_time.md) -/
def TIME_NOW_HI : Reg := 0x10004
def TIME_NOW_HI_HI : Field := ⟨TIME_NOW_HI, 31, 0⟩
/-- TIME_FRAME (02_steps_and_lane_time.md) -/
def TIME_FRAME : Reg := 0x10008
def TIME_FRAME_FRAME : Field := ⟨TIME_FRAME, 31, 0⟩
/-- TIME_FPHASE (20_register_index.md) -/
def TIME_FPHASE : Reg := 0x1000C
def TIME_FPHASE_FPHASE : Field := ⟨TIME_FPHASE, 31, 0⟩
/-- TIME_CMPLO (20_register_index.md) -/
def TIME_CMPLO : Reg := 0x10010
def TIME_CMPLO_CMPLO : Field := ⟨TIME_CMPLO, 31, 0⟩
/-- TIME_CMPHI (20_register_index.md) -/
def TIME_CMPHI : Reg := 0x10014
def TIME_CMPHI_CMPHI : Field := ⟨TIME_CMPHI, 31, 0⟩
/-- TIME_CSTAT (20_register_index.md) -/
def TIME_CSTAT : Reg := 0x10018
def TIME_CSTAT_ARM : Field := ⟨TIME_CSTAT, 0, 0⟩
def TIME_CSTAT_MATCH : Field := ⟨TIME_CSTAT, 1, 1⟩
def TIME_CSTAT_IEN : Field := ⟨TIME_CSTAT, 2, 2⟩
def TIME_CSTAT_FRM : Field := ⟨TIME_CSTAT, 3, 3⟩
def TIME_CSTAT_PER : Field := ⟨TIME_CSTAT, 4, 4⟩
def TIME_CSTAT_FRMOV : Field := ⟨TIME_CSTAT, 5, 5⟩
def TIME_CSTAT_PEROV : Field := ⟨TIME_CSTAT, 6, 6⟩
/-- PACE_CTL (02_steps_and_lane_time.md) -/
def PACE_CTL : Reg := 0x10100
def PACE_CTL_OPSEL : Field := ⟨PACE_CTL, 1, 0⟩
/-- PACE_RATE (02_steps_and_lane_time.md) -/
def PACE_RATE : Reg := 0x10104
def PACE_RATE_PWM : Field := ⟨PACE_RATE, 9, 0⟩
def PACE_RATE_FRAME : Field := ⟨PACE_RATE, 21, 16⟩
/-- PACE_APPLY (02_steps_and_lane_time.md) -/
def PACE_APPLY : Reg := 0x10108
def PACE_APPLY_APPLY : Field := ⟨PACE_APPLY, 31, 0⟩
/-- PACE_STAT (02_steps_and_lane_time.md) -/
def PACE_STAT : Reg := 0x1010C
def PACE_STAT_OP : Field := ⟨PACE_STAT, 1, 0⟩
def PACE_STAT_SLEW : Field := ⟨PACE_STAT, 2, 2⟩
def PACE_STAT_EOL : Field := ⟨PACE_STAT, 3, 3⟩
def PACE_STAT_HELD_V : Field := ⟨PACE_STAT, 4, 4⟩
def PACE_STAT_HELD_R : Field := ⟨PACE_STAT, 5, 5⟩
def PACE_STAT_REJ_R : Field := ⟨PACE_STAT, 6, 6⟩
def PACE_STAT_SUPER : Field := ⟨PACE_STAT, 7, 7⟩
def PACE_STAT_CEIL_PS : Field := ⟨PACE_STAT, 27, 16⟩
/-- PACE_LIVE (02_steps_and_lane_time.md) -/
def PACE_LIVE : Reg := 0x10110
def PACE_LIVE_PWM_LIVE : Field := ⟨PACE_LIVE, 9, 0⟩
def PACE_LIVE_FR_LIVE : Field := ⟨PACE_LIVE, 21, 16⟩
/-- TALLY_STAT (10_tally_and_agreement.md) -/
def TALLY_STAT : Reg := 0x20000
def TALLY_STAT_LSTATE : Field := ⟨TALLY_STAT, 3, 0⟩
def TALLY_STAT_RESYNC : Field := ⟨TALLY_STAT, 4, 4⟩
def TALLY_STAT_LIMPRQ : Field := ⟨TALLY_STAT, 5, 5⟩
def TALLY_STAT_ATT : Field := ⟨TALLY_STAT, 7, 6⟩
def TALLY_STAT_WDN : Field := ⟨TALLY_STAT, 11, 8⟩
def TALLY_STAT_IFLT : Field := ⟨TALLY_STAT, 12, 12⟩
def TALLY_STAT_NOAGR : Field := ⟨TALLY_STAT, 13, 13⟩
def TALLY_STAT_UNMCMD : Field := ⟨TALLY_STAT, 14, 14⟩
/-- TALLY_WCAUSE (10_tally_and_agreement.md) -/
def TALLY_WCAUSE : Reg := 0x20004
def TALLY_WCAUSE_CODE : Field := ⟨TALLY_WCAUSE, 7, 0⟩
def TALLY_WCAUSE_DETAIL : Field := ⟨TALLY_WCAUSE, 15, 8⟩
def TALLY_WCAUSE_FRAME : Field := ⟨TALLY_WCAUSE, 31, 16⟩
/-- TALLY_LANES (10_tally_and_agreement.md) -/
def TALLY_LANES : Reg := 0x20008
def TALLY_LANES_LA : Field := ⟨TALLY_LANES, 3, 0⟩
def TALLY_LANES_LB : Field := ⟨TALLY_LANES, 7, 4⟩
def TALLY_LANES_LC : Field := ⟨TALLY_LANES, 11, 8⟩
def TALLY_LANES_NRUN : Field := ⟨TALLY_LANES, 13, 12⟩
/-- TALLY_SHA (10_tally_and_agreement.md) -/
def TALLY_SHA : Reg := 0x2000C
def TALLY_SHA_SHA : Field := ⟨TALLY_SHA, 31, 0⟩
/-- TALLY_SHB (10_tally_and_agreement.md) -/
def TALLY_SHB : Reg := 0x20010
def TALLY_SHB_SHB : Field := ⟨TALLY_SHB, 31, 0⟩
/-- TALLY_SHC (10_tally_and_agreement.md) -/
def TALLY_SHC : Reg := 0x20014
def TALLY_SHC_SHC : Field := ⟨TALLY_SHC, 31, 0⟩
/-- TALLY_VSTAT (10_tally_and_agreement.md) -/
def TALLY_VSTAT : Reg := 0x20018
def TALLY_VSTAT_SEQ : Field := ⟨TALLY_VSTAT, 15, 0⟩
def TALLY_VSTAT_READY : Field := ⟨TALLY_VSTAT, 16, 16⟩
def TALLY_VSTAT_ODD : Field := ⟨TALLY_VSTAT, 18, 17⟩
def TALLY_VSTAT_NOMAJ : Field := ⟨TALLY_VSTAT, 19, 19⟩
def TALLY_VSTAT_PRES : Field := ⟨TALLY_VSTAT, 22, 20⟩
def TALLY_VSTAT_SHOK : Field := ⟨TALLY_VSTAT, 23, 23⟩
/-- TALLY_VTAL (10_tally_and_agreement.md) -/
def TALLY_VTAL (n : Nat) : Reg := 0x2001C + 0x4 * n
def TALLY_VTAL_VTAL (n : Nat) : Field := ⟨TALLY_VTAL n, 31, 0⟩
/-- TALLY_IEN (10_tally_and_agreement.md) -/
def TALLY_IEN : Reg := 0x2002C
def TALLY_IEN_IVOTE : Field := ⟨TALLY_IEN, 0, 0⟩
def TALLY_IEN_IFLT : Field := ⟨TALLY_IEN, 1, 1⟩
/-- TALLY_LIVE (04_helm_system.md) -/
def TALLY_LIVE : Reg := 0x20030
def TALLY_LIVE_G : Field := ⟨TALLY_LIVE, 31, 1⟩
/-- TALLY_LIVEX (04_helm_system.md) -/
def TALLY_LIVEX : Reg := 0x20034
def TALLY_LIVEX_HA : Field := ⟨TALLY_LIVEX, 0, 0⟩
def TALLY_LIVEX_HB : Field := ⟨TALLY_LIVEX, 1, 1⟩
def TALLY_LIVEX_Q : Field := ⟨TALLY_LIVEX, 2, 2⟩
/-- TALLY_AGCFG (10_tally_and_agreement.md) -/
def TALLY_AGCFG : Reg := 0x20038
def TALLY_AGCFG_SIZE : Field := ⟨TALLY_AGCFG, 6, 0⟩
/-- TALLY_AGIDX (10_tally_and_agreement.md) -/
def TALLY_AGIDX : Reg := 0x2003C
def TALLY_AGIDX_IDX : Field := ⟨TALLY_AGIDX, 13, 0⟩
/-- TALLY_AGDATA (10_tally_and_agreement.md) -/
def TALLY_AGDATA : Reg := 0x20040
def TALLY_AGDATA_AGDATA : Field := ⟨TALLY_AGDATA, 31, 0⟩
/-- TALLY_SQV (10_tally_and_agreement.md) -/
def TALLY_SQV : Reg := 0x20044
def TALLY_SQV_SQV : Field := ⟨TALLY_SQV, 31, 0⟩
/-- TALLY_SQNA (10_tally_and_agreement.md) -/
def TALLY_SQNA : Reg := 0x20048
def TALLY_SQNA_SQNA : Field := ⟨TALLY_SQNA, 31, 0⟩
/-- TALLY_SQINV (10_tally_and_agreement.md) -/
def TALLY_SQINV : Reg := 0x2004C
def TALLY_SQINV_SQINV : Field := ⟨TALLY_SQINV, 31, 0⟩
/-- TALLY_HIDX (10_tally_and_agreement.md) -/
def TALLY_HIDX : Reg := 0x20050
def TALLY_HIDX_FR : Field := ⟨TALLY_HIDX, 3, 0⟩
def TALLY_HIDX_WORD : Field := ⟨TALLY_HIDX, 11, 4⟩
/-- TALLY_HDATA (10_tally_and_agreement.md) -/
def TALLY_HDATA : Reg := 0x20054
def TALLY_HDATA_HDATA : Field := ⟨TALLY_HDATA, 31, 0⟩
/-- TALLY_SCK (10_tally_and_agreement.md) -/
def TALLY_SCK : Reg := 0x20058
def TALLY_SCK_SEQ : Field := ⟨TALLY_SCK, 15, 0⟩
def TALLY_SCK_READY : Field := ⟨TALLY_SCK, 16, 16⟩
def TALLY_SCK_PASS : Field := ⟨TALLY_SCK, 17, 17⟩
def TALLY_SCK_MISS : Field := ⟨TALLY_SCK, 25, 18⟩
/-- TALLY_DIG (10_tally_and_agreement.md) -/
def TALLY_DIG (n : Nat) : Reg := 0x20060 + 0x4 * n
def TALLY_DIG_DIG (n : Nat) : Field := ⟨TALLY_DIG n, 31, 0⟩
/-- TALLY_SQSRC (10_tally_and_agreement.md) -/
def TALLY_SQSRC (n : Nat) : Reg := 0x20100 + 0x4 * n
def TALLY_SQSRC_CLASS (n : Nat) : Field := ⟨TALLY_SQSRC n, 3, 0⟩
def TALLY_SQSRC_INDEX (n : Nat) : Field := ⟨TALLY_SQSRC n, 9, 4⟩
def TALLY_SQSRC_SHIFT (n : Nat) : Field := ⟨TALLY_SQSRC n, 15, 10⟩
def TALLY_SQSRC_CIRC (n : Nat) : Field := ⟨TALLY_SQSRC n, 16, 16⟩
/-- TALLY_SQTOL (10_tally_and_agreement.md) -/
def TALLY_SQTOL (n : Nat) : Reg := 0x20180 + 0x4 * n
def TALLY_SQTOL_SQTOL (n : Nat) : Field := ⟨TALLY_SQTOL n, 31, 0⟩
/-- TALLY_SQ (10_tally_and_agreement.md) -/
def TALLY_SQ (n : Nat) : Reg := 0x20200 + 0x4 * n
def TALLY_SQ_SQ (n : Nat) : Field := ⟨TALLY_SQ n, 31, 0⟩
/-- TALLY_SQIN (10_tally_and_agreement.md) -/
def TALLY_SQIN (n : Nat) : Reg := 0x20280 + 0x4 * n
def TALLY_SQIN_SQIN (n : Nat) : Field := ⟨TALLY_SQIN n, 31, 0⟩
/-- SPLC_STAT (10_tally_and_agreement.md) -/
def SPLC_STAT : Reg := 0x30000
def SPLC_STAT_UPN : Field := ⟨SPLC_STAT, 0, 0⟩
def SPLC_STAT_UPP : Field := ⟨SPLC_STAT, 1, 1⟩
def SPLC_STAT_RELAY : Field := ⟨SPLC_STAT, 2, 2⟩
def SPLC_STAT_ALIGN : Field := ⟨SPLC_STAT, 3, 3⟩
def SPLC_STAT_XFER : Field := ⟨SPLC_STAT, 4, 4⟩
def SPLC_STAT_LINKEV : Field := ⟨SPLC_STAT, 5, 5⟩
def SPLC_STAT_ALEV : Field := ⟨SPLC_STAT, 6, 6⟩
def SPLC_STAT_XFEV : Field := ⟨SPLC_STAT, 7, 7⟩
def SPLC_STAT_CRCN : Field := ⟨SPLC_STAT, 15, 8⟩
def SPLC_STAT_CRCP : Field := ⟨SPLC_STAT, 23, 16⟩
/-- SPLC_OFFN (10_tally_and_agreement.md) -/
def SPLC_OFFN : Reg := 0x30004
def SPLC_OFFN_OFFN : Field := ⟨SPLC_OFFN, 31, 0⟩
/-- SPLC_OFFP (10_tally_and_agreement.md) -/
def SPLC_OFFP : Reg := 0x30008
def SPLC_OFFP_OFFP : Field := ⟨SPLC_OFFP, 31, 0⟩
/-- SPLC_XFER (10_tally_and_agreement.md) -/
def SPLC_XFER : Reg := 0x3000C
def SPLC_XFER_BLK : Field := ⟨SPLC_XFER, 8, 0⟩
def SPLC_XFER_Z : Field := ⟨SPLC_XFER, 24, 16⟩
/-- SPLC_IEN (10_tally_and_agreement.md) -/
def SPLC_IEN : Reg := 0x30010
def SPLC_IEN_ILINK : Field := ⟨SPLC_IEN, 0, 0⟩
def SPLC_IEN_IALIGN : Field := ⟨SPLC_IEN, 1, 1⟩
def SPLC_IEN_IXFER : Field := ⟨SPLC_IEN, 2, 2⟩
/-- POS_ICFG (06_position_inputs.md) -/
def POS_ICFG (n : Nat) : Reg := 0x40000 + 0x4 * n
def POS_ICFG_EN (n : Nat) : Field := ⟨POS_ICFG n, 0, 0⟩
def POS_ICFG_IDXEN (n : Nat) : Field := ⟨POS_ICFG n, 1, 1⟩
def POS_ICFG_IGATE (n : Nat) : Field := ⟨POS_ICFG n, 4, 2⟩
def POS_ICFG_HYST (n : Nat) : Field := ⟨POS_ICFG n, 11, 8⟩
def POS_ICFG_ITOL (n : Nat) : Field := ⟨POS_ICFG n, 15, 12⟩
def POS_ICFG_WMUL (n : Nat) : Field := ⟨POS_ICFG n, 21, 16⟩
def POS_ICFG_RWAIT (n : Nat) : Field := ⟨POS_ICFG n, 27, 22⟩
def POS_ICFG_GF (n : Nat) : Field := ⟨POS_ICFG n, 31, 28⟩
/-- POS_ICPR (06_position_inputs.md) -/
def POS_ICPR (n : Nat) : Reg := 0x40020 + 0x4 * n
def POS_ICPR_CPR (n : Nat) : Field := ⟨POS_ICPR n, 23, 0⟩
/-- POS_ISTAT (06_position_inputs.md) -/
def POS_ISTAT (n : Nat) : Reg := 0x40040 + 0x4 * n
def POS_ISTAT_VALID (n : Nat) : Field := ⟨POS_ISTAT n, 0, 0⟩
def POS_ISTAT_DIR (n : Nat) : Field := ⟨POS_ISTAT n, 1, 1⟩
def POS_ISTAT_SUSPECT (n : Nat) : Field := ⟨POS_ISTAT n, 2, 2⟩
def POS_ISTAT_REFD (n : Nat) : Field := ⟨POS_ISTAT n, 3, 3⟩
def POS_ISTAT_CFLT (n : Nat) : Field := ⟨POS_ISTAT n, 4, 4⟩
def POS_ISTAT_CORR (n : Nat) : Field := ⟨POS_ISTAT n, 8, 8⟩
def POS_ISTAT_IDXF (n : Nat) : Field := ⟨POS_ISTAT n, 9, 9⟩
def POS_ISTAT_MISS (n : Nat) : Field := ⟨POS_ISTAT n, 10, 10⟩
def POS_ISTAT_COIN (n : Nat) : Field := ⟨POS_ISTAT n, 11, 11⟩
def POS_ISTAT_DIRCH (n : Nat) : Field := ⟨POS_ISTAT n, 12, 12⟩
def POS_ISTAT_GLITCH (n : Nat) : Field := ⟨POS_ISTAT n, 13, 13⟩
def POS_ISTAT_COINCNT (n : Nat) : Field := ⟨POS_ISTAT n, 23, 16⟩
/-- POS_RAW (06_position_inputs.md) -/
def POS_RAW (n : Nat) : Reg := 0x40060 + 0x4 * n
def POS_RAW_RAW (n : Nat) : Field := ⟨POS_RAW n, 31, 0⟩
/-- POS_CNT (06_position_inputs.md) -/
def POS_CNT (n : Nat) : Reg := 0x40080 + 0x4 * n
def POS_CNT_CNT (n : Nat) : Field := ⟨POS_CNT n, 31, 0⟩
/-- POS_DRIFT (06_position_inputs.md) -/
def POS_DRIFT (n : Nat) : Reg := 0x400A0 + 0x4 * n
def POS_DRIFT_SUM (n : Nat) : Field := ⟨POS_DRIFT n, 15, 0⟩
def POS_DRIFT_NCORR (n : Nat) : Field := ⟨POS_DRIFT n, 23, 16⟩
def POS_DRIFT_MAXABS (n : Nat) : Field := ⟨POS_DRIFT n, 31, 24⟩
/-- POS_HCFG (06_position_inputs.md) -/
def POS_HCFG (n : Nat) : Reg := 0x40100 + 0x4 * n
def POS_HCFG_EN (n : Nat) : Field := ⟨POS_HCFG n, 0, 0⟩
def POS_HCFG_INV (n : Nat) : Field := ⟨POS_HCFG n, 1, 1⟩
def POS_HCFG_MAP (n : Nat) : Field := ⟨POS_HCFG n, 19, 2⟩
def POS_HCFG_HYST (n : Nat) : Field := ⟨POS_HCFG n, 23, 20⟩
def POS_HCFG_WMUL (n : Nat) : Field := ⟨POS_HCFG n, 29, 24⟩
/-- POS_HSTAT (06_position_inputs.md) -/
def POS_HSTAT (n : Nat) : Reg := 0x40120 + 0x4 * n
def POS_HSTAT_STATE (n : Nat) : Field := ⟨POS_HSTAT n, 2, 0⟩
def POS_HSTAT_SECTOR (n : Nat) : Field := ⟨POS_HSTAT n, 5, 3⟩
def POS_HSTAT_VALID (n : Nat) : Field := ⟨POS_HSTAT n, 6, 6⟩
def POS_HSTAT_HFLT (n : Nat) : Field := ⟨POS_HSTAT n, 7, 7⟩
def POS_HSTAT_INVS (n : Nat) : Field := ⟨POS_HSTAT n, 8, 8⟩
def POS_HSTAT_SKIP (n : Nat) : Field := ⟨POS_HSTAT n, 9, 9⟩
def POS_HSTAT_DIRCH (n : Nat) : Field := ⟨POS_HSTAT n, 10, 10⟩
def POS_HSTAT_DIR (n : Nat) : Field := ⟨POS_HSTAT n, 11, 11⟩
def POS_HSTAT_SKIPCNT (n : Nat) : Field := ⟨POS_HSTAT n, 23, 16⟩
/-- POS_SCFG (06_position_inputs.md) -/
def POS_SCFG (n : Nat) : Reg := 0x40180 + 0x4 * n
def POS_SCFG_EN (n : Nat) : Field := ⟨POS_SCFG n, 0, 0⟩
def POS_SCFG_GRAY (n : Nat) : Field := ⟨POS_SCFG n, 1, 1⟩
def POS_SCFG_TRIG (n : Nat) : Field := ⟨POS_SCFG n, 2, 2⟩
def POS_SCFG_CLK (n : Nat) : Field := ⟨POS_SCFG n, 5, 3⟩
def POS_SCFG_NBITS (n : Nat) : Field := ⟨POS_SCFG n, 11, 6⟩
def POS_SCFG_PAR (n : Nat) : Field := ⟨POS_SCFG n, 13, 12⟩
def POS_SCFG_ZCHK (n : Nat) : Field := ⟨POS_SCFG n, 14, 14⟩
def POS_SCFG_JUMP (n : Nat) : Field := ⟨POS_SCFG n, 31, 16⟩
/-- POS_SLAT (06_position_inputs.md) -/
def POS_SLAT (n : Nat) : Reg := 0x40188 + 0x4 * n
def POS_SLAT_LAT (n : Nat) : Field := ⟨POS_SLAT n, 15, 0⟩
def POS_SLAT_SKIPT (n : Nat) : Field := ⟨POS_SLAT n, 31, 16⟩
/-- POS_SS_STAT (06_position_inputs.md) -/
def POS_SS_STAT (n : Nat) : Reg := 0x40190 + 0x10 * n
def POS_SS_STAT_SEQ (n : Nat) : Field := ⟨POS_SS_STAT n, 15, 0⟩
def POS_SS_STAT_READY (n : Nat) : Field := ⟨POS_SS_STAT n, 16, 16⟩
def POS_SS_STAT_VALID (n : Nat) : Field := ⟨POS_SS_STAT n, 17, 17⟩
def POS_SS_STAT_ERR (n : Nat) : Field := ⟨POS_SS_STAT n, 18, 18⟩
def POS_SS_STAT_SFLT (n : Nat) : Field := ⟨POS_SS_STAT n, 19, 19⟩
/-- POS_SS_POS (06_position_inputs.md) -/
def POS_SS_POS (n : Nat) : Reg := 0x40194 + 0x10 * n
def POS_SS_POS_POS (n : Nat) : Field := ⟨POS_SS_POS n, 31, 0⟩
/-- POS_SS_TS (06_position_inputs.md) -/
def POS_SS_TS (n : Nat) : Reg := 0x40198 + 0x10 * n
def POS_SS_TS_TS (n : Nat) : Field := ⟨POS_SS_TS n, 31, 0⟩
/-- POS_CMD (06_position_inputs.md) -/
def POS_CMD : Reg := 0x401C0
def POS_CMD_TARGET : Field := ⟨POS_CMD, 4, 0⟩
def POS_CMD_OP : Field := ⟨POS_CMD, 11, 8⟩
/-- POS_IEN (06_position_inputs.md) -/
def POS_IEN : Reg := 0x401C4
def POS_IEN_ICORR : Field := ⟨POS_IEN, 0, 0⟩
def POS_IEN_IFLT : Field := ⟨POS_IEN, 1, 1⟩
def POS_IEN_ICOIN : Field := ⟨POS_IEN, 2, 2⟩
def POS_IEN_IFAULT : Field := ⟨POS_IEN, 3, 3⟩
def POS_IEN_IDIR : Field := ⟨POS_IEN, 4, 4⟩
def POS_IEN_IECHO : Field := ⟨POS_IEN, 5, 5⟩
def POS_IEN_REJ : Field := ⟨POS_IEN, 16, 16⟩
/-- POS_SR_STAT (06_position_inputs.md) -/
def POS_SR_STAT (n : Nat) : Reg := 0x40200 + 0x10 * n
def POS_SR_STAT_SEQ (n : Nat) : Field := ⟨POS_SR_STAT n, 15, 0⟩
def POS_SR_STAT_READY (n : Nat) : Field := ⟨POS_SR_STAT n, 16, 16⟩
def POS_SR_STAT_VALID (n : Nat) : Field := ⟨POS_SR_STAT n, 17, 17⟩
def POS_SR_STAT_EXTRAP (n : Nat) : Field := ⟨POS_SR_STAT n, 18, 18⟩
def POS_SR_STAT_ZERO (n : Nat) : Field := ⟨POS_SR_STAT n, 19, 19⟩
def POS_SR_STAT_DIR (n : Nat) : Field := ⟨POS_SR_STAT n, 20, 20⟩
/-- POS_SR_SPDL (06_position_inputs.md) -/
def POS_SR_SPDL (n : Nat) : Reg := 0x40204 + 0x10 * n
def POS_SR_SPDL_SPDL (n : Nat) : Field := ⟨POS_SR_SPDL n, 31, 0⟩
/-- POS_SR_SPDH (06_position_inputs.md) -/
def POS_SR_SPDH (n : Nat) : Reg := 0x40208 + 0x10 * n
def POS_SR_SPDH_SPDH (n : Nat) : Field := ⟨POS_SR_SPDH n, 31, 0⟩
/-- POS_SR_TEND (06_position_inputs.md) -/
def POS_SR_TEND (n : Nat) : Reg := 0x4020C + 0x10 * n
def POS_SR_TEND_TEND (n : Nat) : Field := ⟨POS_SR_TEND n, 31, 0⟩
/-- ECHO_CFG (06_position_inputs.md) -/
def ECHO_CFG (n : Nat) : Reg := 0x40400 + 0x10 * n
def ECHO_CFG_EN (n : Nat) : Field := ⟨ECHO_CFG n, 0, 0⟩
def ECHO_CFG_SRC (n : Nat) : Field := ⟨ECHO_CFG n, 5, 1⟩
def ECHO_CFG_INVD (n : Nat) : Field := ⟨ECHO_CFG n, 6, 6⟩
/-- ECHO_RATIO (06_position_inputs.md) -/
def ECHO_RATIO (n : Nat) : Reg := 0x40404 + 0x10 * n
def ECHO_RATIO_N (n : Nat) : Field := ⟨ECHO_RATIO n, 15, 0⟩
def ECHO_RATIO_D (n : Nat) : Field := ⟨ECHO_RATIO n, 31, 16⟩
/-- ECHO_IPR (06_position_inputs.md) -/
def ECHO_IPR (n : Nat) : Reg := 0x40408 + 0x10 * n
def ECHO_IPR_IPR (n : Nat) : Field := ⟨ECHO_IPR n, 23, 0⟩
/-- ECHO_STAT (06_position_inputs.md) -/
def ECHO_STAT (n : Nat) : Reg := 0x4040C + 0x10 * n
def ECHO_STAT_ACTIVE (n : Nat) : Field := ⟨ECHO_STAT n, 0, 0⟩
def ECHO_STAT_HOLD (n : Nat) : Field := ⟨ECHO_STAT n, 1, 1⟩
def ECHO_STAT_SAT (n : Nat) : Field := ⟨ECHO_STAT n, 2, 2⟩
def ECHO_STAT_LAG (n : Nat) : Field := ⟨ECHO_STAT n, 3, 3⟩
def ECHO_STAT_REBASE (n : Nat) : Field := ⟨ECHO_STAT n, 4, 4⟩
def ECHO_STAT_BACKLOG (n : Nat) : Field := ⟨ECHO_STAT n, 31, 16⟩
/-- COMM_CHCFG (07_commutation.md) -/
def COMM_CHCFG (n : Nat) : Reg := 0x50000 + 0x40 * n
def COMM_CHCFG_EN (n : Nat) : Field := ⟨COMM_CHCFG n, 0, 0⟩
def COMM_CHCFG_SENS (n : Nat) : Field := ⟨COMM_CHCFG n, 2, 1⟩
def COMM_CHCFG_HSEL (n : Nat) : Field := ⟨COMM_CHCFG n, 5, 3⟩
def COMM_CHCFG_ESEL (n : Nat) : Field := ⟨COMM_CHCFG n, 8, 6⟩
def COMM_CHCFG_ROLE (n : Nat) : Field := ⟨COMM_CHCFG n, 10, 9⟩
def COMM_CHCFG_SFB (n : Nat) : Field := ⟨COMM_CHCFG n, 11, 11⟩
def COMM_CHCFG_DIRINV (n : Nat) : Field := ⟨COMM_CHCFG n, 12, 12⟩
/-- COMM_START (07_commutation.md) -/
def COMM_START (n : Nat) : Reg := 0x50004 + 0x40 * n
def COMM_START_ALIGNT (n : Nat) : Field := ⟨COMM_START n, 7, 0⟩
def COMM_START_FLOOR (n : Nat) : Field := ⟨COMM_START n, 17, 8⟩
def COMM_START_THRESH (n : Nat) : Field := ⟨COMM_START n, 27, 18⟩
def COMM_START_SHW (n : Nat) : Field := ⟨COMM_START n, 31, 28⟩
/-- COMM_STI (07_commutation.md) -/
def COMM_STI (n : Nat) : Reg := 0x50008 + 0x40 * n
def COMM_STI_ALIGNI (n : Nat) : Field := ⟨COMM_STI n, 7, 0⟩
def COMM_STI_RAMPI (n : Nat) : Field := ⟨COMM_STI n, 15, 8⟩
def COMM_STI_SHILIM (n : Nat) : Field := ⟨COMM_STI n, 23, 16⟩
def COMM_STI_RAMPACC (n : Nat) : Field := ⟨COMM_STI n, 31, 24⟩
/-- COMM_OBS (07_commutation.md) -/
def COMM_OBS (n : Nat) : Reg := 0x5000C + 0x40 * n
def COMM_OBS_WV (n : Nat) : Field := ⟨COMM_OBS n, 7, 0⟩
def COMM_OBS_WT (n : Nat) : Field := ⟨COMM_OBS n, 15, 8⟩
def COMM_OBS_WH (n : Nat) : Field := ⟨COMM_OBS n, 23, 16⟩
def COMM_OBS_RET (n : Nat) : Field := ⟨COMM_OBS n, 31, 24⟩
/-- COMM_FILT (07_commutation.md) -/
def COMM_FILT (n : Nat) : Reg := 0x50010 + 0x40 * n
def COMM_FILT_TAUE (n : Nat) : Field := ⟨COMM_FILT n, 11, 0⟩
def COMM_FILT_DEFTOL (n : Nat) : Field := ⟨COMM_FILT n, 15, 12⟩
def COMM_FILT_EMIN (n : Nat) : Field := ⟨COMM_FILT n, 25, 16⟩
/-- COMM_MOT (07_commutation.md) -/
def COMM_MOT (n : Nat) : Reg := 0x50014 + 0x40 * n
def COMM_MOT_R (n : Nat) : Field := ⟨COMM_MOT n, 15, 0⟩
def COMM_MOT_L (n : Nat) : Field := ⟨COMM_MOT n, 31, 16⟩
/-- COMM_KE (07_commutation.md) -/
def COMM_KE (n : Nat) : Reg := 0x50018 + 0x40 * n
def COMM_KE_KE (n : Nat) : Field := ⟨COMM_KE n, 15, 0⟩
def COMM_KE_EPR (n : Nat) : Field := ⟨COMM_KE n, 31, 16⟩
/-- COMM_RATED (07_commutation.md) -/
def COMM_RATED (n : Nat) : Reg := 0x5001C + 0x40 * n
def COMM_RATED_RATED (n : Nat) : Field := ⟨COMM_RATED n, 23, 0⟩
/-- COMM_RAMP (07_commutation.md) -/
def COMM_RAMP (n : Nat) : Reg := 0x50020 + 0x40 * n
def COMM_RAMP_ACC (n : Nat) : Field := ⟨COMM_RAMP n, 15, 0⟩
def COMM_RAMP_DEC (n : Nat) : Field := ⟨COMM_RAMP n, 31, 16⟩
/-- COMM_SPDSP (07_commutation.md) -/
def COMM_SPDSP (n : Nat) : Reg := 0x50024 + 0x40 * n
def COMM_SPDSP_SPDSP (n : Nat) : Field := ⟨COMM_SPDSP n, 31, 0⟩
/-- COMM_SPDR (07_commutation.md) -/
def COMM_SPDR (n : Nat) : Reg := 0x50028 + 0x40 * n
def COMM_SPDR_SPDR (n : Nat) : Field := ⟨COMM_SPDR n, 31, 0⟩
/-- COMM_CSTAT (07_commutation.md) -/
def COMM_CSTAT (n : Nat) : Reg := 0x5002C + 0x40 * n
def COMM_CSTAT_STATE (n : Nat) : Field := ⟨COMM_CSTAT n, 2, 0⟩
def COMM_CSTAT_SECTOR (n : Nat) : Field := ⟨COMM_CSTAT n, 5, 3⟩
def COMM_CSTAT_TVALID (n : Nat) : Field := ⟨COMM_CSTAT n, 6, 6⟩
def COMM_CSTAT_HUSE (n : Nat) : Field := ⟨COMM_CSTAT n, 7, 7⟩
def COMM_CSTAT_SFLT (n : Nat) : Field := ⟨COMM_CSTAT n, 8, 8⟩
def COMM_CSTAT_DEF (n : Nat) : Field := ⟨COMM_CSTAT n, 9, 9⟩
def COMM_CSTAT_HXF (n : Nat) : Field := ⟨COMM_CSTAT n, 10, 10⟩
def COMM_CSTAT_LOWSPD (n : Nat) : Field := ⟨COMM_CSTAT n, 11, 11⟩
def COMM_CSTAT_NARROW (n : Nat) : Field := ⟨COMM_CSTAT n, 12, 12⟩
def COMM_CSTAT_EVT (n : Nat) : Field := ⟨COMM_CSTAT n, 13, 13⟩
def COMM_CSTAT_BADC (n : Nat) : Field := ⟨COMM_CSTAT n, 14, 14⟩
def COMM_CSTAT_ATT (n : Nat) : Field := ⟨COMM_CSTAT n, 17, 16⟩
def COMM_CSTAT_DEFCNT (n : Nat) : Field := ⟨COMM_CSTAT n, 31, 24⟩
/-- COMM_DEM (20_register_index.md) -/
def COMM_DEM (n : Nat) : Reg := 0x50030 + 0x40 * n
def COMM_DEM_DEM (n : Nat) : Field := ⟨COMM_DEM n, 31, 0⟩
/-- COMM_IDEM (20_register_index.md) -/
def COMM_IDEM (n : Nat) : Reg := 0x50034 + 0x40 * n
def COMM_IDEM_IDEM (n : Nat) : Field := ⟨COMM_IDEM n, 31, 0⟩
/-- COMM_ANG (20_register_index.md) -/
def COMM_ANG (n : Nat) : Reg := 0x50038 + 0x40 * n
def COMM_ANG_ANGLE (n : Nat) : Field := ⟨COMM_ANG n, 11, 0⟩
def COMM_ANG_AVALID (n : Nat) : Field := ⟨COMM_ANG n, 12, 12⟩
/-- COMM_PA (07_commutation.md) -/
def COMM_PA (n : Nat) : Reg := 0x50200 + 0x4 * n
def COMM_PA_PA (n : Nat) : Field := ⟨COMM_PA n, 31, 0⟩
/-- COMM_CMD (07_commutation.md) -/
def COMM_CMD : Reg := 0x50400
def COMM_CMD_CH : Field := ⟨COMM_CMD, 2, 0⟩
def COMM_CMD_OP : Field := ⟨COMM_CMD, 7, 4⟩
def COMM_CMD_FRAME : Field := ⟨COMM_CMD, 31, 16⟩
/-- COMM_IEN (07_commutation.md) -/
def COMM_IEN : Reg := 0x50404
def COMM_IEN_IEVT : Field := ⟨COMM_IEN, 0, 0⟩
def COMM_IEN_FLT : Field := ⟨COMM_IEN, 1, 1⟩
def COMM_IEN_INAR : Field := ⟨COMM_IEN, 2, 2⟩
def COMM_IEN_REJ : Field := ⟨COMM_IEN, 16, 16⟩
/-- BRDG_CFG (09_gate_drive_protection.md) -/
def BRDG_CFG : Reg := 0x60000
def BRDG_CFG_DT : Field := ⟨BRDG_CFG, 1, 0⟩
def BRDG_CFG_CHEN : Field := ⟨BRDG_CFG, 2, 2⟩
/-- BRDG_STAT (09_gate_drive_protection.md) -/
def BRDG_STAT : Reg := 0x60004
def BRDG_STAT_UVLO : Field := ⟨BRDG_STAT, 0, 0⟩
def BRDG_STAT_UVEVT : Field := ⟨BRDG_STAT, 1, 1⟩
def BRDG_STAT_CHON : Field := ⟨BRDG_STAT, 2, 2⟩
def BRDG_STAT_CHF : Field := ⟨BRDG_STAT, 3, 3⟩
def BRDG_STAT_CHFC : Field := ⟨BRDG_STAT, 5, 4⟩
def BRDG_STAT_RSTOP : Field := ⟨BRDG_STAT, 6, 6⟩
def BRDG_STAT_OVA : Field := ⟨BRDG_STAT, 7, 7⟩
def BRDG_STAT_CREJ : Field := ⟨BRDG_STAT, 8, 8⟩
def BRDG_STAT_NORSV : Field := ⟨BRDG_STAT, 9, 9⟩
def BRDG_STAT_SCEVT : Field := ⟨BRDG_STAT, 10, 10⟩
/-- BRDG_IEN (09_gate_drive_protection.md) -/
def BRDG_IEN : Reg := 0x60008
def BRDG_IEN_ISC : Field := ⟨BRDG_IEN, 0, 0⟩
def BRDG_IEN_IUV : Field := ⟨BRDG_IEN, 1, 1⟩
def BRDG_IEN_ICHP : Field := ⟨BRDG_IEN, 2, 2⟩
def BRDG_IEN_IREJ : Field := ⟨BRDG_IEN, 3, 3⟩
/-- BRDG_VBUS (09_gate_drive_protection.md) -/
def BRDG_VBUS : Reg := 0x6000C
def BRDG_VBUS_VBUS : Field := ⟨BRDG_VBUS, 15, 0⟩
/-- BRDG_SCSTAT (09_gate_drive_protection.md) -/
def BRDG_SCSTAT : Reg := 0x60010
def BRDG_SCSTAT_LAT : Field := ⟨BRDG_SCSTAT, 17, 0⟩
/-- BRDG_SCCLR (09_gate_drive_protection.md) -/
def BRDG_SCCLR : Reg := 0x60014
def BRDG_SCCLR_LEGS : Field := ⟨BRDG_SCCLR, 17, 0⟩
/-- BRDG_CHCFG (09_gate_drive_protection.md) -/
def BRDG_CHCFG : Reg := 0x60018
def BRDG_CHCFG_CHTH : Field := ⟨BRDG_CHCFG, 9, 0⟩
def BRDG_CHCFG_HYS : Field := ⟨BRDG_CHCFG, 13, 10⟩
def BRDG_CHCFG_CHR : Field := ⟨BRDG_CHCFG, 31, 16⟩
/-- BRDG_OVCFG (09_gate_drive_protection.md) -/
def BRDG_OVCFG : Reg := 0x6001C
def BRDG_OVCFG_OVABS : Field := ⟨BRDG_OVCFG, 9, 0⟩
/-- BRDG_RSCFG (09_gate_drive_protection.md) -/
def BRDG_RSCFG : Reg := 0x60020
def BRDG_RSCFG_SLEW : Field := ⟨BRDG_RSCFG, 7, 0⟩
def BRDG_RSCFG_STEER : Field := ⟨BRDG_RSCFG, 13, 8⟩
/-- BRDG_CHSN (09_gate_drive_protection.md) -/
def BRDG_CHSN : Reg := 0x60024
def BRDG_CHSN_RATIO : Field := ⟨BRDG_CHSN, 15, 0⟩
def BRDG_CHSN_FS : Field := ⟨BRDG_CHSN, 17, 16⟩
/-- BRDG_CHCLR (09_gate_drive_protection.md) -/
def BRDG_CHCLR : Reg := 0x60028
def BRDG_CHCLR_CLR : Field := ⟨BRDG_CHCLR, 0, 0⟩
/-- BRDG_RSVH (09_gate_drive_protection.md) -/
def BRDG_RSVH : Reg := 0x6002C
def BRDG_RSVH_RSVH : Field := ⟨BRDG_RSVH, 17, 0⟩
def BRDG_RSVH_CHP : Field := ⟨BRDG_RSVH, 18, 18⟩
/-- BRDG_RSVL (09_gate_drive_protection.md) -/
def BRDG_RSVL : Reg := 0x60030
def BRDG_RSVL_RSVL : Field := ⟨BRDG_RSVL, 17, 0⟩
/-- BRDG_SN (09_gate_drive_protection.md) -/
def BRDG_SN (n : Nat) : Reg := 0x60100 + 0x20 * n
def BRDG_SN_RATIO (n : Nat) : Field := ⟨BRDG_SN n, 15, 0⟩
def BRDG_SN_FS (n : Nat) : Field := ⟨BRDG_SN n, 17, 16⟩
/-- BRDG_SC (09_gate_drive_protection.md) -/
def BRDG_SC (n : Nat) : Reg := 0x60104 + 0x20 * n
def BRDG_SC_TRIP (n : Nat) : Field := ⟨BRDG_SC n, 7, 0⟩
def BRDG_SC_BLANK (n : Nat) : Field := ⟨BRDG_SC n, 12, 8⟩
/-- BRDG_SCREC (09_gate_drive_protection.md) -/
def BRDG_SCREC (n : Nat) : Reg := 0x60108 + 0x20 * n
def BRDG_SCREC_LEG1 (n : Nat) : Field := ⟨BRDG_SCREC n, 4, 0⟩
def BRDG_SCREC_SIDE1 (n : Nat) : Field := ⟨BRDG_SCREC n, 5, 5⟩
def BRDG_SCREC_HARD1 (n : Nat) : Field := ⟨BRDG_SCREC n, 6, 6⟩
def BRDG_SCREC_LEG2 (n : Nat) : Field := ⟨BRDG_SCREC n, 11, 7⟩
def BRDG_SCREC_SIDE2 (n : Nat) : Field := ⟨BRDG_SCREC n, 12, 12⟩
def BRDG_SCREC_HARD2 (n : Nat) : Field := ⟨BRDG_SCREC n, 13, 13⟩
def BRDG_SCREC_TWO (n : Nat) : Field := ⟨BRDG_SCREC n, 14, 14⟩
def BRDG_SCREC_TIE (n : Nat) : Field := ⟨BRDG_SCREC n, 15, 15⟩
def BRDG_SCREC_TRIPS (n : Nat) : Field := ⟨BRDG_SCREC n, 18, 16⟩
/-- BRDG_SCTS1 (09_gate_drive_protection.md) -/
def BRDG_SCTS1 (n : Nat) : Reg := 0x6010C + 0x20 * n
def BRDG_SCTS1_SCTS1 (n : Nat) : Field := ⟨BRDG_SCTS1 n, 31, 0⟩
/-- BRDG_SCTS2 (09_gate_drive_protection.md) -/
def BRDG_SCTS2 (n : Nat) : Reg := 0x60110 + 0x20 * n
def BRDG_SCTS2_SCTS2 (n : Nat) : Field := ⟨BRDG_SCTS2 n, 31, 0⟩
/-- BRDG_OFF (09_gate_drive_protection.md) -/
def BRDG_OFF (n : Nat) : Reg := 0x60200 + 0x4 * n
def BRDG_OFF_OFF (n : Nat) : Field := ⟨BRDG_OFF n, 15, 0⟩
/-- LOOP_CFG (08_loop_unit.md) -/
def LOOP_CFG (n : Nat) : Reg := 0x70000 + 0x40 * n
def LOOP_CFG_EN (n : Nat) : Field := ⟨LOOP_CFG n, 0, 0⟩
def LOOP_CFG_GEN (n : Nat) : Field := ⟨LOOP_CFG n, 1, 1⟩
def LOOP_CFG_GRP (n : Nat) : Field := ⟨LOOP_CFG n, 4, 2⟩
def LOOP_CFG_LOCAL (n : Nat) : Field := ⟨LOOP_CFG n, 5, 5⟩
def LOOP_CFG_REV (n : Nat) : Field := ⟨LOOP_CFG n, 6, 6⟩
def LOOP_CFG_DERR (n : Nat) : Field := ⟨LOOP_CFG n, 7, 7⟩
def LOOP_CFG_AORD (n : Nat) : Field := ⟨LOOP_CFG n, 9, 8⟩
def LOOP_CFG_KIND (n : Nat) : Field := ⟨LOOP_CFG n, 11, 10⟩
def LOOP_CFG_CH (n : Nat) : Field := ⟨LOOP_CFG n, 14, 12⟩
def LOOP_CFG_SHARE (n : Nat) : Field := ⟨LOOP_CFG n, 15, 15⟩
/-- LOOP_SRC (08_loop_unit.md) -/
def LOOP_SRC (n : Nat) : Reg := 0x70004 + 0x40 * n
def LOOP_SRC_Y (n : Nat) : Field := ⟨LOOP_SRC n, 15, 0⟩
def LOOP_SRC_R (n : Nat) : Field := ⟨LOOP_SRC n, 31, 16⟩
/-- LOOP_SP (08_loop_unit.md) -/
def LOOP_SP (n : Nat) : Reg := 0x70008 + 0x40 * n
def LOOP_SP_SP (n : Nat) : Field := ⟨LOOP_SP n, 31, 0⟩
/-- LOOP_MAN (08_loop_unit.md) -/
def LOOP_MAN (n : Nat) : Reg := 0x7000C + 0x40 * n
def LOOP_MAN_MAN (n : Nat) : Field := ⟨LOOP_MAN n, 31, 0⟩
/-- LOOP_KP (08_loop_unit.md) -/
def LOOP_KP (n : Nat) : Reg := 0x70010 + 0x40 * n
def LOOP_KP_KP (n : Nat) : Field := ⟨LOOP_KP n, 31, 0⟩
/-- LOOP_KI (08_loop_unit.md) -/
def LOOP_KI (n : Nat) : Reg := 0x70014 + 0x40 * n
def LOOP_KI_KI (n : Nat) : Field := ⟨LOOP_KI n, 31, 0⟩
/-- LOOP_AD (08_loop_unit.md) -/
def LOOP_AD (n : Nat) : Reg := 0x70018 + 0x40 * n
def LOOP_AD_AD (n : Nat) : Field := ⟨LOOP_AD n, 31, 0⟩
/-- LOOP_BD (08_loop_unit.md) -/
def LOOP_BD (n : Nat) : Reg := 0x7001C + 0x40 * n
def LOOP_BD_BD (n : Nat) : Field := ⟨LOOP_BD n, 31, 0⟩
/-- LOOP_KB (08_loop_unit.md) -/
def LOOP_KB (n : Nat) : Reg := 0x70020 + 0x40 * n
def LOOP_KB_KB (n : Nat) : Field := ⟨LOOP_KB n, 31, 0⟩
/-- LOOP_KA (08_loop_unit.md) -/
def LOOP_KA (n : Nat) : Reg := 0x70024 + 0x40 * n
def LOOP_KA_KA (n : Nat) : Field := ⟨LOOP_KA n, 31, 0⟩
/-- LOOP_OMIN (08_loop_unit.md) -/
def LOOP_OMIN (n : Nat) : Reg := 0x70028 + 0x40 * n
def LOOP_OMIN_OMIN (n : Nat) : Field := ⟨LOOP_OMIN n, 31, 0⟩
/-- LOOP_OMAX (08_loop_unit.md) -/
def LOOP_OMAX (n : Nat) : Reg := 0x7002C + 0x40 * n
def LOOP_OMAX_OMAX (n : Nat) : Field := ⟨LOOP_OMAX n, 31, 0⟩
/-- LOOP_OUT (08_loop_unit.md) -/
def LOOP_OUT (n : Nat) : Reg := 0x70030 + 0x40 * n
def LOOP_OUT_OUT (n : Nat) : Field := ⟨LOOP_OUT n, 31, 0⟩
/-- LOOP_INT (08_loop_unit.md) -/
def LOOP_INT (n : Nat) : Reg := 0x70034 + 0x40 * n
def LOOP_INT_INT (n : Nat) : Field := ⟨LOOP_INT n, 31, 0⟩
/-- LOOP_SSTAT (08_loop_unit.md) -/
def LOOP_SSTAT (n : Nat) : Reg := 0x70038 + 0x40 * n
def LOOP_SSTAT_WIN (n : Nat) : Field := ⟨LOOP_SSTAT n, 0, 0⟩
def LOOP_SSTAT_CLAMP (n : Nat) : Field := ⟨LOOP_SSTAT n, 1, 1⟩
def LOOP_SSTAT_HOLD (n : Nat) : Field := ⟨LOOP_SSTAT n, 2, 2⟩
def LOOP_SSTAT_MAN (n : Nat) : Field := ⟨LOOP_SSTAT n, 3, 3⟩
def LOOP_SSTAT_INJ (n : Nat) : Field := ⟨LOOP_SSTAT n, 4, 4⟩
def LOOP_SSTAT_ISAT (n : Nat) : Field := ⟨LOOP_SSTAT n, 5, 5⟩
def LOOP_SSTAT_PRE (n : Nat) : Field := ⟨LOOP_SSTAT n, 6, 6⟩
def LOOP_SSTAT_FIRST (n : Nat) : Field := ⟨LOOP_SSTAT n, 7, 7⟩
/-- LOOP_YIN (20_register_index.md) -/
def LOOP_YIN (n : Nat) : Reg := 0x7003C + 0x40 * n
def LOOP_YIN_YIN (n : Nat) : Field := ⟨LOOP_YIN n, 31, 0⟩
/-- LOOP_GRP (08_loop_unit.md) -/
def LOOP_GRP (n : Nat) : Reg := 0x70600 + 0x8 * n
def LOOP_GRP_EN (n : Nat) : Field := ⟨LOOP_GRP n, 0, 0⟩
def LOOP_GRP_MODE (n : Nat) : Field := ⟨LOOP_GRP n, 1, 1⟩
/-- LOOP_GOUT (08_loop_unit.md) -/
def LOOP_GOUT (n : Nat) : Reg := 0x70604 + 0x8 * n
def LOOP_GOUT_GOUT (n : Nat) : Field := ⟨LOOP_GOUT n, 31, 0⟩
/-- LOOP_ITR (08_loop_unit.md) -/
def LOOP_ITR (n : Nat) : Reg := 0x70680 + 0x10 * n
def LOOP_ITR_ITR (n : Nat) : Field := ⟨LOOP_ITR n, 15, 0⟩
def LOOP_ITR_ILIM (n : Nat) : Field := ⟨LOOP_ITR n, 31, 16⟩
/-- LOOP_KR (08_loop_unit.md) -/
def LOOP_KR (n : Nat) : Reg := 0x70684 + 0x10 * n
def LOOP_KR_KR (n : Nat) : Field := ⟨LOOP_KR n, 31, 0⟩
/-- LOOP_SHARE (08_loop_unit.md) -/
def LOOP_SHARE (n : Nat) : Reg := 0x70688 + 0x10 * n
def LOOP_SHARE_SHARE (n : Nat) : Field := ⟨LOOP_SHARE n, 31, 0⟩
/-- LOOP_AUX (08_loop_unit.md) -/
def LOOP_AUX (n : Nat) : Reg := 0x70700 + 0x4 * n
def LOOP_AUX_AUX (n : Nat) : Field := ⟨LOOP_AUX n, 31, 0⟩
/-- LOOP_AUXV (08_loop_unit.md) -/
def LOOP_AUXV : Reg := 0x70800
def LOOP_AUXV_AUXV : Field := ⟨LOOP_AUXV, 15, 0⟩
/-- LOOP_STAT (08_loop_unit.md) -/
def LOOP_STAT : Reg := 0x70804
def LOOP_STAT_ACTIVE : Field := ⟨LOOP_STAT, 0, 0⟩
def LOOP_STAT_BUSLOW : Field := ⟨LOOP_STAT, 1, 1⟩
def LOOP_STAT_REJ : Field := ⟨LOOP_STAT, 2, 2⟩
def LOOP_STAT_OMIS : Field := ⟨LOOP_STAT, 3, 3⟩
def LOOP_STAT_INJON : Field := ⟨LOOP_STAT, 4, 4⟩
def LOOP_STAT_CAPON : Field := ⟨LOOP_STAT, 5, 5⟩
/-- LOOP_RSTAT (08_loop_unit.md) -/
def LOOP_RSTAT : Reg := 0x70808
def LOOP_RSTAT_SEQ : Field := ⟨LOOP_RSTAT, 15, 0⟩
def LOOP_RSTAT_READY : Field := ⟨LOOP_RSTAT, 16, 16⟩
/-- LOOP_CMD (08_loop_unit.md) -/
def LOOP_CMD : Reg := 0x7080C
def LOOP_CMD_SLOT : Field := ⟨LOOP_CMD, 4, 0⟩
def LOOP_CMD_OP : Field := ⟨LOOP_CMD, 11, 8⟩
def LOOP_CMD_FRAME : Field := ⟨LOOP_CMD, 31, 16⟩
/-- LOOP_INJ (08_loop_unit.md) -/
def LOOP_INJ : Reg := 0x70810
def LOOP_INJ_SLOT : Field := ⟨LOOP_INJ, 4, 0⟩
def LOOP_INJ_POINT : Field := ⟨LOOP_INJ, 5, 5⟩
def LOOP_INJ_WAVE : Field := ⟨LOOP_INJ, 6, 6⟩
def LOOP_INJ_ORDER : Field := ⟨LOOP_INJ, 10, 7⟩
def LOOP_INJ_HOLD : Field := ⟨LOOP_INJ, 18, 11⟩
/-- LOOP_INJAMP (08_loop_unit.md) -/
def LOOP_INJAMP : Reg := 0x70814
def LOOP_INJAMP_INJAMP : Field := ⟨LOOP_INJAMP, 31, 0⟩
/-- LOOP_SWF0 (08_loop_unit.md) -/
def LOOP_SWF0 : Reg := 0x70818
def LOOP_SWF0_SWF0 : Field := ⟨LOOP_SWF0, 31, 0⟩
/-- LOOP_SWRAT (08_loop_unit.md) -/
def LOOP_SWRAT : Reg := 0x7081C
def LOOP_SWRAT_SWRAT : Field := ⟨LOOP_SWRAT, 31, 0⟩
/-- LOOP_SWDUR (08_loop_unit.md) -/
def LOOP_SWDUR : Reg := 0x70820
def LOOP_SWDUR_DUR : Field := ⟨LOOP_SWDUR, 23, 0⟩
/-- LOOP_CAPCFG (08_loop_unit.md) -/
def LOOP_CAPCFG : Reg := 0x70824
def LOOP_CAPCFG_SIG0 : Field := ⟨LOOP_CAPCFG, 7, 0⟩
def LOOP_CAPCFG_SIG1 : Field := ⟨LOOP_CAPCFG, 15, 8⟩
def LOOP_CAPCFG_SIG2 : Field := ⟨LOOP_CAPCFG, 23, 16⟩
def LOOP_CAPCFG_SIG3 : Field := ⟨LOOP_CAPCFG, 31, 24⟩
/-- LOOP_CAPDEC (08_loop_unit.md) -/
def LOOP_CAPDEC : Reg := 0x70828
def LOOP_CAPDEC_DEC : Field := ⟨LOOP_CAPDEC, 7, 0⟩
def LOOP_CAPDEC_TRIG : Field := ⟨LOOP_CAPDEC, 8, 8⟩
/-- LOOP_CAPSTAT (08_loop_unit.md) -/
def LOOP_CAPSTAT : Reg := 0x7082C
def LOOP_CAPSTAT_SEQ : Field := ⟨LOOP_CAPSTAT, 15, 0⟩
def LOOP_CAPSTAT_READY : Field := ⟨LOOP_CAPSTAT, 16, 16⟩
def LOOP_CAPSTAT_COUNT : Field := ⟨LOOP_CAPSTAT, 31, 17⟩
/-- LOOP_CAPIDX (08_loop_unit.md) -/
def LOOP_CAPIDX : Reg := 0x70830
def LOOP_CAPIDX_IDX : Field := ⟨LOOP_CAPIDX, 13, 0⟩
/-- LOOP_CAPDATA (08_loop_unit.md) -/
def LOOP_CAPDATA : Reg := 0x70834
def LOOP_CAPDATA_CAPDATA : Field := ⟨LOOP_CAPDATA, 31, 0⟩
/-- LOOP_IEN (08_loop_unit.md) -/
def LOOP_IEN : Reg := 0x70838
def LOOP_IEN_IDONE : Field := ⟨LOOP_IEN, 0, 0⟩
def LOOP_IEN_ICAP : Field := ⟨LOOP_IEN, 1, 1⟩
def LOOP_IEN_IFLT : Field := ⟨LOOP_IEN, 2, 2⟩
/-- SECT_OFS (17_section_outputs.md) -/
def SECT_OFS (n : Nat) : Reg := 0x80000 + 0x20 * n
def SECT_OFS_SX (n : Nat) : Field := ⟨SECT_OFS n, 15, 0⟩
def SECT_OFS_SY (n : Nat) : Field := ⟨SECT_OFS n, 31, 16⟩
/-- SECT_LAT (17_section_outputs.md) -/
def SECT_LAT (n : Nat) : Reg := 0x80004 + 0x20 * n
def SECT_LAT_LON (n : Nat) : Field := ⟨SECT_LAT n, 15, 0⟩
def SECT_LAT_LOFF (n : Nat) : Field := ⟨SECT_LAT n, 31, 16⟩
/-- SECT_NXT_E (17_section_outputs.md) -/
def SECT_NXT_E (n : Nat) : Reg := 0x80008 + 0x20 * n
def SECT_NXT_E_E (n : Nat) : Field := ⟨SECT_NXT_E n, 31, 0⟩
/-- SECT_NXT_N (17_section_outputs.md) -/
def SECT_NXT_N (n : Nat) : Reg := 0x8000C + 0x20 * n
def SECT_NXT_N_N (n : Nat) : Field := ⟨SECT_NXT_N n, 31, 0⟩
/-- SECT_NXT_C (17_section_outputs.md) -/
def SECT_NXT_C (n : Nat) : Reg := 0x80010 + 0x20 * n
def SECT_NXT_C_ALPHA (n : Nat) : Field := ⟨SECT_NXT_C n, 15, 0⟩
def SECT_NXT_C_ON (n : Nat) : Field := ⟨SECT_NXT_C n, 16, 16⟩
/-- SECT_OSTAT (17_section_outputs.md) -/
def SECT_OSTAT (n : Nat) : Reg := 0x80014 + 0x20 * n
def SECT_OSTAT_LEVEL (n : Nat) : Field := ⟨SECT_OSTAT n, 0, 0⟩
def SECT_OSTAT_CVALID (n : Nat) : Field := ⟨SECT_OSTAT n, 1, 1⟩
def SECT_OSTAT_NVALID (n : Nat) : Field := ⟨SECT_OSTAT n, 2, 2⟩
def SECT_OSTAT_COMMIT (n : Nat) : Field := ⟨SECT_OSTAT n, 3, 3⟩
def SECT_OSTAT_XEV (n : Nat) : Field := ⟨SECT_OSTAT n, 4, 4⟩
def SECT_OSTAT_LATE (n : Nat) : Field := ⟨SECT_OSTAT n, 5, 5⟩
/-- SECT_CFG (17_section_outputs.md) -/
def SECT_CFG : Reg := 0x80800
def SECT_CFG_KP : Field := ⟨SECT_CFG, 7, 0⟩
def SECT_CFG_KH : Field := ⟨SECT_CFG, 15, 8⟩
def SECT_CFG_DRT : Field := ⟨SECT_CFG, 19, 16⟩
/-- SECT_SRC (17_section_outputs.md) -/
def SECT_SRC : Reg := 0x80804
def SECT_SRC_FE : Field := ⟨SECT_SRC, 4, 0⟩
def SECT_SRC_FN : Field := ⟨SECT_SRC, 12, 8⟩
def SECT_SRC_FAGE : Field := ⟨SECT_SRC, 20, 16⟩
def SECT_SRC_YAW : Field := ⟨SECT_SRC, 28, 24⟩
/-- SECT_ANT (17_section_outputs.md) -/
def SECT_ANT : Reg := 0x80808
def SECT_ANT_AX : Field := ⟨SECT_ANT, 15, 0⟩
def SECT_ANT_AY : Field := ⟨SECT_ANT, 31, 16⟩
/-- SECT_ENA (17_section_outputs.md) -/
def SECT_ENA : Reg := 0x8080C
def SECT_ENA_ENA : Field := ⟨SECT_ENA, 31, 0⟩
/-- SECT_ENB (17_section_outputs.md) -/
def SECT_ENB : Reg := 0x80810
def SECT_ENB_ENB : Field := ⟨SECT_ENB, 15, 0⟩
/-- SECT_FORCEA (17_section_outputs.md) -/
def SECT_FORCEA : Reg := 0x80814
def SECT_FORCEA_FORCEA : Field := ⟨SECT_FORCEA, 31, 0⟩
/-- SECT_FORCEB (17_section_outputs.md) -/
def SECT_FORCEB : Reg := 0x80818
def SECT_FORCEB_FORCEB : Field := ⟨SECT_FORCEB, 15, 0⟩
/-- SECT_GOUTA (17_section_outputs.md) -/
def SECT_GOUTA : Reg := 0x8081C
def SECT_GOUTA_GOUTA : Field := ⟨SECT_GOUTA, 31, 0⟩
/-- SECT_GOUTB (17_section_outputs.md) -/
def SECT_GOUTB : Reg := 0x80820
def SECT_GOUTB_GOUTB : Field := ⟨SECT_GOUTB, 15, 0⟩
/-- SECT_GDIS (17_section_outputs.md) -/
def SECT_GDIS : Reg := 0x80824
def SECT_GDIS_CA : Field := ⟨SECT_GDIS, 7, 0⟩
def SECT_GDIS_CB : Field := ⟨SECT_GDIS, 15, 8⟩
def SECT_GDIS_CC : Field := ⟨SECT_GDIS, 23, 16⟩
def SECT_GDIS_DIS : Field := ⟨SECT_GDIS, 26, 24⟩
def SECT_GDIS_EINV : Field := ⟨SECT_GDIS, 27, 27⟩
/-- SECT_ESTAT (17_section_outputs.md) -/
def SECT_ESTAT : Reg := 0x80828
def SECT_ESTAT_SEQ : Field := ⟨SECT_ESTAT, 15, 0⟩
def SECT_ESTAT_READY : Field := ⟨SECT_ESTAT, 16, 16⟩
def SECT_ESTAT_VALID : Field := ⟨SECT_ESTAT, 17, 17⟩
/-- SECT_EE (17_section_outputs.md) -/
def SECT_EE : Reg := 0x8082C
def SECT_EE_EE : Field := ⟨SECT_EE, 31, 0⟩
/-- SECT_EN (17_section_outputs.md) -/
def SECT_EN : Reg := 0x80830
def SECT_EN_EN : Field := ⟨SECT_EN, 31, 0⟩
/-- SECT_EH (17_section_outputs.md) -/
def SECT_EH : Reg := 0x80834
def SECT_EH_PSI : Field := ⟨SECT_EH, 15, 0⟩
/-- SECT_IEN (17_section_outputs.md) -/
def SECT_IEN : Reg := 0x80838
def SECT_IEN_IXEV : Field := ⟨SECT_IEN, 0, 0⟩
def SECT_IEN_ILATE : Field := ⟨SECT_IEN, 1, 1⟩
def SECT_IEN_IDIS : Field := ⟨SECT_IEN, 2, 2⟩
/-- LAY_CFG (15_lay_bus.md) -/
def LAY_CFG : Reg := 0x90000
def LAY_CFG_XEN : Field := ⟨LAY_CFG, 0, 0⟩
def LAY_CFG_YEN : Field := ⟨LAY_CFG, 1, 1⟩
def LAY_CFG_RANK : Field := ⟨LAY_CFG, 4, 2⟩
def LAY_CFG_CSEN : Field := ⟨LAY_CFG, 5, 5⟩
/-- LAY_STAT (15_lay_bus.md) -/
def LAY_STAT : Reg := 0x90004
def LAY_STAT_NSTATE : Field := ⟨LAY_STAT, 1, 0⟩
def LAY_STAT_REFR : Field := ⟨LAY_STAT, 4, 2⟩
def LAY_STAT_XDN : Field := ⟨LAY_STAT, 5, 5⟩
def LAY_STAT_YDN : Field := ⟨LAY_STAT, 6, 6⟩
def LAY_STAT_NLOSS : Field := ⟨LAY_STAT, 7, 7⟩
def LAY_STAT_TXOFFX : Field := ⟨LAY_STAT, 8, 8⟩
def LAY_STAT_TXOFFY : Field := ⟨LAY_STAT, 9, 9⟩
def LAY_STAT_SYNEV : Field := ⟨LAY_STAT, 16, 16⟩
def LAY_STAT_TAKEOV : Field := ⟨LAY_STAT, 17, 17⟩
def LAY_STAT_YOVF : Field := ⟨LAY_STAT, 18, 18⟩
def LAY_STAT_CQOVF : Field := ⟨LAY_STAT, 19, 19⟩
def LAY_STAT_COLLC : Field := ⟨LAY_STAT, 31, 24⟩
/-- LAY_CTL (15_lay_bus.md) -/
def LAY_CTL : Reg := 0x90008
def LAY_CTL_TXONX : Field := ⟨LAY_CTL, 0, 0⟩
def LAY_CTL_TXONY : Field := ⟨LAY_CTL, 1, 1⟩
/-- LAY_CYCLE (15_lay_bus.md) -/
def LAY_CYCLE : Reg := 0x9000C
def LAY_CYCLE_CYCLE : Field := ⟨LAY_CYCLE, 31, 0⟩
/-- LAY_NOFS (15_lay_bus.md) -/
def LAY_NOFS : Reg := 0x90010
def LAY_NOFS_NOFS : Field := ⟨LAY_NOFS, 31, 0⟩
/-- LAY_EPS (15_lay_bus.md) -/
def LAY_EPS : Reg := 0x90014
def LAY_EPS_EPS : Field := ⟨LAY_EPS, 31, 0⟩
/-- LAY_ERR (15_lay_bus.md) -/
def LAY_ERR (n : Nat) : Reg := 0x90018 + 0x4 * n
def LAY_ERR_WIN (n : Nat) : Field := ⟨LAY_ERR n, 7, 0⟩
def LAY_ERR_FRM (n : Nat) : Field := ⟨LAY_ERR n, 15, 8⟩
def LAY_ERR_HDR (n : Nat) : Field := ⟨LAY_ERR n, 23, 16⟩
def LAY_ERR_CRC (n : Nat) : Field := ⟨LAY_ERR n, 27, 24⟩
def LAY_ERR_TXE (n : Nat) : Field := ⟨LAY_ERR n, 31, 28⟩
/-- LAY_PDLY (15_lay_bus.md) -/
def LAY_PDLY (n : Nat) : Reg := 0x90020 + 0x4 * n
def LAY_PDLY_PDLY (n : Nat) : Field := ⟨LAY_PDLY n, 15, 0⟩
/-- LAY_TXSX (15_lay_bus.md) -/
def LAY_TXSX : Reg := 0x90028
def LAY_TXSX_TXSX : Field := ⟨LAY_TXSX, 31, 0⟩
/-- LAY_TXSY (15_lay_bus.md) -/
def LAY_TXSY : Reg := 0x9002C
def LAY_TXSY_TXSY : Field := ⟨LAY_TXSY, 31, 0⟩
/-- LAY_RXSX (15_lay_bus.md) -/
def LAY_RXSX : Reg := 0x90030
def LAY_RXSX_RXSX : Field := ⟨LAY_RXSX, 31, 0⟩
/-- LAY_RXSY (15_lay_bus.md) -/
def LAY_RXSY : Reg := 0x90034
def LAY_RXSY_RXSY : Field := ⟨LAY_RXSY, 31, 0⟩
/-- LAY_CMDMX (15_lay_bus.md) -/
def LAY_CMDMX : Reg := 0x90038
def LAY_CMDMX_CMDMX : Field := ⟨LAY_CMDMX, 31, 0⟩
/-- LAY_CMDMY (15_lay_bus.md) -/
def LAY_CMDMY : Reg := 0x9003C
def LAY_CMDMY_CMDMY : Field := ⟨LAY_CMDMY, 31, 0⟩
/-- LAY_FIENX (15_lay_bus.md) -/
def LAY_FIENX : Reg := 0x90040
def LAY_FIENX_FIENX : Field := ⟨LAY_FIENX, 31, 0⟩
/-- LAY_FIENY (15_lay_bus.md) -/
def LAY_FIENY : Reg := 0x90044
def LAY_FIENY_FIENY : Field := ⟨LAY_FIENY, 31, 0⟩
/-- LAY_YCFG (15_lay_bus.md) -/
def LAY_YCFG : Reg := 0x90048
def LAY_YCFG_YIDX : Field := ⟨LAY_YCFG, 7, 0⟩
def LAY_YCFG_YIDY : Field := ⟨LAY_YCFG, 15, 8⟩
def LAY_YCFG_RLO : Field := ⟨LAY_YCFG, 23, 16⟩
def LAY_YCFG_RHI : Field := ⟨LAY_YCFG, 31, 24⟩
/-- LAY_YCMD (15_lay_bus.md) -/
def LAY_YCMD : Reg := 0x9004C
def LAY_YCMD_CLO : Field := ⟨LAY_YCMD, 7, 0⟩
def LAY_YCMD_CHI : Field := ⟨LAY_YCMD, 15, 8⟩
/-- LAY_IEN (15_lay_bus.md) -/
def LAY_IEN : Reg := 0x90050
def LAY_IEN_ISYN : Field := ⟨LAY_IEN, 0, 0⟩
def LAY_IEN_ITAK : Field := ⟨LAY_IEN, 1, 1⟩
def LAY_IEN_IOVF : Field := ⟨LAY_IEN, 2, 2⟩
def LAY_IEN_IYQ : Field := ⟨LAY_IEN, 3, 3⟩
/-- LAY_YQSTAT (15_lay_bus.md) -/
def LAY_YQSTAT : Reg := 0x90054
def LAY_YQSTAT_SEQ : Field := ⟨LAY_YQSTAT, 15, 0⟩
def LAY_YQSTAT_READY : Field := ⟨LAY_YQSTAT, 16, 16⟩
def LAY_YQSTAT_LEN : Field := ⟨LAY_YQSTAT, 24, 17⟩
def LAY_YQSTAT_COUNT : Field := ⟨LAY_YQSTAT, 29, 25⟩
/-- LAY_YQDATA (15_lay_bus.md) -/
def LAY_YQDATA : Reg := 0x90058
def LAY_YQDATA_YQDATA : Field := ⟨LAY_YQDATA, 31, 0⟩
/-- LAY_YQACK (15_lay_bus.md) -/
def LAY_YQACK : Reg := 0x9005C
def LAY_YQACK_SEQ : Field := ⟨LAY_YQACK, 15, 0⟩
/-- LAY_CQSTAT (15_lay_bus.md) -/
def LAY_CQSTAT : Reg := 0x90060
def LAY_CQSTAT_SEQ : Field := ⟨LAY_CQSTAT, 15, 0⟩
def LAY_CQSTAT_READY : Field := ⟨LAY_CQSTAT, 16, 16⟩
def LAY_CQSTAT_LEN : Field := ⟨LAY_CQSTAT, 24, 17⟩
def LAY_CQSTAT_COUNT : Field := ⟨LAY_CQSTAT, 29, 25⟩
/-- LAY_CQACK (15_lay_bus.md) -/
def LAY_CQACK : Reg := 0x90064
def LAY_CQACK_SEQ : Field := ⟨LAY_CQACK, 15, 0⟩
/-- LAY_CQDATA (15_lay_bus.md) -/
def LAY_CQDATA (n : Nat) : Reg := 0x90080 + 0x4 * n
def LAY_CQDATA_CQDATA (n : Nat) : Field := ⟨LAY_CQDATA n, 31, 0⟩
/-- LAY_TXCTL (15_lay_bus.md) -/
def LAY_TXCTL (n : Nat) : Reg := 0x91000 + 0x40 * n
def LAY_TXCTL_EN (n : Nat) : Field := ⟨LAY_TXCTL n, 0, 0⟩
def LAY_TXCTL_PEND (n : Nat) : Field := ⟨LAY_TXCTL n, 1, 1⟩
def LAY_TXCTL_KIND (n : Nat) : Field := ⟨LAY_TXCTL n, 3, 2⟩
def LAY_TXCTL_LEN (n : Nat) : Field := ⟨LAY_TXCTL n, 11, 4⟩
/-- LAY_TX_D0 (15_lay_bus.md) -/
def LAY_TX_D0 (n : Nat) : Reg := 0x91004 + 0x40 * n
def LAY_TX_D0_D0 (n : Nat) : Field := ⟨LAY_TX_D0 n, 31, 0⟩
/-- LAY_TX_D1 (15_lay_bus.md) -/
def LAY_TX_D1 (n : Nat) : Reg := 0x91008 + 0x40 * n
def LAY_TX_D1_D1 (n : Nat) : Field := ⟨LAY_TX_D1 n, 31, 0⟩
/-- LAY_TX_D2 (15_lay_bus.md) -/
def LAY_TX_D2 (n : Nat) : Reg := 0x9100C + 0x40 * n
def LAY_TX_D2_D2 (n : Nat) : Field := ⟨LAY_TX_D2 n, 31, 0⟩
/-- LAY_TX_D3 (15_lay_bus.md) -/
def LAY_TX_D3 (n : Nat) : Reg := 0x91010 + 0x40 * n
def LAY_TX_D3_D3 (n : Nat) : Field := ⟨LAY_TX_D3 n, 31, 0⟩
/-- LAY_TX_D4 (15_lay_bus.md) -/
def LAY_TX_D4 (n : Nat) : Reg := 0x91014 + 0x40 * n
def LAY_TX_D4_D4 (n : Nat) : Field := ⟨LAY_TX_D4 n, 31, 0⟩
/-- LAY_TX_D5 (15_lay_bus.md) -/
def LAY_TX_D5 (n : Nat) : Reg := 0x91018 + 0x40 * n
def LAY_TX_D5_D5 (n : Nat) : Field := ⟨LAY_TX_D5 n, 31, 0⟩
/-- LAY_TX_D6 (15_lay_bus.md) -/
def LAY_TX_D6 (n : Nat) : Reg := 0x9101C + 0x40 * n
def LAY_TX_D6_D6 (n : Nat) : Field := ⟨LAY_TX_D6 n, 31, 0⟩
/-- LAY_TX_D7 (15_lay_bus.md) -/
def LAY_TX_D7 (n : Nat) : Reg := 0x91020 + 0x40 * n
def LAY_TX_D7_D7 (n : Nat) : Field := ⟨LAY_TX_D7 n, 31, 0⟩
/-- LAY_YTXCTL (15_lay_bus.md) -/
def LAY_YTXCTL (n : Nat) : Reg := 0x92000 + 0x100 * n
def LAY_YTXCTL_EN (n : Nat) : Field := ⟨LAY_YTXCTL n, 0, 0⟩
def LAY_YTXCTL_PEND (n : Nat) : Field := ⟨LAY_YTXCTL n, 1, 1⟩
def LAY_YTXCTL_KIND (n : Nat) : Field := ⟨LAY_YTXCTL n, 3, 2⟩
def LAY_YTXCTL_LEN (n : Nat) : Field := ⟨LAY_YTXCTL n, 11, 4⟩
/-- LAY_YTX_D0 (15_lay_bus.md) -/
def LAY_YTX_D0 (n : Nat) : Reg := 0x92004 + 0x100 * n
def LAY_YTX_D0_D0 (n : Nat) : Field := ⟨LAY_YTX_D0 n, 31, 0⟩
/-- LAY_YTX_D1 (15_lay_bus.md) -/
def LAY_YTX_D1 (n : Nat) : Reg := 0x92008 + 0x100 * n
def LAY_YTX_D1_D1 (n : Nat) : Field := ⟨LAY_YTX_D1 n, 31, 0⟩
/-- LAY_YTX_D2 (15_lay_bus.md) -/
def LAY_YTX_D2 (n : Nat) : Reg := 0x9200C + 0x100 * n
def LAY_YTX_D2_D2 (n : Nat) : Field := ⟨LAY_YTX_D2 n, 31, 0⟩
/-- LAY_YTX_D3 (15_lay_bus.md) -/
def LAY_YTX_D3 (n : Nat) : Reg := 0x92010 + 0x100 * n
def LAY_YTX_D3_D3 (n : Nat) : Field := ⟨LAY_YTX_D3 n, 31, 0⟩
/-- LAY_YTX_D4 (15_lay_bus.md) -/
def LAY_YTX_D4 (n : Nat) : Reg := 0x92014 + 0x100 * n
def LAY_YTX_D4_D4 (n : Nat) : Field := ⟨LAY_YTX_D4 n, 31, 0⟩
/-- LAY_YTX_D5 (15_lay_bus.md) -/
def LAY_YTX_D5 (n : Nat) : Reg := 0x92018 + 0x100 * n
def LAY_YTX_D5_D5 (n : Nat) : Field := ⟨LAY_YTX_D5 n, 31, 0⟩
/-- LAY_YTX_D6 (15_lay_bus.md) -/
def LAY_YTX_D6 (n : Nat) : Reg := 0x9201C + 0x100 * n
def LAY_YTX_D6_D6 (n : Nat) : Field := ⟨LAY_YTX_D6 n, 31, 0⟩
/-- LAY_YTX_D7 (15_lay_bus.md) -/
def LAY_YTX_D7 (n : Nat) : Reg := 0x92020 + 0x100 * n
def LAY_YTX_D7_D7 (n : Nat) : Field := ⟨LAY_YTX_D7 n, 31, 0⟩
/-- LAY_YTX_D8 (15_lay_bus.md) -/
def LAY_YTX_D8 (n : Nat) : Reg := 0x92024 + 0x100 * n
def LAY_YTX_D8_D8 (n : Nat) : Field := ⟨LAY_YTX_D8 n, 31, 0⟩
/-- LAY_YTX_D9 (15_lay_bus.md) -/
def LAY_YTX_D9 (n : Nat) : Reg := 0x92028 + 0x100 * n
def LAY_YTX_D9_D9 (n : Nat) : Field := ⟨LAY_YTX_D9 n, 31, 0⟩
/-- LAY_YTX_D10 (15_lay_bus.md) -/
def LAY_YTX_D10 (n : Nat) : Reg := 0x9202C + 0x100 * n
def LAY_YTX_D10_D10 (n : Nat) : Field := ⟨LAY_YTX_D10 n, 31, 0⟩
/-- LAY_YTX_D11 (15_lay_bus.md) -/
def LAY_YTX_D11 (n : Nat) : Reg := 0x92030 + 0x100 * n
def LAY_YTX_D11_D11 (n : Nat) : Field := ⟨LAY_YTX_D11 n, 31, 0⟩
/-- LAY_YTX_D12 (15_lay_bus.md) -/
def LAY_YTX_D12 (n : Nat) : Reg := 0x92034 + 0x100 * n
def LAY_YTX_D12_D12 (n : Nat) : Field := ⟨LAY_YTX_D12 n, 31, 0⟩
/-- LAY_YTX_D13 (15_lay_bus.md) -/
def LAY_YTX_D13 (n : Nat) : Reg := 0x92038 + 0x100 * n
def LAY_YTX_D13_D13 (n : Nat) : Field := ⟨LAY_YTX_D13 n, 31, 0⟩
/-- LAY_YTX_D14 (15_lay_bus.md) -/
def LAY_YTX_D14 (n : Nat) : Reg := 0x9203C + 0x100 * n
def LAY_YTX_D14_D14 (n : Nat) : Field := ⟨LAY_YTX_D14 n, 31, 0⟩
/-- LAY_YTX_D15 (15_lay_bus.md) -/
def LAY_YTX_D15 (n : Nat) : Reg := 0x92040 + 0x100 * n
def LAY_YTX_D15_D15 (n : Nat) : Field := ⟨LAY_YTX_D15 n, 31, 0⟩
/-- LAY_YTX_D16 (15_lay_bus.md) -/
def LAY_YTX_D16 (n : Nat) : Reg := 0x92044 + 0x100 * n
def LAY_YTX_D16_D16 (n : Nat) : Field := ⟨LAY_YTX_D16 n, 31, 0⟩
/-- LAY_YTX_D17 (15_lay_bus.md) -/
def LAY_YTX_D17 (n : Nat) : Reg := 0x92048 + 0x100 * n
def LAY_YTX_D17_D17 (n : Nat) : Field := ⟨LAY_YTX_D17 n, 31, 0⟩
/-- LAY_YTX_D18 (15_lay_bus.md) -/
def LAY_YTX_D18 (n : Nat) : Reg := 0x9204C + 0x100 * n
def LAY_YTX_D18_D18 (n : Nat) : Field := ⟨LAY_YTX_D18 n, 31, 0⟩
/-- LAY_YTX_D19 (15_lay_bus.md) -/
def LAY_YTX_D19 (n : Nat) : Reg := 0x92050 + 0x100 * n
def LAY_YTX_D19_D19 (n : Nat) : Field := ⟨LAY_YTX_D19 n, 31, 0⟩
/-- LAY_YTX_D20 (15_lay_bus.md) -/
def LAY_YTX_D20 (n : Nat) : Reg := 0x92054 + 0x100 * n
def LAY_YTX_D20_D20 (n : Nat) : Field := ⟨LAY_YTX_D20 n, 31, 0⟩
/-- LAY_YTX_D21 (15_lay_bus.md) -/
def LAY_YTX_D21 (n : Nat) : Reg := 0x92058 + 0x100 * n
def LAY_YTX_D21_D21 (n : Nat) : Field := ⟨LAY_YTX_D21 n, 31, 0⟩
/-- LAY_YTX_D22 (15_lay_bus.md) -/
def LAY_YTX_D22 (n : Nat) : Reg := 0x9205C + 0x100 * n
def LAY_YTX_D22_D22 (n : Nat) : Field := ⟨LAY_YTX_D22 n, 31, 0⟩
/-- LAY_YTX_D23 (15_lay_bus.md) -/
def LAY_YTX_D23 (n : Nat) : Reg := 0x92060 + 0x100 * n
def LAY_YTX_D23_D23 (n : Nat) : Field := ⟨LAY_YTX_D23 n, 31, 0⟩
/-- LAY_YTX_D24 (15_lay_bus.md) -/
def LAY_YTX_D24 (n : Nat) : Reg := 0x92064 + 0x100 * n
def LAY_YTX_D24_D24 (n : Nat) : Field := ⟨LAY_YTX_D24 n, 31, 0⟩
/-- LAY_YTX_D25 (15_lay_bus.md) -/
def LAY_YTX_D25 (n : Nat) : Reg := 0x92068 + 0x100 * n
def LAY_YTX_D25_D25 (n : Nat) : Field := ⟨LAY_YTX_D25 n, 31, 0⟩
/-- LAY_YTX_D26 (15_lay_bus.md) -/
def LAY_YTX_D26 (n : Nat) : Reg := 0x9206C + 0x100 * n
def LAY_YTX_D26_D26 (n : Nat) : Field := ⟨LAY_YTX_D26 n, 31, 0⟩
/-- LAY_YTX_D27 (15_lay_bus.md) -/
def LAY_YTX_D27 (n : Nat) : Reg := 0x92070 + 0x100 * n
def LAY_YTX_D27_D27 (n : Nat) : Field := ⟨LAY_YTX_D27 n, 31, 0⟩
/-- LAY_YTX_D28 (15_lay_bus.md) -/
def LAY_YTX_D28 (n : Nat) : Reg := 0x92074 + 0x100 * n
def LAY_YTX_D28_D28 (n : Nat) : Field := ⟨LAY_YTX_D28 n, 31, 0⟩
/-- LAY_YTX_D29 (15_lay_bus.md) -/
def LAY_YTX_D29 (n : Nat) : Reg := 0x92078 + 0x100 * n
def LAY_YTX_D29_D29 (n : Nat) : Field := ⟨LAY_YTX_D29 n, 31, 0⟩
/-- LAY_YTX_D30 (15_lay_bus.md) -/
def LAY_YTX_D30 (n : Nat) : Reg := 0x9207C + 0x100 * n
def LAY_YTX_D30_D30 (n : Nat) : Field := ⟨LAY_YTX_D30 n, 31, 0⟩
/-- LAY_YTX_D31 (15_lay_bus.md) -/
def LAY_YTX_D31 (n : Nat) : Reg := 0x92080 + 0x100 * n
def LAY_YTX_D31_D31 (n : Nat) : Field := ⟨LAY_YTX_D31 n, 31, 0⟩
/-- LAY_RXSTAT (15_lay_bus.md) -/
def LAY_RXSTAT (n : Nat) : Reg := 0x93000 + 0x40 * n
def LAY_RXSTAT_SEQ (n : Nat) : Field := ⟨LAY_RXSTAT n, 15, 0⟩
def LAY_RXSTAT_READY (n : Nat) : Field := ⟨LAY_RXSTAT n, 16, 16⟩
def LAY_RXSTAT_KIND (n : Nat) : Field := ⟨LAY_RXSTAT n, 18, 17⟩
def LAY_RXSTAT_HELD (n : Nat) : Field := ⟨LAY_RXSTAT n, 19, 19⟩
def LAY_RXSTAT_LEN (n : Nat) : Field := ⟨LAY_RXSTAT n, 25, 20⟩
/-- LAY_RX_D0 (15_lay_bus.md) -/
def LAY_RX_D0 (n : Nat) : Reg := 0x93004 + 0x40 * n
def LAY_RX_D0_D0 (n : Nat) : Field := ⟨LAY_RX_D0 n, 31, 0⟩
/-- LAY_RX_D1 (15_lay_bus.md) -/
def LAY_RX_D1 (n : Nat) : Reg := 0x93008 + 0x40 * n
def LAY_RX_D1_D1 (n : Nat) : Field := ⟨LAY_RX_D1 n, 31, 0⟩
/-- LAY_RX_D2 (15_lay_bus.md) -/
def LAY_RX_D2 (n : Nat) : Reg := 0x9300C + 0x40 * n
def LAY_RX_D2_D2 (n : Nat) : Field := ⟨LAY_RX_D2 n, 31, 0⟩
/-- LAY_RX_D3 (15_lay_bus.md) -/
def LAY_RX_D3 (n : Nat) : Reg := 0x93010 + 0x40 * n
def LAY_RX_D3_D3 (n : Nat) : Field := ⟨LAY_RX_D3 n, 31, 0⟩
/-- LAY_RX_D4 (15_lay_bus.md) -/
def LAY_RX_D4 (n : Nat) : Reg := 0x93014 + 0x40 * n
def LAY_RX_D4_D4 (n : Nat) : Field := ⟨LAY_RX_D4 n, 31, 0⟩
/-- LAY_RX_D5 (15_lay_bus.md) -/
def LAY_RX_D5 (n : Nat) : Reg := 0x93018 + 0x40 * n
def LAY_RX_D5_D5 (n : Nat) : Field := ⟨LAY_RX_D5 n, 31, 0⟩
/-- LAY_RX_D6 (15_lay_bus.md) -/
def LAY_RX_D6 (n : Nat) : Reg := 0x9301C + 0x40 * n
def LAY_RX_D6_D6 (n : Nat) : Field := ⟨LAY_RX_D6 n, 31, 0⟩
/-- LAY_RX_D7 (15_lay_bus.md) -/
def LAY_RX_D7 (n : Nat) : Reg := 0x93020 + 0x40 * n
def LAY_RX_D7_D7 (n : Nat) : Field := ⟨LAY_RX_D7 n, 31, 0⟩
/-- LAY_RX_TS (15_lay_bus.md) -/
def LAY_RX_TS (n : Nat) : Reg := 0x93024 + 0x40 * n
def LAY_RX_TS_TS (n : Nat) : Field := ⟨LAY_RX_TS n, 31, 0⟩
/-- CAN_CFG (16_host_commands_iso11783.md) -/
def CAN_CFG : Reg := 0xA0000
def CAN_CFG_PADDR : Field := ⟨CAN_CFG, 7, 0⟩
def CAN_CFG_FUNC : Field := ⟨CAN_CFG, 15, 8⟩
def CAN_CFG_FINST : Field := ⟨CAN_CFG, 20, 16⟩
def CAN_CFG_GE : Field := ⟨CAN_CFG, 31, 24⟩
/-- CAN_CFG2 (16_host_commands_iso11783.md) -/
def CAN_CFG2 : Reg := 0xA0004
def CAN_CFG2_MFR : Field := ⟨CAN_CFG2, 10, 0⟩
def CAN_CFG2_PER : Field := ⟨CAN_CFG2, 23, 16⟩
/-- CAN_STAT (16_host_commands_iso11783.md) -/
def CAN_STAT : Reg := 0xA0008
def CAN_STAT_ADDR : Field := ⟨CAN_STAT, 7, 0⟩
def CAN_STAT_CLAIMED : Field := ⟨CAN_STAT, 8, 8⟩
def CAN_STAT_BUSOFF : Field := ⟨CAN_STAT, 9, 9⟩
def CAN_STAT_CLMEV : Field := ⟨CAN_STAT, 10, 10⟩
def CAN_STAT_TPOPEN : Field := ⟨CAN_STAT, 11, 11⟩
/-- CAN_IEN (20_register_index.md) -/
def CAN_IEN : Reg := 0xA000C
def CAN_IEN_IGS : Field := ⟨CAN_IEN, 0, 0⟩
def CAN_IEN_ICLM : Field := ⟨CAN_IEN, 1, 1⟩
def CAN_IEN_IBOFF : Field := ⟨CAN_IEN, 2, 2⟩
/-- CAN_GSSTAT (20_register_index.md) -/
def CAN_GSSTAT : Reg := 0xA0010
def CAN_GSSTAT_SEQ : Field := ⟨CAN_GSSTAT, 15, 0⟩
def CAN_GSSTAT_READY : Field := ⟨CAN_GSSTAT, 16, 16⟩
def CAN_GSSTAT_VALID : Field := ⟨CAN_GSSTAT, 17, 17⟩
/-- CAN_GSPD (20_register_index.md) -/
def CAN_GSPD : Reg := 0xA0014
def CAN_GSPD_SPD : Field := ⟨CAN_GSPD, 15, 0⟩
def CAN_GSPD_DIR : Field := ⟨CAN_GSPD, 17, 16⟩
/-- CAN_GDIST (20_register_index.md) -/
def CAN_GDIST : Reg := 0xA0018
def CAN_GDIST_GDIST : Field := ⟨CAN_GDIST, 31, 0⟩
/-- GNSS_STAT (16_host_commands_iso11783.md) -/
def GNSS_STAT : Reg := 0xB0000
def GNSS_STAT_SEQ : Field := ⟨GNSS_STAT, 15, 0⟩
def GNSS_STAT_READY : Field := ⟨GNSS_STAT, 16, 16⟩
def GNSS_STAT_QUAL : Field := ⟨GNSS_STAT, 19, 17⟩
def GNSS_STAT_SATS : Field := ⟨GNSS_STAT, 24, 20⟩
def GNSS_STAT_VTG : Field := ⟨GNSS_STAT, 25, 25⟩
def GNSS_STAT_PPSOK : Field := ⟨GNSS_STAT, 26, 26⟩
def GNSS_STAT_PPSM : Field := ⟨GNSS_STAT, 27, 27⟩
def GNSS_STAT_BADS : Field := ⟨GNSS_STAT, 28, 28⟩
/-- GNSS_LAT (16_host_commands_iso11783.md) -/
def GNSS_LAT : Reg := 0xB0004
def GNSS_LAT_LAT : Field := ⟨GNSS_LAT, 31, 0⟩
/-- GNSS_LON (16_host_commands_iso11783.md) -/
def GNSS_LON : Reg := 0xB0008
def GNSS_LON_LON : Field := ⟨GNSS_LON, 31, 0⟩
/-- GNSS_ALT (16_host_commands_iso11783.md) -/
def GNSS_ALT : Reg := 0xB000C
def GNSS_ALT_ALT : Field := ⟨GNSS_ALT, 31, 0⟩
/-- GNSS_SOG (16_host_commands_iso11783.md) -/
def GNSS_SOG : Reg := 0xB0010
def GNSS_SOG_SOG : Field := ⟨GNSS_SOG, 31, 0⟩
/-- GNSS_COG (16_host_commands_iso11783.md) -/
def GNSS_COG : Reg := 0xB0014
def GNSS_COG_COG : Field := ⟨GNSS_COG, 31, 0⟩
/-- GNSS_UTC (16_host_commands_iso11783.md) -/
def GNSS_UTC : Reg := 0xB0018
def GNSS_UTC_UTC : Field := ⟨GNSS_UTC, 31, 0⟩
/-- GNSS_PPS (16_host_commands_iso11783.md) -/
def GNSS_PPS : Reg := 0xB001C
def GNSS_PPS_PPS : Field := ⟨GNSS_PPS, 31, 0⟩
/-- GNSS_IEN (20_register_index.md) -/
def GNSS_IEN : Reg := 0xB0020
def GNSS_IEN_IEP : Field := ⟨GNSS_IEN, 0, 0⟩
def GNSS_IEN_IERR : Field := ⟨GNSS_IEN, 1, 1⟩
/-- STOP_STAT (11_stopper_and_two_faults.md) -/
def STOP_STAT : Reg := 0xC0000
def STOP_STAT_EDEM : Field := ⟨STOP_STAT, 0, 0⟩
def STOP_STAT_GDEM : Field := ⟨STOP_STAT, 1, 1⟩
def STOP_STAT_OVA : Field := ⟨STOP_STAT, 2, 2⟩
def STOP_STAT_NOLANE : Field := ⟨STOP_STAT, 3, 3⟩
def STOP_STAT_SAFE : Field := ⟨STOP_STAT, 4, 4⟩
def STOP_STAT_HBL : Field := ⟨STOP_STAT, 5, 5⟩
def STOP_STAT_REACT : Field := ⟨STOP_STAT, 6, 6⟩
def STOP_STAT_PARKP : Field := ⟨STOP_STAT, 7, 7⟩
def STOP_STAT_ASHORT : Field := ⟨STOP_STAT, 8, 8⟩
def STOP_STAT_PINH : Field := ⟨STOP_STAT, 9, 9⟩
def STOP_STAT_PBRK : Field := ⟨STOP_STAT, 10, 10⟩
def STOP_STAT_GTOK : Field := ⟨STOP_STAT, 11, 11⟩
def STOP_STAT_DISCE : Field := ⟨STOP_STAT, 12, 12⟩
def STOP_STAT_DISCG : Field := ⟨STOP_STAT, 13, 13⟩
def STOP_STAT_SLOSS : Field := ⟨STOP_STAT, 14, 14⟩
def STOP_STAT_ARMD : Field := ⟨STOP_STAT, 15, 15⟩
def STOP_STAT_GTCNT : Field := ⟨STOP_STAT, 19, 16⟩
def STOP_STAT_SLC : Field := ⟨STOP_STAT, 23, 20⟩
/-- STOP_IN (11_stopper_and_two_faults.md) -/
def STOP_IN : Reg := 0xC0004
def STOP_IN_FILT : Field := ⟨STOP_IN, 3, 0⟩
def STOP_IN_RAW : Field := ⟨STOP_IN, 7, 4⟩
def STOP_IN_SETL : Field := ⟨STOP_IN, 11, 8⟩
/-- STOP_HB (11_stopper_and_two_faults.md) -/
def STOP_HB : Reg := 0xC0008
def STOP_HB_CHAL : Field := ⟨STOP_HB, 15, 0⟩
def STOP_HB_CSEQ : Field := ⟨STOP_HB, 23, 16⟩
def STOP_HB_MISS : Field := ⟨STOP_HB, 25, 24⟩
def STOP_HB_OUT : Field := ⟨STOP_HB, 26, 26⟩
/-- STOP_PCFG (11_stopper_and_two_faults.md) -/
def STOP_PCFG : Reg := 0xC000C
def STOP_PCFG_APPLYI : Field := ⟨STOP_PCFG, 7, 0⟩
def STOP_PCFG_HOLDI : Field := ⟨STOP_PCFG, 15, 8⟩
def STOP_PCFG_APPLYT : Field := ⟨STOP_PCFG, 23, 16⟩
def STOP_PCFG_APPLYDIR : Field := ⟨STOP_PCFG, 29, 24⟩
/-- MEM_STAT (13_memory_integrity.md) -/
def MEM_STAT : Reg := 0xD0000
def MEM_STAT_CE : Field := ⟨MEM_STAT, 0, 0⟩
def MEM_STAT_HARD : Field := ⟨MEM_STAT, 1, 1⟩
def MEM_STAT_UE : Field := ⟨MEM_STAT, 2, 2⟩
def MEM_STAT_OVF : Field := ⟨MEM_STAT, 3, 3⟩
def MEM_STAT_NOSPARE : Field := ⟨MEM_STAT, 4, 4⟩
def MEM_STAT_UEMEM : Field := ⟨MEM_STAT, 11, 8⟩
def MEM_STAT_PEND : Field := ⟨MEM_STAT, 17, 12⟩
/-- MEM_UEADR (13_memory_integrity.md) -/
def MEM_UEADR : Reg := 0xD0004
def MEM_UEADR_UEADR : Field := ⟨MEM_UEADR, 31, 0⟩
/-- MEM_CEIDX (13_memory_integrity.md) -/
def MEM_CEIDX : Reg := 0xD0008
def MEM_CEIDX_M : Field := ⟨MEM_CEIDX, 3, 0⟩
def MEM_CEIDX_ENT : Field := ⟨MEM_CEIDX, 7, 4⟩
def MEM_CEIDX_MACRO : Field := ⟨MEM_CEIDX, 12, 8⟩
/-- MEM_CEENT (13_memory_integrity.md) -/
def MEM_CEENT : Reg := 0xD000C
def MEM_CEENT_WADR : Field := ⟨MEM_CEENT, 19, 0⟩
def MEM_CEENT_BIT : Field := ⟨MEM_CEENT, 25, 20⟩
def MEM_CEENT_CNT : Field := ⟨MEM_CEENT, 28, 26⟩
def MEM_CEENT_HARD : Field := ⟨MEM_CEENT, 29, 29⟩
def MEM_CEENT_TEST : Field := ⟨MEM_CEENT, 30, 30⟩
def MEM_CEENT_USED : Field := ⟨MEM_CEENT, 31, 31⟩
/-- MEM_CBTEST (13_memory_integrity.md) -/
def MEM_CBTEST : Reg := 0xD0010
def MEM_CBTEST_EN : Field := ⟨MEM_CBTEST, 0, 0⟩
def MEM_CBTEST_SEL : Field := ⟨MEM_CBTEST, 1, 1⟩
def MEM_CBTEST_CB : Field := ⟨MEM_CBTEST, 8, 2⟩
def MEM_CBTEST_CBRD : Field := ⟨MEM_CBTEST, 15, 9⟩
/-- MEM_CBGEN (13_memory_integrity.md) -/
def MEM_CBGEN : Reg := 0xD0014
def MEM_CBGEN_CBGEN : Field := ⟨MEM_CBGEN, 31, 0⟩
/-- MEM_SDSTAT (13_memory_integrity.md) -/
def MEM_SDSTAT : Reg := 0xD0018
def MEM_SDSTAT_RESFREE : Field := ⟨MEM_SDSTAT, 5, 0⟩
def MEM_SDSTAT_RETIRED : Field := ⟨MEM_SDSTAT, 14, 6⟩
def MEM_SDSTAT_MAPM : Field := ⟨MEM_SDSTAT, 15, 15⟩
def MEM_SDSTAT_SECF : Field := ⟨MEM_SDSTAT, 16, 16⟩
def MEM_SDSTAT_NORES : Field := ⟨MEM_SDSTAT, 17, 17⟩
def MEM_SDSTAT_REFR : Field := ⟨MEM_SDSTAT, 18, 18⟩
/-- MEM_IEN (13_memory_integrity.md) -/
def MEM_IEN : Reg := 0xD001C
def MEM_IEN_ICE : Field := ⟨MEM_IEN, 0, 0⟩
def MEM_IEN_IHARD : Field := ⟨MEM_IEN, 1, 1⟩
def MEM_IEN_IUE : Field := ⟨MEM_IEN, 2, 2⟩
def MEM_IEN_ISD : Field := ⟨MEM_IEN, 3, 3⟩
/-- MEM_CECNT (13_memory_integrity.md) -/
def MEM_CECNT (n : Nat) : Reg := 0xD0040 + 0x4 * n
def MEM_CECNT_CECNT (n : Nat) : Field := ⟨MEM_CECNT n, 15, 0⟩
def MEM_CECNT_UECNT (n : Nat) : Field := ⟨MEM_CECNT n, 23, 16⟩
/-- MEM_FUSE (13_memory_integrity.md) -/
def MEM_FUSE (n : Nat) : Reg := 0xD0080 + 0x4 * n
def MEM_FUSE_USED (n : Nat) : Field := ⟨MEM_FUSE n, 3, 0⟩
def MEM_FUSE_ROWS (n : Nat) : Field := ⟨MEM_FUSE n, 7, 4⟩
def MEM_FUSE_COLS (n : Nat) : Field := ⟨MEM_FUSE n, 11, 8⟩
/-- PWR_FEED (01_lanes_dies_feeds.md) -/
def PWR_FEED : Reg := 0xE0000
def PWR_FEED_F1_OK : Field := ⟨PWR_FEED, 0, 0⟩
def PWR_FEED_F2_OK : Field := ⟨PWR_FEED, 1, 1⟩
def PWR_FEED_F1_SRC : Field := ⟨PWR_FEED, 2, 2⟩
def PWR_FEED_F2_SRC : Field := ⟨PWR_FEED, 3, 3⟩
def PWR_FEED_F1_LOSS : Field := ⟨PWR_FEED, 8, 8⟩
def PWR_FEED_F2_LOSS : Field := ⟨PWR_FEED, 9, 9⟩
def PWR_FEED_REVB : Field := ⟨PWR_FEED, 10, 10⟩
def PWR_FEED_PFAIL : Field := ⟨PWR_FEED, 11, 11⟩
/-- PWR_FEEDV (01_lanes_dies_feeds.md) -/
def PWR_FEEDV : Reg := 0xE0004
def PWR_FEEDV_F1V : Field := ⟨PWR_FEEDV, 15, 0⟩
def PWR_FEEDV_F2V : Field := ⟨PWR_FEEDV, 31, 16⟩
/-- PWR_DOMCTL (01_lanes_dies_feeds.md) -/
def PWR_DOMCTL : Reg := 0xE0008
def PWR_DOMCTL_DOM : Field := ⟨PWR_DOMCTL, 7, 0⟩
/-- PWR_DOMSTAT (01_lanes_dies_feeds.md) -/
def PWR_DOMSTAT : Reg := 0xE000C
def PWR_DOMSTAT_ON : Field := ⟨PWR_DOMSTAT, 7, 0⟩
def PWR_DOMSTAT_ISO : Field := ⟨PWR_DOMSTAT, 15, 8⟩
def PWR_DOMSTAT_REJ : Field := ⟨PWR_DOMSTAT, 23, 16⟩
def PWR_DOMSTAT_BUSY : Field := ⟨PWR_DOMSTAT, 24, 24⟩
/-- PWR_SLPOK (12_modes_start_shutdown_sleep.md) -/
def PWR_SLPOK : Reg := 0xE0010
def PWR_SLPOK_OK : Field := ⟨PWR_SLPOK, 0, 0⟩
/-- PWR_WAKEEN (12_modes_start_shutdown_sleep.md) -/
def PWR_WAKEEN : Reg := 0xE0014
def PWR_WAKEEN_KEY : Field := ⟨PWR_WAKEEN, 0, 0⟩
def PWR_WAKEEN_CAN : Field := ⟨PWR_WAKEEN, 1, 1⟩
def PWR_WAKEEN_LAY : Field := ⟨PWR_WAKEEN, 2, 2⟩
def PWR_WAKEEN_TIMER : Field := ⟨PWR_WAKEEN, 3, 3⟩
def PWR_WAKEEN_GUARD : Field := ⟨PWR_WAKEEN, 4, 4⟩
def PWR_WAKEEN_ESTOP : Field := ⟨PWR_WAKEEN, 5, 5⟩
def PWR_WAKEEN_PARTNER : Field := ⟨PWR_WAKEEN, 6, 6⟩
/-- PWR_WKTIME (12_modes_start_shutdown_sleep.md) -/
def PWR_WKTIME : Reg := 0xE0018
def PWR_WKTIME_SEC : Field := ⟨PWR_WKTIME, 15, 0⟩
/-- PWR_WAKE (12_modes_start_shutdown_sleep.md) -/
def PWR_WAKE : Reg := 0xE001C
def PWR_WAKE_SRC : Field := ⟨PWR_WAKE, 3, 0⟩
def PWR_WAKE_SEEN : Field := ⟨PWR_WAKE, 10, 4⟩
def PWR_WAKE_PLANE : Field := ⟨PWR_WAKE, 12, 11⟩
def PWR_WAKE_RDOM : Field := ⟨PWR_WAKE, 19, 16⟩
def PWR_WAKE_RCODE : Field := ⟨PWR_WAKE, 23, 20⟩
def PWR_WAKE_RLANE : Field := ⟨PWR_WAKE, 25, 24⟩
/-- PWR_IEN (20_register_index.md) -/
def PWR_IEN : Reg := 0xE0020
def PWR_IEN_IFEED : Field := ⟨PWR_IEN, 0, 0⟩
def PWR_IEN_IDOM : Field := ⟨PWR_IEN, 1, 1⟩
def PWR_IEN_IPACE : Field := ⟨PWR_IEN, 2, 2⟩
/-- WEAR_CHAFE (14_wear_reserves_log_line.md) -/
def WEAR_CHAFE (n : Nat) : Reg := 0xF0000 + 0x4 * n
def WEAR_CHAFE_DRIFT (n : Nat) : Field := ⟨WEAR_CHAFE n, 15, 0⟩
def WEAR_CHAFE_TJ (n : Nat) : Field := ⟨WEAR_CHAFE n, 23, 16⟩
/-- WEAR_STAT (14_wear_reserves_log_line.md) -/
def WEAR_STAT : Reg := 0xF0040
def WEAR_STAT_D : Field := ⟨WEAR_STAT, 15, 0⟩
def WEAR_STAT_EOLQ : Field := ⟨WEAR_STAT, 16, 16⟩
def WEAR_STAT_PLANP : Field := ⟨WEAR_STAT, 17, 17⟩
def WEAR_STAT_BAR1 : Field := ⟨WEAR_STAT, 18, 18⟩
def WEAR_STAT_BAR2 : Field := ⟨WEAR_STAT, 19, 19⟩
def WEAR_STAT_WOUT : Field := ⟨WEAR_STAT, 20, 20⟩
def WEAR_STAT_BASEF : Field := ⟨WEAR_STAT, 21, 21⟩
def WEAR_STAT_BARW : Field := ⟨WEAR_STAT, 22, 22⟩
def WEAR_STAT_NORES : Field := ⟨WEAR_STAT, 23, 23⟩
def WEAR_STAT_RSVEV : Field := ⟨WEAR_STAT, 24, 24⟩
def WEAR_STAT_GUARD : Field := ⟨WEAR_STAT, 25, 25⟩
/-- WEAR_PLANCFG (14_wear_reserves_log_line.md) -/
def WEAR_PLANCFG : Reg := 0xF0044
def WEAR_PLANCFG_PWM : Field := ⟨WEAR_PLANCFG, 9, 0⟩
def WEAR_PLANCFG_FRAME : Field := ⟨WEAR_PLANCFG, 21, 16⟩
/-- WEAR_RSV (14_wear_reserves_log_line.md) -/
def WEAR_RSV : Reg := 0xF0048
def WEAR_RSV_SPARE : Field := ⟨WEAR_RSV, 3, 0⟩
def WEAR_RSV_POOLC : Field := ⟨WEAR_RSV, 9, 4⟩
def WEAR_RSV_POOLS : Field := ⟨WEAR_RSV, 15, 10⟩
def WEAR_RSV_STG : Field := ⟨WEAR_RSV, 21, 16⟩
/-- WEAR_CMD (14_wear_reserves_log_line.md) -/
def WEAR_CMD : Reg := 0xF004C
def WEAR_CMD_OP : Field := ⟨WEAR_CMD, 3, 0⟩
/-- WEAR_IEN (14_wear_reserves_log_line.md) -/
def WEAR_IEN : Reg := 0xF0050
def WEAR_IEN_IPLAN : Field := ⟨WEAR_IEN, 0, 0⟩
def WEAR_IEN_IRSV : Field := ⟨WEAR_IEN, 1, 1⟩
def WEAR_IEN_ILOG : Field := ⟨WEAR_IEN, 2, 2⟩
/-- LOG_HEAD (14_wear_reserves_log_line.md) -/
def LOG_HEAD : Reg := 0xF0100
def LOG_HEAD_SEQ : Field := ⟨LOG_HEAD, 31, 0⟩
/-- LOG_LOST (14_wear_reserves_log_line.md) -/
def LOG_LOST : Reg := 0xF0104
def LOG_LOST_LOST : Field := ⟨LOG_LOST, 15, 0⟩
/-- LOG_RSEL (14_wear_reserves_log_line.md) -/
def LOG_RSEL : Reg := 0xF0108
def LOG_RSEL_RSEL : Field := ⟨LOG_RSEL, 31, 0⟩
/-- LOG_RDATA (14_wear_reserves_log_line.md) -/
def LOG_RDATA : Reg := 0xF010C
def LOG_RDATA_RDATA : Field := ⟨LOG_RDATA, 31, 0⟩
/-- LOG_USER (14_wear_reserves_log_line.md) -/
def LOG_USER : Reg := 0xF0110
def LOG_USER_USER : Field := ⟨LOG_USER, 31, 0⟩
/-- LOG_FSEL (14_wear_reserves_log_line.md) -/
def LOG_FSEL : Reg := 0xF0114
def LOG_FSEL_REC : Field := ⟨LOG_FSEL, 2, 0⟩
def LOG_FSEL_WORD : Field := ⟨LOG_FSEL, 15, 3⟩
/-- LOG_FDATA (14_wear_reserves_log_line.md) -/
def LOG_FDATA : Reg := 0xF0118
def LOG_FDATA_FDATA : Field := ⟨LOG_FDATA, 31, 0⟩
/-- LOG_FSTAT (14_wear_reserves_log_line.md) -/
def LOG_FSTAT : Reg := 0xF011C
def LOG_FSTAT_VALIDR : Field := ⟨LOG_FSTAT, 7, 0⟩
def LOG_FSTAT_NEXT : Field := ⟨LOG_FSTAT, 10, 8⟩
def LOG_FSTAT_LOCKS : Field := ⟨LOG_FSTAT, 12, 11⟩
def LOG_FSTAT_RERR : Field := ⟨LOG_FSTAT, 13, 13⟩
def LOG_FSTAT_MISSN : Field := ⟨LOG_FSTAT, 23, 16⟩
/-- UPD_STAT (18_update_identity.md) -/
def UPD_STAT : Reg := 0x100000
def UPD_STAT_SEQ : Field := ⟨UPD_STAT, 15, 0⟩
def UPD_STAT_READY : Field := ⟨UPD_STAT, 16, 16⟩
def UPD_STAT_RES : Field := ⟨UPD_STAT, 19, 17⟩
def UPD_STAT_SESS : Field := ⟨UPD_STAT, 20, 20⟩
def UPD_STAT_LASTBAD : Field := ⟨UPD_STAT, 31, 21⟩
/-- UPD_BOOT (18_update_identity.md) -/
def UPD_BOOT : Reg := 0x100004
def UPD_BOOT_SLOT : Field := ⟨UPD_BOOT, 0, 0⟩
def UPD_BOOT_CFG : Field := ⟨UPD_BOOT, 1, 1⟩
def UPD_BOOT_TRIAL : Field := ⟨UPD_BOOT, 2, 2⟩
def UPD_BOOT_PENDI : Field := ⟨UPD_BOOT, 3, 3⟩
def UPD_BOOT_PENDC : Field := ⟨UPD_BOOT, 4, 4⟩
def UPD_BOOT_UNCOM : Field := ⟨UPD_BOOT, 5, 5⟩
def UPD_BOOT_COMPAT : Field := ⟨UPD_BOOT, 6, 6⟩
def UPD_BOOT_FBACK : Field := ⟨UPD_BOOT, 7, 7⟩
/-- UPD_KEYS (18_update_identity.md) -/
def UPD_KEYS : Reg := 0x100008
def UPD_KEYS_PROG : Field := ⟨UPD_KEYS, 3, 0⟩
def UPD_KEYS_REV : Field := ⟨UPD_KEYS, 7, 4⟩
def UPD_KEYS_USED : Field := ⟨UPD_KEYS, 9, 8⟩
/-- UPD_IEN (18_update_identity.md) -/
def UPD_IEN : Reg := 0x10000C
def UPD_IEN_IDONE : Field := ⟨UPD_IEN, 0, 0⟩
def UPD_IEN_IBLK : Field := ⟨UPD_IEN, 1, 1⟩

/-- Rows of block 0. -/
def rows0_0 : List RegRow := [
  ⟨0x0, 0x4, 1, 0x1, 0x0, 0x1000, 0x0, 0x0, 0x0, 0x0, false, false, false⟩,
  ⟨0x4, 0x4, 1, 0x0, 0x0, 0x0, 0x0, 0xFFFF003F, 0x0, 0x0, false, true, false⟩,
  ⟨0x8, 0x4, 1, 0x0, 0x0, 0x0, 0x0, 0x0, 0x0, 0x0, false, false, false⟩,
  ⟨0xC, 0x4, 1, 0x0, 0x1FFFFF, 0x0, 0x0, 0x0, 0x0, 0x0, false, false, false⟩,
  ⟨0x10, 0x4, 1, 0x0, 0x0, 0x1C, 0x0, 0x0, 0x0, 0x0, false, false, false⟩,
  ⟨0x14, 0x4, 1, 0x0, 0x0, 0x0, 0x0, 0x0, 0x0, 0x0, false, false, false⟩,
  ⟨0x18, 0x4, 1, 0x0, 0x0, 0x0, 0x0, 0x0, 0x0, 0x0, false, false, false⟩,
  ⟨0x1C, 0x4, 1, 0x0, 0x0, 0x0, 0x0, 0x0, 0x0, 0x0, false, false, false⟩,
  ⟨0x20, 0x4, 1, 0x0, 0x0, 0x4, 0x0, 0x0, 0x0, 0x0, false, false, false⟩,
  ⟨0x24, 0x4, 1, 0x0, 0x0, 0x0, 0x0, 0x0, 0x0, 0x0, false, false, false⟩,
  ⟨0x28, 0x4, 1, 0x8283FA19, 0x0, 0x0, 0x0, 0x0, 0x0, 0xFFFFFFFF, false, false, false⟩,
  ⟨0x2C, 0x4, 1, 0x0, 0x0, 0x0, 0x0, 0x0, 0x0, 0x0, false, false, false⟩,
  ⟨0x30, 0x4, 1, 0x0, 0x0, 0x0, 0x0, 0xFFFFFFFF, 0x0, 0x0, false, true, false⟩,
  ⟨0x34, 0x4, 1, 0x0, 0x0, 0x0, 0x0, 0x1, 0x0, 0x0, false, true, false⟩,
  ⟨0x38, 0x4, 1, 0x0, 0x0, 0x0, 0x0, 0x0, 0xFFFFFF, 0x0, false, false, false⟩,
  ⟨0x3C, 0x4, 1, 0x0, 0x0, 0x0, 0x0, 0x0, 0x3FF03FF, 0x0, false, false, false⟩,
  ⟨0x40, 0x4, 1, 0x0, 0x0, 0x0, 0x0, 0x0, 0xFFFF, 0x0, false, false, false⟩]

/-- The registers of block 0 (R97). -/
def blockRows0 : List RegRow := rows0_0

/-- Rows of block 1. -/
def rows1_0 : List RegRow := [
  ⟨0x10000, 0x4, 1, 0x0, 0x0, 0x0, 0x0, 0x0, 0x0, 0x0, false, false, false⟩,
  ⟨0x10004, 0x4, 1, 0x0, 0x0, 0x0, 0x0, 0x0, 0x0, 0x0, false, false, false⟩,
  ⟨0x10008, 0x4, 1, 0x0, 0x0, 0x0, 0x0, 0x0, 0x0, 0x0, false, false, false⟩,
  ⟨0x1000C, 0x4, 1, 0x0, 0x0, 0x0, 0x0, 0x0, 0x0, 0x0, false, false, false⟩,
  ⟨0x10010, 0x4, 1, 0x0, 0xFFFFFFFF, 0x0, 0x0, 0x0, 0x0, 0x0, false, false, false⟩,
  ⟨0x10014, 0x4, 1, 0x0, 0xFFFFFFFF, 0x0, 0x0, 0x0, 0x0, 0x0, false, false, false⟩,
  ⟨0x10018, 0x4, 1, 0x0, 0x4, 0x7A, 0x0, 0x0, 0x0, 0x0, false, false, false⟩,
  ⟨0x10100, 0x4, 1, 0x2, 0x3, 0x0, 0x0, 0x0, 0x0, 0x0, false, false, false⟩,
  ⟨0x10104, 0x4, 1, 0x800C8, 0x3F03FF, 0x0, 0x0, 0x0, 0x0, 0x0, false, false, false⟩,
  ⟨0x10108, 0x4, 1, 0x0, 0xFFFFFFFF, 0x0, 0x0, 0x0, 0x0, 0x0, false, false, false⟩,
  ⟨0x1010C, 0x4, 1, 0x49C0002, 0x0, 0xC0, 0x0, 0x0, 0x0, 0x0, false, false, false⟩,
  ⟨0x10110, 0x4, 1, 0x800C8, 0x0, 0x0, 0x0, 0x0, 0x0, 0x0, false, false, false⟩]

/-- The registers of block 1 (R97). -/
def blockRows1 : List RegRow := rows1_0

/-- Rows of block 2. -/
def rows2_0 : List RegRow := [
  ⟨0x20000, 0x4, 1, 0x0, 0x0, 0x7000, 0x0, 0x0, 0x0, 0x0, false, false, false⟩,
  ⟨0x20004, 0x4, 1, 0x0, 0x0, 0x0, 0x0, 0x0, 0x0, 0x0, false, false, false⟩,
  ⟨0x20008, 0x4, 1, 0x0, 0x0, 0x0, 0x0, 0x0, 0x0, 0x0, false, false, false⟩,
  ⟨0x2000C, 0x4, 1, 0x0, 0x0, 0x0, 0x0, 0x0, 0x0, 0x0, false, false, false⟩,
  ⟨0x20010, 0x4, 1, 0x0, 0x0, 0x0, 0x0, 0x0, 0x0, 0x0, false, false, false⟩,
  ⟨0x20014, 0x4, 1, 0x0, 0x0, 0x0, 0x0, 0x0, 0x0, 0x0, false, false, false⟩,
  ⟨0x20018, 0x4, 1, 0x0, 0x0, 0x0, 0x0, 0x0, 0xFFFFFF, 0x0, false, false, false⟩,
  ⟨0x2001C, 0x4, 4, 0x0, 0x0, 0x0, 0x0, 0x0, 0xFFFFFFFF, 0x0, false, false, false⟩,
  ⟨0x2002C, 0x4, 1, 0x0, 0x3, 0x0, 0x0, 0x0, 0x0, 0x0, false, false, false⟩,
  ⟨0x20030, 0x4, 1, 0xFFFFFFFE, 0xFFFFFFFE, 0x0, 0x0, 0x0, 0x0, 0x0, true, false, false⟩,
  ⟨0x20034, 0x4, 1, 0x7, 0x7, 0x0, 0x0, 0x0, 0x0, 0x0, true, false, false⟩,
  ⟨0x20038, 0x4, 1, 0x0, 0x0, 0x0, 0x0, 0x0, 0x0, 0x7F, false, false, false⟩,
  ⟨0x2003C, 0x4, 1, 0x0, 0x3FFF, 0x0, 0x0, 0x0, 0x0, 0x0, false, true, false⟩,
  ⟨0x20040, 0x4, 1, 0x0, 0xFFFFFFFF, 0x0, 0x0, 0x0, 0x0, 0x0, false, true, false⟩,
  ⟨0x20044, 0x4, 1, 0x0, 0x0, 0x0, 0x0, 0x0, 0x0, 0x0, false, false, false⟩,
  ⟨0x20048, 0x4, 1, 0x0, 0x0, 0xFFFFFFFF, 0x0, 0x0, 0x0, 0x0, false, false, false⟩,
  ⟨0x2004C, 0x4, 1, 0x0, 0xFFFFFFFF, 0x0, 0x0, 0x0, 0x0, 0x0, false, true, false⟩,
  ⟨0x20050, 0x4, 1, 0x0, 0xFFF, 0x0, 0x0, 0x0, 0x0, 0x0, false, false, false⟩,
  ⟨0x20054, 0x4, 1, 0x0, 0x0, 0x0, 0x0, 0x0, 0x0, 0x0, false, false, false⟩,
  ⟨0x20058, 0x4, 1, 0x0, 0x0, 0x0, 0x0, 0x0, 0x3FFFFFF, 0x0, false, false, false⟩,
  ⟨0x20060, 0x4, 8, 0x0, 0xFFFFFFFF, 0x0, 0x0, 0x0, 0x0, 0x0, false, true, false⟩,
  ⟨0x20100, 0x4, 32, 0x0, 0x0, 0x0, 0x0, 0x0, 0x0, 0x1FFFF, false, false, false⟩,
  ⟨0x20180, 0x4, 32, 0x0, 0x0, 0x0, 0x0, 0x0, 0x0, 0xFFFFFFFF, false, false, false⟩,
  ⟨0x20200, 0x4, 32, 0x0, 0x0, 0x0, 0x0, 0x0, 0x0, 0x0, false, false, false⟩,
  ⟨0x20280, 0x4, 32, 0x0, 0xFFFFFFFF, 0x0, 0x0, 0x0, 0x0, 0x0, false, true, false⟩]

/-- The registers of block 2 (R97). -/
def blockRows2 : List RegRow := rows2_0

/-- Rows of block 3. -/
def rows3_0 : List RegRow := [
  ⟨0x30000, 0x4, 1, 0x0, 0x0, 0xE0, 0x0, 0x0, 0x0, 0x0, false, false, false⟩,
  ⟨0x30004, 0x4, 1, 0x0, 0x0, 0x0, 0x0, 0x0, 0x0, 0x0, false, false, false⟩,
  ⟨0x30008, 0x4, 1, 0x0, 0x0, 0x0, 0x0, 0x0, 0x0, 0x0, false, false, false⟩,
  ⟨0x3000C, 0x4, 1, 0x0, 0x0, 0x0, 0x0, 0x0, 0x0, 0x0, false, false, false⟩,
  ⟨0x30010, 0x4, 1, 0x0, 0x7, 0x0, 0x0, 0x0, 0x0, 0x0, false, false, false⟩]

/-- The registers of block 3 (R97). -/
def blockRows3 : List RegRow := rows3_0

/-- Rows of block 4. -/
def rows4_0 : List RegRow := [
  ⟨0x40000, 0x4, 8, 0x2042100, 0x0, 0x0, 0x0, 0x0, 0x0, 0xFFFFFF1F, false, false, false⟩,
  ⟨0x40020, 0x4, 8, 0x0, 0x0, 0x0, 0x0, 0x0, 0x0, 0xFFFFFF, false, false, false⟩,
  ⟨0x40040, 0x4, 8, 0x2, 0x0, 0x3F00, 0x0, 0x0, 0x0, 0x0, false, false, false⟩,
  ⟨0x40060, 0x4, 8, 0x0, 0x0, 0x0, 0x0, 0x0, 0x0, 0x0, false, false, false⟩,
  ⟨0x40080, 0x4, 8, 0x0, 0x0, 0x0, 0x0, 0x0, 0x0, 0x0, false, false, false⟩,
  ⟨0x400A0, 0x4, 8, 0x0, 0x0, 0x0, 0x0, 0x0, 0x0, 0x0, false, false, false⟩,
  ⟨0x40100, 0x4, 8, 0x4076140, 0x0, 0x0, 0x0, 0x0, 0x0, 0x3FFFFFFF, false, false, false⟩,
  ⟨0x40120, 0x4, 8, 0x800, 0x0, 0x700, 0x0, 0x0, 0x0, 0x0, false, false, false⟩,
  ⟨0x40180, 0x4, 2, 0x650, 0x0, 0x0, 0x0, 0x0, 0x0, 0xFFFF7FFF, false, false, false⟩,
  ⟨0x40188, 0x4, 2, 0x0, 0x0, 0x0, 0x0, 0x0, 0x0, 0xFFFF, false, false, false⟩,
  ⟨0x40190, 0x10, 2, 0x0, 0x0, 0x0, 0x0, 0x0, 0x7FFFF, 0x0, false, false, false⟩,
  ⟨0x40194, 0x10, 2, 0x0, 0x0, 0x0, 0x0, 0x0, 0xFFFFFFFF, 0x0, false, false, false⟩,
  ⟨0x40198, 0x10, 2, 0x0, 0x0, 0x0, 0x0, 0x0, 0xFFFFFFFF, 0x0, false, false, false⟩,
  ⟨0x401C0, 0x4, 1, 0x0, 0x0, 0x0, 0x0, 0xF1F, 0x0, 0x0, false, true, false⟩,
  ⟨0x401C4, 0x4, 1, 0x0, 0x3F, 0x10000, 0x0, 0x0, 0x0, 0x0, false, false, false⟩,
  ⟨0x40200, 0x10, 16, 0x100000, 0x0, 0x0, 0x0, 0x0, 0x1FFFFF, 0x0, false, false, false⟩,
  ⟨0x40204, 0x10, 16, 0x0, 0x0, 0x0, 0x0, 0x0, 0xFFFFFFFF, 0x0, false, false, false⟩,
  ⟨0x40208, 0x10, 16, 0x0, 0x0, 0x0, 0x0, 0x0, 0xFFFFFFFF, 0x0, false, false, false⟩,
  ⟨0x4020C, 0x10, 16, 0x0, 0x0, 0x0, 0x0, 0x0, 0xFFFFFFFF, 0x0, false, false, false⟩,
  ⟨0x40400, 0x10, 2, 0x3E, 0x7F, 0x0, 0x0, 0x0, 0x0, 0x0, false, false, false⟩,
  ⟨0x40404, 0x10, 2, 0x0, 0xFFFFFFFF, 0x0, 0x0, 0x0, 0x0, 0x0, false, false, false⟩,
  ⟨0x40408, 0x10, 2, 0x0, 0xFFFFFF, 0x0, 0x0, 0x0, 0x0, 0x0, false, false, false⟩,
  ⟨0x4040C, 0x10, 2, 0x2, 0x0, 0x18, 0x0, 0x0, 0x0, 0x0, false, false, false⟩]

/-- The registers of block 4 (R97). -/
def blockRows4 : List RegRow := rows4_0

/-- Rows of block 5. -/
def rows5_0 : List RegRow := [
  ⟨0x50000, 0x40, 6, 0x2, 0x0, 0x0, 0x0, 0x0, 0x0, 0x1FFF, false, false, false⟩,
  ⟨0x50004, 0x40, 6, 0x41401414, 0x0, 0x0, 0x0, 0x0, 0x0, 0xFFFFFFFF, false, false, false⟩,
  ⟨0x50008, 0x40, 6, 0x1321E1E, 0x0, 0x0, 0x0, 0x0, 0x0, 0xFFFFFFFF, false, false, false⟩,
  ⟨0x5000C, 0x40, 6, 0x10048004, 0x0, 0x0, 0x0, 0x0, 0x0, 0xFFFFFFFF, false, false, false⟩,
  ⟨0x50010, 0x40, 6, 0x1E5008, 0x0, 0x0, 0x0, 0x0, 0x0, 0x3FFFFFF, false, false, false⟩,
  ⟨0x50014, 0x40, 6, 0x0, 0x0, 0x0, 0x0, 0x0, 0x0, 0xFFFFFFFF, false, false, false⟩,
  ⟨0x50018, 0x40, 6, 0x0, 0x0, 0x0, 0x0, 0x0, 0x0, 0xFFFFFFFF, false, false, false⟩,
  ⟨0x5001C, 0x40, 6, 0x0, 0x0, 0x0, 0x0, 0x0, 0x0, 0xFFFFFF, false, false, false⟩,
  ⟨0x50020, 0x40, 6, 0x0, 0xFFFFFFFF, 0x0, 0x0, 0x0, 0x0, 0x0, false, false, false⟩,
  ⟨0x50024, 0x40, 6, 0x0, 0xFFFFFFFF, 0x0, 0x0, 0x0, 0x0, 0x0, false, true, false⟩,
  ⟨0x50028, 0x40, 6, 0x0, 0x0, 0x0, 0x0, 0x0, 0x0, 0x0, false, false, false⟩,
  ⟨0x5002C, 0x40, 6, 0x0, 0x0, 0x7000, 0x0, 0x0, 0x0, 0x0, false, false, false⟩,
  ⟨0x50030, 0x40, 6, 0x0, 0x0, 0x0, 0x0, 0x0, 0x0, 0x0, false, false, false⟩,
  ⟨0x50034, 0x40, 6, 0x0, 0x0, 0x0, 0x0, 0x0, 0x0, 0x0, false, false, false⟩,
  ⟨0x50038, 0x40, 6, 0x0, 0x0, 0x0, 0x0, 0x0, 0x0, 0x0, false, false, false⟩,
  ⟨0x50200, 0x4, 48, 0x0, 0x0, 0x0, 0x0, 0x0, 0x0, 0xFFFFFFFF, false, false, false⟩,
  ⟨0x50400, 0x4, 1, 0x0, 0x0, 0x0, 0x0, 0xFFFF00F7, 0x0, 0x0, false, true, false⟩,
  ⟨0x50404, 0x4, 1, 0x0, 0x7, 0x10000, 0x0, 0x0, 0x0, 0x0, false, false, false⟩]

/-- The registers of block 5 (R97). -/
def blockRows5 : List RegRow := rows5_0

/-- Rows of block 6. -/
def rows6_0 : List RegRow := [
  ⟨0x60000, 0x4, 1, 0x1, 0x0, 0x0, 0x0, 0x0, 0x0, 0x7, false, false, false⟩,
  ⟨0x60004, 0x4, 1, 0x1, 0x0, 0x702, 0x0, 0x0, 0x0, 0x0, false, false, false⟩,
  ⟨0x60008, 0x4, 1, 0x0, 0xF, 0x0, 0x0, 0x0, 0x0, 0x0, false, false, false⟩,
  ⟨0x6000C, 0x4, 1, 0x0, 0x0, 0x0, 0x0, 0x0, 0x0, 0x0, false, false, false⟩,
  ⟨0x60010, 0x4, 1, 0x0, 0x0, 0x0, 0x0, 0x0, 0x0, 0x0, false, false, false⟩,
  ⟨0x60014, 0x4, 1, 0x0, 0x0, 0x0, 0x0, 0x3FFFF, 0x0, 0x0, false, true, false⟩,
  ⟨0x60018, 0x4, 1, 0x1230, 0x0, 0x0, 0x0, 0x0, 0x0, 0xFFFF3FFF, false, false, false⟩,
  ⟨0x6001C, 0x4, 1, 0x294, 0x0, 0x0, 0x0, 0x0, 0x0, 0x3FF, false, false, false⟩,
  ⟨0x60020, 0x4, 1, 0x40, 0x0, 0x0, 0x0, 0x0, 0x0, 0xFF, false, false, false⟩,
  ⟨0x60024, 0x4, 1, 0x20000, 0x0, 0x0, 0x0, 0x0, 0x0, 0x3FFFF, false, false, false⟩,
  ⟨0x60028, 0x4, 1, 0x0, 0x0, 0x0, 0x0, 0x1, 0x0, 0x0, false, true, false⟩,
  ⟨0x6002C, 0x4, 1, 0x0, 0x0, 0x0, 0x0, 0x0, 0x0, 0x0, false, false, false⟩,
  ⟨0x60030, 0x4, 1, 0x0, 0x0, 0x0, 0x0, 0x0, 0x0, 0x0, false, false, false⟩,
  ⟨0x60100, 0x20, 6, 0x20000, 0x0, 0x0, 0x0, 0x0, 0x0, 0x3FFFF, false, false, false⟩,
  ⟨0x60104, 0x20, 6, 0xC78, 0x0, 0x0, 0x0, 0x0, 0x0, 0x1FFF, false, false, false⟩,
  ⟨0x60108, 0x20, 6, 0xF9F, 0x0, 0x0, 0x0, 0x0, 0x0, 0x0, false, false, false⟩,
  ⟨0x6010C, 0x20, 6, 0x0, 0x0, 0x0, 0x0, 0x0, 0x0, 0x0, false, false, false⟩,
  ⟨0x60110, 0x20, 6, 0x0, 0x0, 0x0, 0x0, 0x0, 0x0, 0x0, false, false, false⟩,
  ⟨0x60200, 0x4, 28, 0x0, 0x0, 0x0, 0x0, 0x0, 0x0, 0x0, false, false, false⟩]

/-- The registers of block 6 (R97). -/
def blockRows6 : List RegRow := rows6_0

/-- Rows of block 7. -/
def rows7_0 : List RegRow := [
  ⟨0x70000, 0x40, 24, 0x0, 0x0, 0x0, 0x0, 0x0, 0x0, 0xFFFF, true, false, false⟩,
  ⟨0x70004, 0x40, 24, 0x0, 0x0, 0x0, 0x0, 0x0, 0x0, 0xFFFFFFFF, true, false, false⟩,
  ⟨0x70008, 0x40, 24, 0x0, 0xFFFFFFFF, 0x0, 0x0, 0x0, 0x0, 0x0, true, false, true⟩,
  ⟨0x7000C, 0x40, 24, 0x0, 0xFFFFFFFF, 0x0, 0x0, 0x0, 0x0, 0x0, true, false, true⟩,
  ⟨0x70010, 0x40, 24, 0x0, 0xFFFFFFFF, 0x0, 0x0, 0x0, 0x0, 0x0, true, false, true⟩,
  ⟨0x70014, 0x40, 24, 0x0, 0xFFFFFFFF, 0x0, 0x0, 0x0, 0x0, 0x0, true, false, true⟩,
  ⟨0x70018, 0x40, 24, 0x0, 0xFFFFFFFF, 0x0, 0x0, 0x0, 0x0, 0x0, true, false, true⟩,
  ⟨0x7001C, 0x40, 24, 0x0, 0xFFFFFFFF, 0x0, 0x0, 0x0, 0x0, 0x0, true, false, true⟩,
  ⟨0x70020, 0x40, 24, 0x0, 0xFFFFFFFF, 0x0, 0x0, 0x0, 0x0, 0x0, true, false, true⟩,
  ⟨0x70024, 0x40, 24, 0x0, 0xFFFFFFFF, 0x0, 0x0, 0x0, 0x0, 0x0, true, false, true⟩,
  ⟨0x70028, 0x40, 24, 0x80000000, 0xFFFFFFFF, 0x0, 0x0, 0x0, 0x0, 0x0, true, false, true⟩,
  ⟨0x7002C, 0x40, 24, 0x7FFFFFFF, 0xFFFFFFFF, 0x0, 0x0, 0x0, 0x0, 0x0, true, false, true⟩,
  ⟨0x70030, 0x40, 24, 0x0, 0x0, 0x0, 0x0, 0x0, 0xFFFFFFFF, 0x0, true, false, false⟩,
  ⟨0x70034, 0x40, 24, 0x0, 0x0, 0x0, 0x0, 0x0, 0xFFFFFFFF, 0x0, true, false, false⟩,
  ⟨0x70038, 0x40, 24, 0x80, 0x0, 0x60, 0x0, 0x0, 0x0, 0x0, true, false, false⟩,
  ⟨0x7003C, 0x40, 24, 0x0, 0x0, 0x0, 0x0, 0x0, 0xFFFFFFFF, 0x0, true, false, false⟩,
  ⟨0x70600, 0x8, 8, 0x0, 0x0, 0x0, 0x0, 0x0, 0x0, 0x3, true, false, false⟩,
  ⟨0x70604, 0x8, 8, 0x0, 0x0, 0x0, 0x0, 0x0, 0xFFFFFFFF, 0x0, true, false, false⟩,
  ⟨0x70680, 0x10, 6, 0x0, 0x0, 0x0, 0x0, 0x0, 0x0, 0xFFFFFFFF, true, false, false⟩,
  ⟨0x70684, 0x10, 6, 0x0, 0x0, 0x0, 0x0, 0x0, 0x0, 0xFFFFFFFF, true, false, false⟩,
  ⟨0x70688, 0x10, 6, 0x0, 0x0, 0x0, 0x0, 0x0, 0x0, 0x0, true, false, false⟩,
  ⟨0x70700, 0x4, 16, 0x0, 0xFFFFFFFF, 0x0, 0x0, 0x0, 0x0, 0x0, true, false, true⟩,
  ⟨0x70800, 0x4, 1, 0x0, 0xFFFF, 0x0, 0x0, 0x0, 0x0, 0x0, true, false, true⟩,
  ⟨0x70804, 0x4, 1, 0x0, 0x0, 0x6, 0x0, 0x0, 0x0, 0x0, true, false, false⟩,
  ⟨0x70808, 0x4, 1, 0x0, 0x0, 0x0, 0x0, 0x0, 0x1FFFF, 0x0, true, false, false⟩,
  ⟨0x7080C, 0x4, 1, 0x0, 0x0, 0x0, 0x0, 0xFFFF0F1F, 0x0, 0x0, true, true, false⟩,
  ⟨0x70810, 0x4, 1, 0x380, 0x7FFFF, 0x0, 0x0, 0x0, 0x0, 0x0, true, false, true⟩,
  ⟨0x70814, 0x4, 1, 0x0, 0xFFFFFFFF, 0x0, 0x0, 0x0, 0x0, 0x0, true, false, true⟩,
  ⟨0x70818, 0x4, 1, 0x0, 0xFFFFFFFF, 0x0, 0x0, 0x0, 0x0, 0x0, true, false, true⟩,
  ⟨0x7081C, 0x4, 1, 0x40000000, 0xFFFFFFFF, 0x0, 0x0, 0x0, 0x0, 0x0, true, false, true⟩]

/-- Rows of block 7. -/
def rows7_1 : List RegRow := [
  ⟨0x70820, 0x4, 1, 0x0, 0xFFFFFF, 0x0, 0x0, 0x0, 0x0, 0x0, true, false, true⟩,
  ⟨0x70824, 0x4, 1, 0x0, 0xFFFFFFFF, 0x0, 0x0, 0x0, 0x0, 0x0, true, false, true⟩,
  ⟨0x70828, 0x4, 1, 0x0, 0x1FF, 0x0, 0x0, 0x0, 0x0, 0x0, true, false, true⟩,
  ⟨0x7082C, 0x4, 1, 0x0, 0x0, 0x0, 0x0, 0x0, 0xFFFFFFFF, 0x0, true, false, false⟩,
  ⟨0x70830, 0x4, 1, 0x0, 0x3FFF, 0x0, 0x0, 0x0, 0x0, 0x0, true, false, false⟩,
  ⟨0x70834, 0x4, 1, 0x0, 0x0, 0x0, 0x0, 0x0, 0x0, 0x0, true, false, false⟩,
  ⟨0x70838, 0x4, 1, 0x0, 0x7, 0x0, 0x0, 0x0, 0x0, 0x0, true, false, false⟩]

/-- The registers of block 7 (R97). -/
def blockRows7 : List RegRow := rows7_0 ++ rows7_1

/-- Rows of block 8. -/
def rows8_0 : List RegRow := [
  ⟨0x80000, 0x20, 48, 0x0, 0x0, 0x0, 0x0, 0x0, 0x0, 0xFFFFFFFF, true, false, false⟩,
  ⟨0x80004, 0x20, 48, 0x0, 0x0, 0x0, 0x0, 0x0, 0x0, 0xFFFFFFFF, true, false, false⟩,
  ⟨0x80008, 0x20, 48, 0x0, 0xFFFFFFFF, 0x0, 0x0, 0x0, 0x0, 0x0, true, true, false⟩,
  ⟨0x8000C, 0x20, 48, 0x0, 0xFFFFFFFF, 0x0, 0x0, 0x0, 0x0, 0x0, true, true, false⟩,
  ⟨0x80010, 0x20, 48, 0x0, 0x1FFFF, 0x0, 0x0, 0x0, 0x0, 0x0, true, true, false⟩,
  ⟨0x80014, 0x20, 48, 0x0, 0x0, 0x30, 0x0, 0x0, 0x0, 0x0, true, false, false⟩,
  ⟨0x80800, 0x4, 1, 0x42040, 0x0, 0x0, 0x0, 0x0, 0x0, 0xFFFFF, true, false, false⟩,
  ⟨0x80804, 0x4, 1, 0x0, 0x0, 0x0, 0x0, 0x0, 0x0, 0x1F1F1F1F, true, false, false⟩,
  ⟨0x80808, 0x4, 1, 0x0, 0x0, 0x0, 0x0, 0x0, 0x0, 0xFFFFFFFF, true, false, false⟩,
  ⟨0x8080C, 0x4, 1, 0x0, 0x0, 0x0, 0x0, 0x0, 0x0, 0xFFFFFFFF, true, false, false⟩,
  ⟨0x80810, 0x4, 1, 0x0, 0x0, 0x0, 0x0, 0x0, 0x0, 0xFFFF, true, false, false⟩,
  ⟨0x80814, 0x4, 1, 0x0, 0xFFFFFFFF, 0x0, 0x0, 0x0, 0x0, 0x0, true, true, false⟩,
  ⟨0x80818, 0x4, 1, 0x0, 0xFFFF, 0x0, 0x0, 0x0, 0x0, 0x0, true, true, false⟩,
  ⟨0x8081C, 0x4, 1, 0x0, 0x0, 0x0, 0x0, 0x0, 0x0, 0x0, false, false, false⟩,
  ⟨0x80820, 0x4, 1, 0x0, 0x0, 0x0, 0x0, 0x0, 0x0, 0x0, false, false, false⟩,
  ⟨0x80824, 0x4, 1, 0x0, 0x0, 0xF000000, 0x0, 0x0, 0x0, 0x0, false, false, false⟩,
  ⟨0x80828, 0x4, 1, 0x0, 0x0, 0x0, 0x0, 0x0, 0x3FFFF, 0x0, true, false, false⟩,
  ⟨0x8082C, 0x4, 1, 0x0, 0x0, 0x0, 0x0, 0x0, 0xFFFFFFFF, 0x0, true, false, false⟩,
  ⟨0x80830, 0x4, 1, 0x0, 0x0, 0x0, 0x0, 0x0, 0xFFFFFFFF, 0x0, true, false, false⟩,
  ⟨0x80834, 0x4, 1, 0x0, 0x0, 0x0, 0x0, 0x0, 0xFFFF, 0x0, true, false, false⟩,
  ⟨0x80838, 0x4, 1, 0x0, 0x7, 0x0, 0x0, 0x0, 0x0, 0x0, false, false, false⟩]

/-- The registers of block 8 (R97). -/
def blockRows8 : List RegRow := rows8_0

/-- Rows of block 9. -/
def rows9_0 : List RegRow := [
  ⟨0x90000, 0x4, 1, 0x0, 0x0, 0x0, 0x0, 0x0, 0x0, 0x3F, false, false, false⟩,
  ⟨0x90004, 0x4, 1, 0x0, 0x0, 0xF0000, 0x0, 0x0, 0x0, 0x0, false, false, false⟩,
  ⟨0x90008, 0x4, 1, 0x0, 0x0, 0x0, 0x0, 0x3, 0x0, 0x0, false, true, false⟩,
  ⟨0x9000C, 0x4, 1, 0x0, 0x0, 0x0, 0x0, 0x0, 0x0, 0x0, false, false, false⟩,
  ⟨0x90010, 0x4, 1, 0x0, 0x0, 0x0, 0x0, 0x0, 0x0, 0x0, false, false, false⟩,
  ⟨0x90014, 0x4, 1, 0x0, 0x0, 0x0, 0x0, 0x0, 0x0, 0x0, false, false, false⟩,
  ⟨0x90018, 0x4, 2, 0x0, 0x0, 0x0, 0x0, 0x0, 0x0, 0x0, false, false, false⟩,
  ⟨0x90020, 0x4, 2, 0x0, 0x0, 0x0, 0x0, 0x0, 0x0, 0xFFFF, false, false, false⟩,
  ⟨0x90028, 0x4, 1, 0x0, 0x0, 0x0, 0x0, 0x0, 0x0, 0xFFFFFFFF, false, false, false⟩,
  ⟨0x9002C, 0x4, 1, 0x0, 0x0, 0x0, 0x0, 0x0, 0x0, 0xFFFFFFFF, false, false, false⟩,
  ⟨0x90030, 0x4, 1, 0x0, 0x0, 0x0, 0x0, 0x0, 0x0, 0xFFFFFFFF, false, false, false⟩,
  ⟨0x90034, 0x4, 1, 0x0, 0x0, 0x0, 0x0, 0x0, 0x0, 0xFFFFFFFF, false, false, false⟩,
  ⟨0x90038, 0x4, 1, 0x0, 0x0, 0x0, 0x0, 0x0, 0x0, 0xFFFFFFFF, false, false, false⟩,
  ⟨0x9003C, 0x4, 1, 0x0, 0x0, 0x0, 0x0, 0x0, 0x0, 0xFFFFFFFF, false, false, false⟩,
  ⟨0x90040, 0x4, 1, 0x0, 0xFFFFFFFF, 0x0, 0x0, 0x0, 0x0, 0x0, false, false, false⟩,
  ⟨0x90044, 0x4, 1, 0x0, 0xFFFFFFFF, 0x0, 0x0, 0x0, 0x0, 0x0, false, false, false⟩,
  ⟨0x90048, 0x4, 1, 0x0, 0x0, 0x0, 0x0, 0x0, 0x0, 0xFFFFFFFF, false, false, false⟩,
  ⟨0x9004C, 0x4, 1, 0x0, 0x0, 0x0, 0x0, 0x0, 0x0, 0xFFFF, false, false, false⟩,
  ⟨0x90050, 0x4, 1, 0x0, 0xF, 0x0, 0x0, 0x0, 0x0, 0x0, false, false, false⟩,
  ⟨0x90054, 0x4, 1, 0x0, 0x0, 0x0, 0x0, 0x0, 0x1FFFFFF, 0x0, false, false, false⟩,
  ⟨0x90058, 0x4, 1, 0x0, 0x0, 0x0, 0x0, 0x0, 0x0, 0x0, false, false, false⟩,
  ⟨0x9005C, 0x4, 1, 0x0, 0x0, 0x0, 0x0, 0xFFFF, 0x0, 0x0, false, true, false⟩,
  ⟨0x90060, 0x4, 1, 0x0, 0x0, 0x0, 0x0, 0x0, 0x1FFFFFF, 0x0, false, false, false⟩,
  ⟨0x90064, 0x4, 1, 0x0, 0x0, 0x0, 0x0, 0xFFFF, 0x0, 0x0, false, true, false⟩,
  ⟨0x90080, 0x4, 8, 0x0, 0x0, 0x0, 0x0, 0x0, 0xFFFFFFFF, 0x0, false, false, false⟩,
  ⟨0x91000, 0x40, 64, 0x0, 0xFFD, 0x0, 0x0, 0x0, 0x0, 0x0, false, true, false⟩,
  ⟨0x91004, 0x40, 64, 0x0, 0xFFFFFFFF, 0x0, 0x0, 0x0, 0x0, 0x0, false, true, false⟩,
  ⟨0x91008, 0x40, 64, 0x0, 0xFFFFFFFF, 0x0, 0x0, 0x0, 0x0, 0x0, false, true, false⟩,
  ⟨0x9100C, 0x40, 64, 0x0, 0xFFFFFFFF, 0x0, 0x0, 0x0, 0x0, 0x0, false, true, false⟩,
  ⟨0x91010, 0x40, 64, 0x0, 0xFFFFFFFF, 0x0, 0x0, 0x0, 0x0, 0x0, false, true, false⟩]

/-- Rows of block 9. -/
def rows9_1 : List RegRow := [
  ⟨0x91014, 0x40, 64, 0x0, 0xFFFFFFFF, 0x0, 0x0, 0x0, 0x0, 0x0, false, true, false⟩,
  ⟨0x91018, 0x40, 64, 0x0, 0xFFFFFFFF, 0x0, 0x0, 0x0, 0x0, 0x0, false, true, false⟩,
  ⟨0x9101C, 0x40, 64, 0x0, 0xFFFFFFFF, 0x0, 0x0, 0x0, 0x0, 0x0, false, true, false⟩,
  ⟨0x91020, 0x40, 64, 0x0, 0xFFFFFFFF, 0x0, 0x0, 0x0, 0x0, 0x0, false, true, false⟩,
  ⟨0x92000, 0x100, 2, 0x0, 0xFFD, 0x0, 0x0, 0x0, 0x0, 0x0, false, true, false⟩,
  ⟨0x92004, 0x100, 2, 0x0, 0xFFFFFFFF, 0x0, 0x0, 0x0, 0x0, 0x0, false, true, false⟩,
  ⟨0x92008, 0x100, 2, 0x0, 0xFFFFFFFF, 0x0, 0x0, 0x0, 0x0, 0x0, false, true, false⟩,
  ⟨0x9200C, 0x100, 2, 0x0, 0xFFFFFFFF, 0x0, 0x0, 0x0, 0x0, 0x0, false, true, false⟩,
  ⟨0x92010, 0x100, 2, 0x0, 0xFFFFFFFF, 0x0, 0x0, 0x0, 0x0, 0x0, false, true, false⟩,
  ⟨0x92014, 0x100, 2, 0x0, 0xFFFFFFFF, 0x0, 0x0, 0x0, 0x0, 0x0, false, true, false⟩,
  ⟨0x92018, 0x100, 2, 0x0, 0xFFFFFFFF, 0x0, 0x0, 0x0, 0x0, 0x0, false, true, false⟩,
  ⟨0x9201C, 0x100, 2, 0x0, 0xFFFFFFFF, 0x0, 0x0, 0x0, 0x0, 0x0, false, true, false⟩,
  ⟨0x92020, 0x100, 2, 0x0, 0xFFFFFFFF, 0x0, 0x0, 0x0, 0x0, 0x0, false, true, false⟩,
  ⟨0x92024, 0x100, 2, 0x0, 0xFFFFFFFF, 0x0, 0x0, 0x0, 0x0, 0x0, false, true, false⟩,
  ⟨0x92028, 0x100, 2, 0x0, 0xFFFFFFFF, 0x0, 0x0, 0x0, 0x0, 0x0, false, true, false⟩,
  ⟨0x9202C, 0x100, 2, 0x0, 0xFFFFFFFF, 0x0, 0x0, 0x0, 0x0, 0x0, false, true, false⟩,
  ⟨0x92030, 0x100, 2, 0x0, 0xFFFFFFFF, 0x0, 0x0, 0x0, 0x0, 0x0, false, true, false⟩,
  ⟨0x92034, 0x100, 2, 0x0, 0xFFFFFFFF, 0x0, 0x0, 0x0, 0x0, 0x0, false, true, false⟩,
  ⟨0x92038, 0x100, 2, 0x0, 0xFFFFFFFF, 0x0, 0x0, 0x0, 0x0, 0x0, false, true, false⟩,
  ⟨0x9203C, 0x100, 2, 0x0, 0xFFFFFFFF, 0x0, 0x0, 0x0, 0x0, 0x0, false, true, false⟩,
  ⟨0x92040, 0x100, 2, 0x0, 0xFFFFFFFF, 0x0, 0x0, 0x0, 0x0, 0x0, false, true, false⟩,
  ⟨0x92044, 0x100, 2, 0x0, 0xFFFFFFFF, 0x0, 0x0, 0x0, 0x0, 0x0, false, true, false⟩,
  ⟨0x92048, 0x100, 2, 0x0, 0xFFFFFFFF, 0x0, 0x0, 0x0, 0x0, 0x0, false, true, false⟩,
  ⟨0x9204C, 0x100, 2, 0x0, 0xFFFFFFFF, 0x0, 0x0, 0x0, 0x0, 0x0, false, true, false⟩,
  ⟨0x92050, 0x100, 2, 0x0, 0xFFFFFFFF, 0x0, 0x0, 0x0, 0x0, 0x0, false, true, false⟩,
  ⟨0x92054, 0x100, 2, 0x0, 0xFFFFFFFF, 0x0, 0x0, 0x0, 0x0, 0x0, false, true, false⟩,
  ⟨0x92058, 0x100, 2, 0x0, 0xFFFFFFFF, 0x0, 0x0, 0x0, 0x0, 0x0, false, true, false⟩,
  ⟨0x9205C, 0x100, 2, 0x0, 0xFFFFFFFF, 0x0, 0x0, 0x0, 0x0, 0x0, false, true, false⟩,
  ⟨0x92060, 0x100, 2, 0x0, 0xFFFFFFFF, 0x0, 0x0, 0x0, 0x0, 0x0, false, true, false⟩,
  ⟨0x92064, 0x100, 2, 0x0, 0xFFFFFFFF, 0x0, 0x0, 0x0, 0x0, 0x0, false, true, false⟩]

/-- Rows of block 9. -/
def rows9_2 : List RegRow := [
  ⟨0x92068, 0x100, 2, 0x0, 0xFFFFFFFF, 0x0, 0x0, 0x0, 0x0, 0x0, false, true, false⟩,
  ⟨0x9206C, 0x100, 2, 0x0, 0xFFFFFFFF, 0x0, 0x0, 0x0, 0x0, 0x0, false, true, false⟩,
  ⟨0x92070, 0x100, 2, 0x0, 0xFFFFFFFF, 0x0, 0x0, 0x0, 0x0, 0x0, false, true, false⟩,
  ⟨0x92074, 0x100, 2, 0x0, 0xFFFFFFFF, 0x0, 0x0, 0x0, 0x0, 0x0, false, true, false⟩,
  ⟨0x92078, 0x100, 2, 0x0, 0xFFFFFFFF, 0x0, 0x0, 0x0, 0x0, 0x0, false, true, false⟩,
  ⟨0x9207C, 0x100, 2, 0x0, 0xFFFFFFFF, 0x0, 0x0, 0x0, 0x0, 0x0, false, true, false⟩,
  ⟨0x92080, 0x100, 2, 0x0, 0xFFFFFFFF, 0x0, 0x0, 0x0, 0x0, 0x0, false, true, false⟩,
  ⟨0x93000, 0x40, 64, 0x0, 0x0, 0x0, 0x0, 0x0, 0x3FFFFFF, 0x0, false, false, false⟩,
  ⟨0x93004, 0x40, 64, 0x0, 0x0, 0x0, 0x0, 0x0, 0xFFFFFFFF, 0x0, false, false, false⟩,
  ⟨0x93008, 0x40, 64, 0x0, 0x0, 0x0, 0x0, 0x0, 0xFFFFFFFF, 0x0, false, false, false⟩,
  ⟨0x9300C, 0x40, 64, 0x0, 0x0, 0x0, 0x0, 0x0, 0xFFFFFFFF, 0x0, false, false, false⟩,
  ⟨0x93010, 0x40, 64, 0x0, 0x0, 0x0, 0x0, 0x0, 0xFFFFFFFF, 0x0, false, false, false⟩,
  ⟨0x93014, 0x40, 64, 0x0, 0x0, 0x0, 0x0, 0x0, 0xFFFFFFFF, 0x0, false, false, false⟩,
  ⟨0x93018, 0x40, 64, 0x0, 0x0, 0x0, 0x0, 0x0, 0xFFFFFFFF, 0x0, false, false, false⟩,
  ⟨0x9301C, 0x40, 64, 0x0, 0x0, 0x0, 0x0, 0x0, 0xFFFFFFFF, 0x0, false, false, false⟩,
  ⟨0x93020, 0x40, 64, 0x0, 0x0, 0x0, 0x0, 0x0, 0xFFFFFFFF, 0x0, false, false, false⟩,
  ⟨0x93024, 0x40, 64, 0x0, 0x0, 0x0, 0x0, 0x0, 0xFFFFFFFF, 0x0, false, false, false⟩]

/-- The registers of block 9 (R97). -/
def blockRows9 : List RegRow := rows9_0 ++ rows9_1 ++ rows9_2

/-- Rows of block 10. -/
def rows10_0 : List RegRow := [
  ⟨0xA0000, 0x4, 1, 0x80, 0x0, 0x0, 0x0, 0x0, 0x0, 0xFF1FFFFF, false, false, false⟩,
  ⟨0xA0004, 0x4, 1, 0xA0000, 0x0, 0x0, 0x0, 0x0, 0x0, 0xFF07FF, false, false, false⟩,
  ⟨0xA0008, 0x4, 1, 0xFE, 0x0, 0x400, 0x0, 0x0, 0x0, 0x0, false, false, false⟩,
  ⟨0xA000C, 0x4, 1, 0x0, 0x7, 0x0, 0x0, 0x0, 0x0, 0x0, false, false, false⟩,
  ⟨0xA0010, 0x4, 1, 0x0, 0x0, 0x0, 0x0, 0x0, 0x3FFFF, 0x0, false, false, false⟩,
  ⟨0xA0014, 0x4, 1, 0x30000, 0x0, 0x0, 0x0, 0x0, 0x3FFFF, 0x0, false, false, false⟩,
  ⟨0xA0018, 0x4, 1, 0x0, 0x0, 0x0, 0x0, 0x0, 0xFFFFFFFF, 0x0, false, false, false⟩]

/-- The registers of block 10 (R97). -/
def blockRows10 : List RegRow := rows10_0

/-- Rows of block 11. -/
def rows11_0 : List RegRow := [
  ⟨0xB0000, 0x4, 1, 0x0, 0x0, 0x18000000, 0x0, 0x0, 0x7FFFFFF, 0x0, false, false, false⟩,
  ⟨0xB0004, 0x4, 1, 0x0, 0x0, 0x0, 0x0, 0x0, 0xFFFFFFFF, 0x0, false, false, false⟩,
  ⟨0xB0008, 0x4, 1, 0x0, 0x0, 0x0, 0x0, 0x0, 0xFFFFFFFF, 0x0, false, false, false⟩,
  ⟨0xB000C, 0x4, 1, 0x0, 0x0, 0x0, 0x0, 0x0, 0xFFFFFFFF, 0x0, false, false, false⟩,
  ⟨0xB0010, 0x4, 1, 0x0, 0x0, 0x0, 0x0, 0x0, 0xFFFFFFFF, 0x0, false, false, false⟩,
  ⟨0xB0014, 0x4, 1, 0x0, 0x0, 0x0, 0x0, 0x0, 0xFFFFFFFF, 0x0, false, false, false⟩,
  ⟨0xB0018, 0x4, 1, 0x0, 0x0, 0x0, 0x0, 0x0, 0xFFFFFFFF, 0x0, false, false, false⟩,
  ⟨0xB001C, 0x4, 1, 0x0, 0x0, 0x0, 0x0, 0x0, 0xFFFFFFFF, 0x0, false, false, false⟩,
  ⟨0xB0020, 0x4, 1, 0x0, 0x3, 0x0, 0x0, 0x0, 0x0, 0x0, false, false, false⟩]

/-- The registers of block 11 (R97). -/
def blockRows11 : List RegRow := rows11_0

/-- Rows of block 12. -/
def rows12_0 : List RegRow := [
  ⟨0xC0000, 0x4, 1, 0x0, 0x0, 0x0, 0x0, 0x0, 0x0, 0x0, false, false, false⟩,
  ⟨0xC0004, 0x4, 1, 0x0, 0x0, 0x0, 0x0, 0x0, 0x0, 0x0, false, false, false⟩,
  ⟨0xC0008, 0x4, 1, 0x0, 0x0, 0x0, 0x0, 0x0, 0x0, 0x0, false, false, false⟩,
  ⟨0xC000C, 0x4, 1, 0x1E1E3C, 0x0, 0x0, 0x0, 0x0, 0x0, 0x0, false, false, false⟩]

/-- The registers of block 12 (R97). -/
def blockRows12 : List RegRow := rows12_0

/-- Rows of block 13. -/
def rows13_0 : List RegRow := [
  ⟨0xD0000, 0x4, 1, 0x0, 0x0, 0x1F, 0x0, 0x0, 0x0, 0x0, false, false, false⟩,
  ⟨0xD0004, 0x4, 1, 0x0, 0x0, 0x0, 0x0, 0x0, 0x0, 0x0, false, false, false⟩,
  ⟨0xD0008, 0x4, 1, 0x0, 0x1FFF, 0x0, 0x0, 0x0, 0x0, 0x0, false, false, false⟩,
  ⟨0xD000C, 0x4, 1, 0x0, 0x0, 0x0, 0x0, 0x0, 0x0, 0x0, false, false, false⟩,
  ⟨0xD0010, 0x4, 1, 0x0, 0x1FF, 0x0, 0x0, 0x0, 0x0, 0x0, false, true, false⟩,
  ⟨0xD0014, 0x4, 1, 0x0, 0xFFFFFFFF, 0x0, 0x0, 0x0, 0x0, 0x0, false, false, false⟩,
  ⟨0xD0018, 0x4, 1, 0x20, 0x0, 0x70000, 0x0, 0x0, 0x0, 0x0, false, false, false⟩,
  ⟨0xD001C, 0x4, 1, 0x0, 0xF, 0x0, 0x0, 0x0, 0x0, 0x0, false, false, false⟩,
  ⟨0xD0040, 0x4, 9, 0x0, 0x0, 0x0, 0x0, 0x0, 0x0, 0x0, false, false, false⟩,
  ⟨0xD0080, 0x4, 9, 0x0, 0x0, 0x0, 0x0, 0x0, 0x0, 0x0, false, false, false⟩]

/-- The registers of block 13 (R97). -/
def blockRows13 : List RegRow := rows13_0

/-- Rows of block 14. -/
def rows14_0 : List RegRow := [
  ⟨0xE0000, 0x4, 1, 0x0, 0x0, 0xF00, 0x0, 0x0, 0x0, 0x0, false, false, false⟩,
  ⟨0xE0004, 0x4, 1, 0x0, 0x0, 0x0, 0x0, 0x0, 0x0, 0x0, false, false, false⟩,
  ⟨0xE0008, 0x4, 1, 0xFF, 0xFF, 0x0, 0x0, 0x0, 0x0, 0x0, false, false, false⟩,
  ⟨0xE000C, 0x4, 1, 0xFF, 0x0, 0xFF0000, 0x0, 0x0, 0x0, 0x0, false, false, false⟩,
  ⟨0xE0010, 0x4, 1, 0x0, 0x1, 0x0, 0x0, 0x0, 0x0, 0x0, false, false, false⟩,
  ⟨0xE0014, 0x4, 1, 0x77, 0x4F, 0x0, 0x0, 0x0, 0x0, 0x0, false, false, false⟩,
  ⟨0xE0018, 0x4, 1, 0x0, 0xFFFF, 0x0, 0x0, 0x0, 0x0, 0x0, false, false, false⟩,
  ⟨0xE001C, 0x4, 1, 0x0, 0x0, 0x0, 0x0, 0x0, 0x0, 0x0, false, false, false⟩,
  ⟨0xE0020, 0x4, 1, 0x0, 0x7, 0x0, 0x0, 0x0, 0x0, 0x0, false, false, false⟩]

/-- The registers of block 14 (R97). -/
def blockRows14 : List RegRow := rows14_0

/-- Rows of block 15. -/
def rows15_0 : List RegRow := [
  ⟨0xF0000, 0x4, 9, 0x0, 0x0, 0x0, 0x0, 0x0, 0x0, 0x0, false, false, false⟩,
  ⟨0xF0040, 0x4, 1, 0x0, 0x0, 0x1C20000, 0x0, 0x0, 0x0, 0x0, false, false, false⟩,
  ⟨0xF0044, 0x4, 1, 0x900E1, 0x0, 0x0, 0x0, 0x0, 0x0, 0x3F03FF, false, false, false⟩,
  ⟨0xF0048, 0x4, 1, 0x0, 0x0, 0x0, 0x0, 0x0, 0x0, 0x0, false, false, false⟩,
  ⟨0xF004C, 0x4, 1, 0x0, 0x0, 0x0, 0x0, 0xF, 0x0, 0x0, false, true, false⟩,
  ⟨0xF0050, 0x4, 1, 0x0, 0x7, 0x0, 0x0, 0x0, 0x0, 0x0, false, false, false⟩,
  ⟨0xF0100, 0x4, 1, 0x0, 0x0, 0x0, 0x0, 0x0, 0x0, 0x0, false, false, false⟩,
  ⟨0xF0104, 0x4, 1, 0x0, 0x0, 0x0, 0x0, 0x0, 0x0, 0x0, false, false, false⟩,
  ⟨0xF0108, 0x4, 1, 0x0, 0xFFFFFFFF, 0x0, 0x0, 0x0, 0x0, 0x0, false, false, false⟩,
  ⟨0xF010C, 0x4, 1, 0x0, 0x0, 0x0, 0x0, 0x0, 0x0, 0x0, false, false, false⟩,
  ⟨0xF0110, 0x4, 1, 0x0, 0x0, 0x0, 0x0, 0xFFFFFFFF, 0x0, 0x0, false, true, false⟩,
  ⟨0xF0114, 0x4, 1, 0x0, 0xFFFF, 0x0, 0x0, 0x0, 0x0, 0x0, false, false, false⟩,
  ⟨0xF0118, 0x4, 1, 0x0, 0x0, 0x0, 0x0, 0x0, 0x0, 0x0, false, false, false⟩,
  ⟨0xF011C, 0x4, 1, 0x0, 0x0, 0x2000, 0x0, 0x0, 0x0, 0x0, false, false, false⟩]

/-- The registers of block 15 (R97). -/
def blockRows15 : List RegRow := rows15_0

/-- Rows of block 16. -/
def rows16_0 : List RegRow := [
  ⟨0x100000, 0x4, 1, 0x0, 0x0, 0x0, 0x0, 0x0, 0xFFFFF, 0x0, false, false, false⟩,
  ⟨0x100004, 0x4, 1, 0x0, 0x0, 0x0, 0x0, 0x0, 0x0, 0x0, false, false, false⟩,
  ⟨0x100008, 0x4, 1, 0x0, 0x0, 0x0, 0x0, 0x0, 0x0, 0x0, false, false, false⟩,
  ⟨0x10000C, 0x4, 1, 0x0, 0x3, 0x0, 0x0, 0x0, 0x0, 0x0, false, false, false⟩]

/-- The registers of block 16 (R97). -/
def blockRows16 : List RegRow := rows16_0

/-- The rows of the block that an offset lies in. -/
def rowsOf (a : Reg) : List RegRow :=
  match a / 0x10000 with
  | 0 => blockRows0
  | 1 => blockRows1
  | 2 => blockRows2
  | 3 => blockRows3
  | 4 => blockRows4
  | 5 => blockRows5
  | 6 => blockRows6
  | 7 => blockRows7
  | 8 => blockRows8
  | 9 => blockRows9
  | 10 => blockRows10
  | 11 => blockRows11
  | 12 => blockRows12
  | 13 => blockRows13
  | 14 => blockRows14
  | 15 => blockRows15
  | 16 => blockRows16
  | _ => []

/-- Whether a row holds the register at an offset. -/
def RegRow.has (r : RegRow) (a : Reg) : Bool :=
  decide (r.first ≤ a) && (a - r.first) % r.stride == 0 && decide ((a - r.first) / r.stride < r.count)

/-- The row of the register at an offset; none where no register exists (R101). -/
def regRow (a : Reg) : Option RegRow := (rowsOf a).find? (fun r => r.has a)

/-- The reset value of the register at an offset (R11); 0 where no register exists. -/
def regReset (a : Reg) : Word :=
  match regRow a with
  | some r => r.reset
  | none => 0

/-- Whether the register is held once per copy (R98). -/
def isCopyReg (a : Reg) : Bool :=
  match regRow a with
  | some r => r.copy
  | none => false

/-- Whether a helm store to the register retires into the output hold queue (R88). -/
def isHeldReg (a : Reg) : Bool :=
  match regRow a with
  | some r => r.held
  | none => false

/-- Whether a helm store to the register lands in the loop unit's staging set (R126). -/
def isStagedReg (a : Reg) : Bool :=
  match regRow a with
  | some r => r.staged
  | none => false

end Sys2Proof.Machine
end

