-- ==== Sys2Proof/Machine/State.lean ====
section
/-!
DEFINITION. The state of the module: three lanes, each with its registers and with the state its chapters give it
outside the registers, and the queue of waiting commands. Plain data throughout.
-/

namespace Sys2Proof.Machine

/-- Why a step stops the block. -/
inductive Fault where
  /-- Raised by the feed commands for a feed voltage beyond the absolute limits of R535, past which no figure of the
  spec applies. Safe: the model stops where the part may be damaged. -/
  | absoluteLimit
  deriving DecidableEq, Repr

/-- Why a command has no meaning here. -/
inductive Refusal where
  /-- Raised by an arm of `exec` whose command has no meaning yet. Safe. -/
  | notModelled (mnemonic : String)
  deriving DecidableEq, Repr

/-! ### Registers and memories -/

/-- The registers of one lane or of one copy: offset and value, offsets rising, no entry at its reset value. -/
abbrev RegFile := List (Nat × Word)

/-- One protected SRAM (R388): its bytes, and for each word (by word index) with wrong stored bits the pattern of
the wrong bits, data in [31:0] and check bits in [38:32]. An unlisted byte reads 0 (R390), an unlisted word has no
wrong bit. -/
structure Sram where
  bytes : List Host.Cell
  flips : List (Nat × BitVec 39)
  deriving DecidableEq, Repr

/-! ### Feeds and domains (R19 to R34), start-up (R373) -/

/-- Where one switched domain stands in the sequence of R31. -/
inductive DomPhase where
  | on | quieting | falling | off | rising
  deriving DecidableEq, Repr

/-- One switching of a domain or of a pair of domains; domains by number less 1. -/
structure DomJob where
  doms : List Nat
  up : Bool
  deriving DecidableEq, Repr

/-- How far the start-up of R373 has come. -/
inductive StartStage where
  /-- in power-on reset -/
  | reset
  /-- the switched domains are being powered -/
  | powering
  /-- the reduced start-up BIST runs -/
  | bist
  /-- the SRAM fill runs -/
  | filling
  /-- the image is being loaded and checked -/
  | loading
  /-- the configuration record is being written -/
  | configuring
  /-- released from INIT -/
  | released
  /-- held in INIT until the next power-on reset (R376) -/
  | heldInit
  deriving DecidableEq, Repr

structure PowerUnit where
  stage : StartStage
  phase : Vector DomPhase 8
  jobs : List DomJob
  heldDom : List Word
  feed1 : Int
  feed2 : Int
  /-- a feed loss stands (R357) -/
  gone1 : Bool
  gone2 : Bool
  deriving DecidableEq, Repr

/-! ### Lane time and pace (R43 to R60, R527) -/

structure PaceUnit where
  heldCtl : Option Word
  heldRate : Option Word
  /-- the periods that PACE_RATE accepted and that wait for PACE_APPLY (R56) -/
  waiting : Option Word
  /-- the operating point the core voltage moves to (R58) -/
  target : Nat
  lastFrame : Option LTime
  lastPwm : Option LTime
  /-- lane time has been set by the first synchronisation (R45) -/
  synced : Bool
  deriving DecidableEq, Repr

/-! ### Helm pair (chapters 3 and 4) -/

/-- A posted store that has not drained (R73). -/
structure StoreOp where
  addr : Word
  data : Word
  be : BitVec 4
  deriving DecidableEq, Repr

/-- An entry of an output hold queue (R115); `ok` when its window has compared equal (R117). -/
structure HoldEntry where
  addr : Word
  data : Word
  be : BitVec 4
  win : Nat
  ok : Bool
  deriving DecidableEq, Repr

/-- One helm copy (R61). -/
structure HelmCopy where
  g : Vector Word 32
  q : BitVec 4
  ha : Acc
  hb : Acc
  pc : Word
  stat : Word
  epc : Word
  cause : Word
  badaddr : Word
  vbase : Word
  scratch : Word
  retired : Word
  code : Sram
  data : Sram
  sbuf : List StoreOp
  hold : List HoldEntry
  tally : BitVec 64
  /-- the address of the window's first store that completed with a bus error (R87) -/
  busErr : Option Word
  deriving DecidableEq, Repr

/-- Whether an engine pair issues (R129, R330). -/
inductive Run where
  | stopped
  /-- the drive pair before its first PWM period start (R159) -/
  | armed
  | running
  /-- in a fence that waits -/
  | fence
  /-- the helm in wfe, the drive pair in wfp -/
  | waiting
  deriving DecidableEq, Repr

structure HelmUnit where
  run : Run
  c : Pair HelmCopy
  depth : Nat
  win : Nat
  count : Nat
  /-- the last retired instruction is a held store (R116) -/
  lastHeld : Bool
  /-- a control frame started since the window opened (R305) -/
  frameSince : Bool
  /-- the first release error since the last entry for one (R89) -/
  relErr : Option Word
  /-- that error is deferred behind a STORE_BUS of R87 (R554) -/
  deferred : Bool
  /-- an eret has passed since the deferral (R554) -/
  eretSince : Bool
  deriving DecidableEq, Repr

/-! ### Drive pair (chapter 5) -/

/-- A message of the command window (R122). -/
structure Msg where
  words : Vector Word 16
  count : Nat
  urgent : Bool
  deriving DecidableEq, Repr

/-- The mailboxes of one drive copy (R122 to R125, R152). -/
structure Mailbox where
  fill : Vector Word 16
  pend : Option Msg
  owned : Option Msg
  /-- status words as released -/
  next : Vector Word 32
  /-- the most recently completed status -/
  done : Vector Word 32
  /-- the status that the helm's last load of word 0 latched -/
  latched : Vector Word 32
  deriving DecidableEq, Repr

/-- One trellis context (R144): columns of decisions, newest first, and the newest column's metrics. -/
structure TrellisCtx where
  cols : List (List (Fin 3))
  metrics : List Word
  deriving DecidableEq, Repr

/-- The running loop of R153. -/
structure LoopState where
  start : Nat
  len : Nat
  stages : Nat
  iters : Nat
  pass : Nat
  deriving DecidableEq, Repr

/-- One drive copy (R130). -/
structure DriveCopy where
  w : Vector Word 64
  acc : Vector Acc 4
  p : Vector Word 8
  m : Vector Word 8
  f : BitVec 4
  rot : Nat
  pc : Nat
  stack : List Nat
  loop : Option LoopState
  /-- a loop has begun since the start -/
  looped : Bool
  ctx : Vector TrellisCtx 6
  trm : Word
  sel : Nat
  tj : Nat
  /-- a tbeg has been issued and its column's decisions so far, each with its metric (R145, R146) -/
  col : Option (List (Fin 3 × Word))
  flags : Word
  msg : Word
  wake : Word
  per : Word
  prog : Sram
  data : Sram
  sbuf : List StoreOp
  hold : List HoldEntry
  tally : BitVec 64
  mbox : Mailbox
  deriving DecidableEq, Repr

structure DriveUnit where
  run : Run
  c : Pair DriveCopy
  win : Nat
  count : Nat
  lastHeld : Bool
  /-- an urgent event is latched for the next wfp (R156) -/
  urgent : Bool
  /-- an overrun is latched for the next wfp (R158) -/
  overrun : Bool
  periodStart : LTime
  deriving DecidableEq, Repr

/-! ### Position inputs (chapter 6) -/

/-- A counted edge: its time, the raw count after it, its direction (R176). -/
structure CEdge where
  t : LTime
  c : Int
  fwd : Bool
  deriving DecidableEq, Repr

/-- The speed measurement of one channel (R176 to R179). A refined count is a fraction: numerator and denominator. -/
structure SpeedUnit where
  eb : Option CEdge
  ebb : Option CEdge
  /-- start of the present window and the refined count there -/
  t0 : LTime
  cf0 : Option (Int × Nat)
  /-- window ends that wait for their deciding edge, oldest first -/
  ends : List LTime
  /-- counted edges since the window's start -/
  edges : Nat
  /-- a window holding two counted edges has ended since lock or since the last clear (R179) -/
  good : Bool
  /-- the next window is the first full one after a clear -/
  fresh : Bool
  zero : Bool
  jumped : Bool
  lastEdge : LTime
  deriving DecidableEq, Repr

structure IncUnit where
  a : Bool
  b : Bool
  i : Bool
  extreme : Int
  lastFwd : Bool
  ref : Int
  idxRaw : Int
  missed : Bool
  coins : List LTime
  speed : SpeedUnit
  deriving DecidableEq, Repr

structure HallUnit where
  lines : BitVec 3
  count : Int
  extreme : Int
  lastFwd : Bool
  skips : List LTime
  lastEdge : LTime
  edgeInPeriod : Bool
  /-- since when state 0 or 7 has been held -/
  invalidSince : Option LTime
  speed : SpeedUnit
  deriving DecidableEq, Repr

structure SsiUnit where
  /-- a frame or its pause is in progress until this lane time; none while idle -/
  busy : Option LTime
  first : LTime
  last : Option Word
  rejects : Nat
  running : Bool
  deriving DecidableEq, Repr

structure EchoUnit where
  cfg : Word
  ratio : Word
  ipr : Word
  base : Int
  /-- E of R190 and the edges emitted so far -/
  e : Int
  out : Int
  valid : Bool
  /-- unwrapped source of an angle or SSI source, and its last sample -/
  src : Int
  lastRaw : Nat
  prev : Int
  tLast : LTime
  tPrev : LTime
  deriving DecidableEq, Repr

structure PosUnit where
  inc : Vector IncUnit 8
  hall : Vector HallUnit 8
  ssi : Vector SsiUnit 2
  echo : Vector EchoUnit 2
  deriving DecidableEq, Repr

/-! ### Commutation (chapter 7) -/

/-- A COMM_CMD, MANUAL, INJECT or CAPTURE write that waits for its frame. -/
structure FrameCmd where
  target : Nat
  op : Nat
  frame : BitVec 16
  deriving DecidableEq, Repr

/-- The catch measurement of one channel (R223): crossings of the line voltages with the first and last time, the
last line signs, the peak line amplitude in Q1.31 of 80 V, the sense of rotation and the last voltages. -/
structure CatchUnit where
  crossings : Nat
  firstT : LTime
  lastT : LTime
  signs : Option (Bool × Bool × Bool)
  order : Int
  peak : Nat
  last : Option (Int × Int × Int)
  deriving DecidableEq, Repr

structure ChanUnit where
  fwd : Bool
  stateAt : LTime
  agreeFrames : Nat
  catching : CatchUnit
  /-- the raw catch result of the present START (R223): speed in 2^-15 of rated and angle -/
  rawCatch : Option (Int × BitVec 16)
  handPass : Option Bool
  /-- SHORT: since when, and whether a re-catch is running -/
  shortAt : LTime
  recatch : Bool
  hxCount : Nat
  slowCount : Nat
  /-- a winding loss stands: LOST, until CLEAR and RUN (R357) -/
  windLoss : Bool
  /-- a sample with SVALID = 1 has been taken since the channel entered RUN (R239) -/
  sampled : Bool
  /-- the channel has entered RUN from RAMP (1) or from CLASS 2 (2) and its presets are due (R260) -/
  presetFrom : Nat
  defAt : Bool
  deriving DecidableEq, Repr

structure CommUnit where
  ch : Vector ChanUnit 6
  cmds : List FrameCmd
  /-- agreed inputs (R209): word index (32 per channel, lane words from 192) and value -/
  inputs : List (Nat × Word)
  /-- consecutive input faults of each agreed word (R310) -/
  faults : List (Nat × Nat)
  deriving DecidableEq, Repr

/-! ### Gate drive and protection (chapter 9) -/

/-- A set of leg commands with its channel command (R157). -/
structure CmdSet where
  chan : Word
  u : Word
  v : Word
  w : Word
  deriving DecidableEq, Repr

/-- One leg of the bridge die. The times of R233 are in units of 2^-16 of 6.25 ns. -/
structure LegUnit where
  /-- the leg command last released (R157) -/
  rel : Word
  high : Bool
  low : Bool
  /-- owed off-time, high-side time carried, and periods the high side has been on throughout (R233) -/
  owed : Nat
  carry : Nat
  full : Nat
  /-- this period is a refresh period -/
  refresh : Bool
  /-- a soft turn-off of the high or of the low side is running (R285) -/
  softHigh : Bool
  softLow : Bool
  blankHigh : Bool
  blankLow : Bool
  /-- lane times of this leg's detections (R289) -/
  trips : List LTime
  /-- the clear of the present latch moves the leg to its reserve stages (R289) -/
  toReserve : Bool
  /-- one-shot pulse of MODE LOWP ended early (R201) -/
  pulseEnded : Bool
  deriving DecidableEq, Repr

/-- The last sample of a channel (R205, R209): currents and voltages in Q1.31 of full scale. -/
structure Sampled where
  ich : Int
  iu : Int
  iv : Int
  iw : Int
  vf : Int
  vl : Int
  valid : Bool
  demag : Bool
  sector : Nat
  at625 : Nat
  deriving DecidableEq, Repr

/-- One channel of the bridge die. -/
structure ChanDrive where
  ready : Option CmdSet
  taken : CmdSet
  /-- the sector in force, after a commutation at CT (R204); 6 ALL, 7 FREE -/
  sector : Nat
  commutated : Bool
  /-- the first channel command has been taken (R274) -/
  started : Bool
  demag : Bool
  smp : Sampled
  /-- the present period has had its sample -/
  sampled : Bool
  regen : Bool
  /-- the vector duty realised, in units of 2^-16 (R295) -/
  real : Int
  /-- first leg of a detection whose soft turn-off runs (R285) -/
  tripLeg : Option Nat
  deriving DecidableEq, Repr

structure BridgeUnit where
  leg : Vector LegUnit 18
  ch : Vector ChanDrive 6
  /-- the configuration lock has passed: the chopper gate may switch (R274) -/
  locked : Bool
  chopSince : LTime
  chopLow : Nat
  chopMa : Nat
  chopLatched : Bool
  /-- the override line of the Stopper (R349): the bridge die's legs follow the park path or the active short -/
  override : Bool
  periodIdx : Nat
  deriving DecidableEq, Repr

/-! ### The loop unit (chapter 8) -/

/-- One slot of a loop-unit copy (R241, R244, R259). Values are Q1.31 integers. -/
structure SlotUnit where
  i : Int
  u : Int
  /-- the integrator candidate and v of the present evaluation, and the values that a capture names (R266) -/
  ic : Int
  v : Int
  r : Int
  y : Int
  e : Int
  d : Int
  /-- u without the injected signal (R263) -/
  bare : Int
  xPrev : Int
  dPrev : Int
  r1 : Int
  r2 : Int
  holding : Bool
  manual : Bool
  first : Bool
  /-- the demand of a preset due at the next evaluation with its rank in the table of R260 -/
  preset : Option (Nat × Int)
  deriving DecidableEq, Repr

/-- The test signal (R263 to R265). -/
structure InjectUnit where
  on : Bool
  reg : List Bool
  held : Nat
  s : Int
  phase : BitVec 32
  inc : Nat
  frames : Nat
  deriving DecidableEq, Repr

/-- The capture buffer (R266): its words, newest last. -/
structure CaptureUnit where
  on : Bool
  armed : Bool
  words : List Word
  count : Nat
  skip : Nat
  deriving DecidableEq, Repr

/-- One loop-unit copy. `sigma` holds, per channel, numerator and denominator of the winding share in force (R249). -/
structure LoopCopy where
  slot : Vector SlotUnit 24
  gout : Vector Int 8
  /-- the group has no winner that holds (R239 class 0x4) -/
  gwin : Vector Bool 8
  idem : Vector Int 6
  dem : Vector Int 6
  sigma : Vector (Nat × Nat) 6
  sigmaOld : Vector (Nat × Nat) 6
  stage : RegFile
  inject : InjectUnit
  cap : CaptureUnit
  cmds : List FrameCmd
  /-- the SEQ of the last status whose presets were taken (R261) -/
  presetSeq : Nat
  deriving DecidableEq, Repr

/-! ### Agreement across lanes (chapter 10) -/

/-- One copy of a command that a lane holds (R325): who received it, when, and its content. -/
structure CmdCopy where
  src : LaneId
  rx : LTime
  data : List Byte
  deriving DecidableEq, Repr

/-- A command agreed across lanes: its first receipt and its content. -/
structure AgreedCmd where
  first : LTime
  data : List Byte
  deriving DecidableEq, Repr

/-- One frame of the agreement history (R336), laid out as TALLY_HDATA reads it. -/
structure HistRec where
  frame : Word
  vb : Word
  sqv : Word
  sq : List Word
  caught : List Word
  xang : List Word
  chan : List Word
  cmds : List AgreedCmd
  deriving DecidableEq, Repr

/-- The rounds in progress and what they leave (R312 to R328). Shares are held exactly, in 24ths (R332). -/
structure AgreeUnit where
  vec : Trio LaneEntry
  chan : Vector Word 6
  share : Trio Nat
  /-- frames since the rejoining lane's first RAMP frame (R332) -/
  rampK : Nat
  v : Trio (Option VBody)
  /-- the V packet held is a relayed copy (R314) -/
  vRelay : Trio Bool
  voted : Bool
  q0 : Trio (Option Q0Body)
  sqw : Trio (List (Nat × Word))
  sqv : Trio Word
  loopOut : Trio (List (Nat × Word))
  /-- the bus voltage of the last agreement (R549) -/
  vb : Word
  vbValid : Bool
  caught : Vector Word 6
  xang : Vector Word 6
  /-- withdrawals registered from other lanes: before and after the share cut (R331) -/
  gone : List LaneId
  goneLate : List LaneId
  cutPassed : Bool
  /-- withdrawal demands in force: who demands whom (R316) -/
  demands : List (LaneId × LaneId)
  /-- LIMP is requested for the next frame start (R322, R328) -/
  limpReq : Bool
  /-- the last round's vote: outcome of the SHADOW lane's H half (R334) -/
  shadowOk : Option Bool
  /-- shared quantities without agreement in a row, by word; 32 is VB (R357, R361) -/
  noAgr : List (Nat × Nat)
  history : List HistRec
  copies : List CmdCopy
  agreed : List AgreedCmd
  frameCmds : List AgreedCmd
  /-- packets that this lane's last step put on its links -/
  tx : List (Side × Packet)
  /-- the lane's own Lay correction at the agreement point, and the agreed one (R323, R452) -/
  layCorr : Option Int
  layAgreed : Option Int
  deriving DecidableEq, Repr

/-- Links, offsets, withdrawal and rejoin of one lane (R311, R317, R330 to R337). -/
structure RejoinUnit where
  crcRunN : Nat
  crcRunP : Nat
  /-- vote cuts in a row at which every offset exceeded 100 ns (R318) -/
  offBad : Nat
  /-- where lane time slews to (R317), in units of 125 ps -/
  slew : Int
  /-- when a packet of each lane last arrived, and the offset last formed to it (R317, R378) -/
  heard : Trio (Option LTime)
  offs : Trio (Option Int)
  /-- when the STARTTEST checks passed (R378) -/
  checksAt : LTime
  /-- lane times of this lane's withdrawals (R333) -/
  times : List LTime
  /-- a comparator self-check of a rejoin runs (R334) -/
  checking : Bool
  /-- the lane has become WITHDRAWN before R378 made it RUNNING: it waits for the cases of R378 -/
  waiting : Bool
  /-- transfer frames of the present attempt, and the blocks received (R335) -/
  frames : Nat
  blocks : List Nat
  mism : Nat
  rampFrames : Nat
  /-- agreed-state memory: word index and value (R335) -/
  mem : List (Nat × Word)
  /-- engines restarted at this attempt -/
  restarted : Bool
  /-- the lane's own frame tally of the last vote cut (R327) -/
  tally : BitVec 128
  /-- votes completed with an outcome are suspended: no outcome until this many frame starts (R369, R379, R382, R383) -/
  noVote : Nat
  /-- the bridge die holds its duties until the end of this control frame (R14) -/
  holding : Bool
  /-- the bridge die is held by a demand or by a heartbeat loss (R316, R345) -/
  demanded : Bool
  /-- the lane restarts into INIT when its lock-out releases (R551) -/
  restartAtRelease : Bool
  /-- the frame before counts as the withdrawal frame W of R334 -/
  wHolds : Bool
  deriving DecidableEq, Repr

/-! ### Stopper (chapter 11) and modes (chapter 12) -/

/-- One input pair's course towards clearing its discrepancy (R343) and towards a guard cycle (R355). -/
structure PairUnit where
  /-- both inputs have been open at the same time since the discrepancy -/
  bothOpen : Bool
  /-- since when both have been open together -/
  openSince : Option LTime
  /-- no discrepancy stood when that period began and none was raised since (R355) -/
  clean : Bool
  /-- the shared open period has lasted 100 ms -/
  longOpen : Bool
  deriving DecidableEq, Repr

/-- The brake park path of one channel (R350). -/
structure ParkUnit where
  sector : Nat
  /-- positive leg's high side conducts -/
  high : Bool
  floating : Bool
  /-- the limit is HOLDI, APPLYT having passed -/
  holdLimit : Bool
  deriving DecidableEq, Repr

structure Stopper where
  estop : PairUnit
  guard : PairUnit
  chalAt : LTime
  /-- the answer has been judged (R344) -/
  judged : Bool
  /-- since when no trigger other than safe mode has stood (R353) -/
  quietSince : Option LTime
  park : Vector ParkUnit 6
  /-- the map and inversion of each hall input, taken at configuration lock (R350) -/
  hall : Vector Word 8
  /-- the four series switches are under control (R348, R356) -/
  switches : Bool
  /-- the output switch test of STARTTEST has passed -/
  testPassed : Bool
  deriving DecidableEq, Repr

/-- The last BIST record in MRAM (R374, R381). -/
structure BistRec where
  pass : Bool
  kind : Bool
  logic : Nat
  mem : Nat
  ms : Nat
  faild : Nat
  consumed : Bool
  deriving DecidableEq, Repr

/-- An accepted mode request that waits for its frame (R365). -/
structure ModeReq where
  target : Nat
  lane : Nat
  frame : BitVec 16
  deriving DecidableEq, Repr

/-- Where the shutdown sequence of R379 stands. -/
inductive ShutStep where
  | none | flush | repair | zeroise | logic | memory | record | off | done
  deriving DecidableEq, Repr

/-- Where the sleep sequence of R382 stands: the number of the ask (1 to 5), or SLEEP. -/
inductive SleepStep where
  | none
  | ask (n : Nat)
  | rollback
  | asleep
  deriving DecidableEq, Repr

structure ModeUnit where
  /-- the requests that wait for their frame, in the order of their release (R365) -/
  pend : List ModeReq
  checks : Bool
  selfCheck : Bool
  limpStart : Option LTime
  standSince : Option LTime
  standDone : Bool
  limpDone : Bool
  mcount : Nat
  shut : ShutStep
  sleep : SleepStep
  /-- domains stopped by the sleep sequence, in order -/
  stopped : List Nat
  /-- a key or a feed event that arrived during SHUTDOWN (R379) -/
  heldWake : Bool
  bistLogic : Bool
  bistZero : Bool
  bistSram : Bool
  bistMram : Bool
  bistFrom : LTime
  /-- ACCEPTED of the always-on domain (R374) -/
  accepted : Bool
  /-- the last start found no unconsumed record -/
  missing : Bool
  released : LTime
  /-- LCTL_GTACK has been written since the start -/
  gtack : Bool
  deriving DecidableEq, Repr

/-! ### Memory integrity (chapter 13) -/

/-- An entry of a correctable-error table (R395). -/
structure CeEntry where
  wadr : Nat
  bit : Nat
  cnt : Nat
  hard : Bool
  test : Bool
  deriving DecidableEq, Repr

/-- A pending corrective write-back (R394). -/
structure WriteBack where
  m : Nat
  wadr : Nat
  deriving DecidableEq, Repr

/-- A hard address of the pending-repair list (R399). -/
structure RepairEnt where
  m : Nat
  wadr : Nat
  bit : Nat
  deriving DecidableEq, Repr

/-- A programmed field fuse entry (R400): a spare column at a bit and word slot, or a spare row. -/
structure FuseEnt where
  m : Nat
  mac : Nat
  column : Bool
  row : Nat
  slot : Nat
  bit : Nat
  deriving DecidableEq, Repr

structure MemUnit where
  tables : Vector (List CeEntry) 9
  wback : List WriteBack
  deriving DecidableEq, Repr

/-- The store die's block map (R402 to R406): physical blocks moved from their home, free reserves, retired blocks, the
CRC-32C of written sectors, blocks marked for refresh and blocks whose physical block has failed with no reserve. -/
structure StoreMap where
  moved : List (Nat × Nat)
  free : List Nat
  retired : List Nat
  crc : List (Nat × Word)
  refresh : List Nat
  failed : List Nat
  seq : Nat
  deriving DecidableEq, Repr

/-! ### Wear, reserves and the log line (chapter 14) -/

/-- One event of the log line (R425), its SEQ given when it is written. -/
structure LogEvent where
  time : LTime
  cycle : Word
  code : Nat
  mode : Nat
  lstate : Nat
  fatal : Bool
  d0 : Word
  d1 : Word
  d2 : Word
  deriving DecidableEq, Repr

/-- A locked span: the SEQ of its fatal event (R430). -/
structure LockSpan where
  fatal : Word
  deriving DecidableEq, Repr

/-- A frozen record: its header event and the events before it, oldest first (R430). -/
structure FrozenRec where
  head : Word × LogEvent
  events : List (Word × LogEvent)
  deriving DecidableEq, Repr

structure LogUnit where
  buf : List LogEvent
  lostSince : Nat
  /-- word index of LOG_RDATA -/
  ridx : Nat
  /-- events since start by row of the table of R429 (R477) -/
  counts : Vector Nat 14
  /-- events since start by code, for the DTCs of R482 -/
  byCode : List (Nat × Nat)
  lostRise : Bool
  deriving DecidableEq, Repr

/-- A wear record (R424). -/
structure WearRec where
  hours : Nat
  tjMax : Int
  chafe : List Word
  rise : Nat
  offset : Nat
  rsv : Word
  planner : Word
  deriving DecidableEq, Repr

/-- The last 4,096 rise and fall times of one gate output in ns, newest first (R417). -/
structure EdgeWin where
  rises : List Nat
  falls : List Nat
  deriving DecidableEq, Repr

/-- A baseline of one gate output (R417): the mean rise and fall in ns, once fixed. -/
structure EdgeBase where
  rise : Nat
  fall : Nat
  fixed : Bool
  deriving DecidableEq, Repr

structure WearUnit where
  /-- sum and number of accepted windows of each monitor's running mean (R409) -/
  wins : Vector (List Int) 9
  /-- the largest edge-time rise and offset change seen (R424) -/
  rise : Nat
  offset : Nat
  tjMax : Int
  edges : Vector EdgeWin 37
  /-- gate outputs that need their reserve stage (R417, R289) -/
  needStage : BitVec 37
  needConv : List Nat
  needSense : List Nat
  /-- a converter in need, the reserve that shadows it, and for how many PWM periods (R421) -/
  shadow : List (Nat × Nat × Nat)
  /-- auto-zero corrections of the present 1,024 acquisitions of a converter: their sum and number (R418) -/
  zero : List (Nat × (Int × Nat))
  /-- the frame of the planned period change (R413) -/
  eolAt : Option Word
  deriving DecidableEq, Repr

/-! ### Images, keys and the boot record (chapter 18) -/

/-- A key slot (R505). -/
structure KeySlot where
  hash : BitVec 256
  prog : Bool
  revoked : Bool
  deriving DecidableEq, Repr

/-- The boot record (R501) with what UPD_BOOT and R515 read from it. -/
structure BootRec where
  slot : Nat
  cfg : Nat
  prevSlot : Nat
  prevCfg : Nat
  pendSlot : Bool
  pendCfg : Bool
  trial : Bool
  uncommitted : Bool
  superseded : Bool
  fellBack : Bool
  /-- the pending target is the previous slot and copy (R515) -/
  rollback : Bool
  /-- a trial has failed and the next start falls back (R514) -/
  failed : Bool
  deriving DecidableEq, Repr

/-- An image of the store die (R502): its state and its accepted blocks, each 4,096 bytes. -/
structure ImageStore where
  valid : Bool
  blocks : List (Nat × List Byte)
  deriving DecidableEq, Repr

/-- An open update session (R507). -/
structure Session where
  target : Nat
  sid : Byte
  n : Nat
  version : Word
  erased : Bool
  closing : Bool
  deriving DecidableEq, Repr

structure UpdUnit where
  session : Option Session
  /-- up to four blocks under assembly, oldest first: index and chunks (R508) -/
  assembling : List (Nat × List (Nat × List Byte))
  dups : Nat
  buffer : ImageStore
  /-- a block was accepted or refused since UPD_STAT was last read (R520) -/
  blkEvent : Bool
  /-- measured digests of the slot and copy in force (R512) -/
  slotDigest : BitVec 256
  cfgDigest : BitVec 256
  level : Nat
  deriving DecidableEq, Repr

/-! ### What survives a power-on reset: MRAM, the store die and the one-time-programmed cells -/

structure NvStore where
  bist : Option BistRec
  /-- the lane left operation by the power fail of R23 -/
  pfail : Bool
  repairs : List RepairEnt
  fuses : List FuseEnt
  eol : Bool
  bar1 : Bool
  bar2 : Bool
  wout : Bool
  hours : Nat
  hourly : List WearRec
  daily : List WearRec
  ring : List (Nat × (Word × LogEvent))
  seq : Word
  badSlots : List Nat
  locks : List LockSpan
  frozen : List (Nat × FrozenRec)
  frozenNext : Nat
  slots : Pair ImageStore
  cfgs : Pair ImageStore
  boot : BootRec
  keys : Vector KeySlot 4
  map : StoreMap
  /-- MRAM words with wrong stored bits, as in `Sram` -/
  mramFlips : List (Nat × BitVec 39)
  /-- copies of the factory baseline record that read as invalid (R411) -/
  baseBad : Nat
  /-- gate outputs, converters and sense paths on their reserves (R422), and baselines -/
  stages : BitVec 37
  convs : List (Nat × Nat)
  senses : List (Nat × Nat)
  base : Vector EdgeBase 37
  cfgDigest : BitVec 256
  /-- the digest of the configuration copy that the loader last wrote by migration (R513) -/
  migrated : Option (BitVec 256)
  deriving DecidableEq, Repr

/-! ### Host commands (chapter 16) -/

/-- A response to a host command before it is cut into segments (R474). -/
structure Response where
  opc : Byte
  tag : Byte
  result : Nat
  ready : Bool
  seq : Nat
  data : List Byte
  lay : Bool
  dst : Byte
  deriving DecidableEq, Repr

/-- A result that completes later (R475): its SEQ (0 before the first), its RESULT code, its data, and whether it is still unfetched. -/
structure LateResult where
  seq : Nat
  result : Nat
  data : List Byte
  fresh : Bool
  deriving DecidableEq, Repr

structure HostUnit where
  /-- SEQ of the last completed result, by opcode (R467) -/
  seqs : List (Nat × Nat)
  /-- responses that have not gone out, oldest first, each with its next segment -/
  out : List (Response × Nat)
  /-- a SUMMARY agreed and not yet captured (R477) -/
  summary : List HostCmd
  summarySeq : Nat
  record : List Byte
  attest : Option HostCmd
  frozen : Option HostCmd
  attestRes : LateResult
  frozenRes : LateResult
  openRes : LateResult
  closeRes : LateResult
  /-- MODE, CHANNEL and LOOPCMD requests whose response follows the applying frame -/
  waiting : List (HostCmd × BitVec 16)
  /-- STOP overrides by channel: the duty (R473) -/
  override : List (Nat × Int)
  /-- RELEASE commands that wait for their frame: channel mask and frame -/
  releases : List (BitVec 6 × BitVec 16)
  /-- SETVAL stagings that wait for frame FRAME - 1: register, value, frame -/
  setvals : List (Reg × Word × BitVec 16)
  deriving DecidableEq, Repr

/-! ### The Lay bus (chapter 15) -/

/-- What a buffer sends: KIND and payload. -/
structure LayContent where
  kind : Nat
  data : List Byte
  deriving DecidableEq, Repr

/-- A transmit buffer (R458, R459): the committed content that it sends, and the commits that wait, oldest first, each
with its release time. -/
structure LayBuf where
  now : Option LayContent
  next : List (LayContent × LTime)
  deriving DecidableEq, Repr

/-- An entry of the receive queue or of the agreed-command queue (R462, R464). -/
structure LayEntry where
  seq : BitVec 16
  data : List Byte
  deriving DecidableEq, Repr

structure LayUnit where
  /-- LAY_NOFS in full (R442) -/
  nofs : Int
  /-- when UNSYNC was entered or a reference frame was last accepted (R456) -/
  refAt : LTime
  /-- when the present state that holds content began (R459) -/
  heldAt : LTime
  /-- a cold-start frame has made the lane REF and its readback may still show a collision: SYNEV before it (R456) -/
  cold : Option Bool
  /-- consecutive accepted reference frames towards SYNC (R450) -/
  good : Nat
  /-- consecutive cycles with a missing reference frame -/
  miss : Nat
  /-- reference frames accepted in this cycle, by channel; frames of any type accepted, by channel -/
  refSeen : BitVec 2
  heard : BitVec 2
  /-- consecutive cycles without a reference frame of a lower rank (R455), and one accepted in this cycle -/
  lowerMiss : Nat
  lowerSeen : Bool
  /-- REF is left at the next cycle start (R455) -/
  leaveRef : Bool
  /-- a cold start waits after a collision (R457) -/
  coldWait : Bool
  /-- yarn counter and the grid position at which its slot began (R445) -/
  yarn : Vector (Nat × Nat) 2
  /-- cycles in a row in which a channel was silent while the other accepted reference frames (R465) -/
  quiet : Vector Nat 2
  everSync : Bool
  /-- good cycles towards the end of a network loss -/
  goodCycles : Nat
  buf : Vector LayBuf 66
  yq : List LayEntry
  yqSeq : BitVec 16
  /-- the latched entry of LAY_YQSTAT and the next word of LAY_YQDATA -/
  yqLatch : Option LayEntry
  yqIdx : Nat
  /-- the latched entry has been acknowledged by the read that latched it -/
  yqFresh : BitVec 16
  cq : List LayEntry
  cqSeq : BitVec 16
  cqFresh : BitVec 16
  /-- the last frame sent on each channel -/
  sent : Vector (List Byte) 2
  deriving DecidableEq, Repr

/-! ### CAN and GNSS (chapter 16) -/

/-- A message that the lane puts on its CAN port: PGN, destination and data. -/
structure CanMsg where
  pgn : Nat
  dst : Byte
  data : List Byte
  deriving DecidableEq, Repr

/-- An open transport session (R478). -/
structure TpSession where
  src : Byte
  pgn : BitVec 18
  size : Nat
  got : List (Nat × List Byte)
  deriving DecidableEq, Repr

structure CanUnit where
  /-- addresses claimed by other nodes -/
  claims : List (Byte × BitVec 64)
  /-- Cannot Claim has been sent (R479) -/
  cannot : Bool
  sessions : List TpSession
  /-- the codes of DM2, newest first (R482) -/
  dm2 : List Nat
  counter : Byte
  /-- the last status content (R481) -/
  status : List Byte
  /-- distance travelled, in 2^-31 of 20 m/s times 100 ms (R483) -/
  dist : Int
  /-- what the last step sent -/
  tx : List CanMsg
  deriving DecidableEq, Repr

structure GnssUnit where
  gga : Option Nmea
  rmc : Option Nmea
  vtg : Option Nmea
  /-- UTC of the last published epoch -/
  done : Option Nat
  /-- an edge that waits for its RMC, and the paired edge (R485) -/
  edge : Option LTime
  paired : Option LTime
  deriving DecidableEq, Repr

/-! ### Section outputs (chapter 17) -/

/-- The track unit of a copy (R486 to R489): position in 2^-16 mm, heading, the last speed, the last fix with its
heading and time, the last agreed FAGE, and how far validity has come. -/
structure TrackCopy where
  pe : Int
  pn : Int
  psi : BitVec 32
  vPrev : Int
  acc : Int
  fix : Option (Int × Int)
  psiFix : BitVec 32
  fageOld : Option Nat
  fixAt : LTime
  valid : Bool
  invalid : Nat
  deriving DecidableEq, Repr

/-- A boundary record (R490): Q in mm, the normal's angle and the target state. -/
structure BRec where
  e : Int
  n : Int
  alpha : BitVec 16
  on : Bool
  deriving DecidableEq, Repr

/-- One section output of a lane. -/
structure SectOut where
  cur : Option BRec
  next : Option BRec
  /-- the current record has been evaluated before -/
  seen : Bool
  /-- the committed edge: its time and level -/
  edge : Option (LTime × Bool)
  lastEdge : Option LTime
  deriving DecidableEq, Repr

structure SectUnit where
  out : Vector SectOut 48
  /-- the lane's valid line as the gates see it (R496) -/
  line : Bool
  deriving DecidableEq, Repr

/-! ### A lane and the module -/

/-- One lane: its registers and what its chapters give it beside them. -/
structure Lane where
  id : LaneId
  lt : LTime
  /-- registers held once per lane, and those held once per copy (R98) -/
  regs : RegFile
  cregs : Pair RegFile
  /-- completed result sets that no read has latched (R467), per lane and per copy -/
  pub : RegFile
  cpub : Pair RegFile
  /-- the word that the last register-read command returned (log 5) -/
  rdata : Word
  /-- the counter that the free values are applied to (log 1) -/
  free : Nat
  pwr : PowerUnit
  pace : PaceUnit
  helm : HelmUnit
  drv : DriveUnit
  pos : PosUnit
  comm : CommUnit
  loop : Pair LoopCopy
  brdg : BridgeUnit
  agr : AgreeUnit
  rj : RejoinUnit
  stop : Stopper
  mode : ModeUnit
  mem : MemUnit
  wear : WearUnit
  log : LogUnit
  nv : NvStore
  upd : UpdUnit
  host : HostUnit
  lay : LayUnit
  can : CanUnit
  gnss : GnssUnit
  track : Pair TrackCopy
  sect : SectUnit
  /-- the instruction of the test port (R541) -/
  jtag : JtagInstr
  deriving DecidableEq, Repr

/-- The module: three lanes and the queue of waiting commands, the oldest first. -/
structure State where
  a : Lane
  b : Lane
  c : Lane
  pending : List Instr
  deriving DecidableEq, Repr

/-- The lane a command names. -/
def State.lane (s : State) : LaneId → Lane
  | .a => s.a | .b => s.b | .c => s.c

/-- Replace a lane; its letter is fixed by its place (R95). -/
def State.setLane (s : State) (l : LaneId) (v : Lane) : State :=
  match l with
  | .a => { s with a := { v with id := .a } }
  | .b => { s with b := { v with id := .b } }
  | .c => { s with c := { v with id := .c } }

/-! ### Reset -/

def Sram.empty : Sram := ⟨[], []⟩

def HelmCopy.reset : HelmCopy :=
  { g := Vector.replicate 32 0, q := 1, ha := 0, hb := 0, pc := 0, stat := 0, epc := 0, cause := 0, badaddr := 0,
    vbase := 0x1000, scratch := 0, retired := 0, code := .empty, data := .empty, sbuf := [], hold := [],
    tally := 0xFFFF_FFFF_FFFF_FFFF, busErr := none }

def HelmUnit.reset : HelmUnit :=
  { run := .stopped, c := ⟨HelmCopy.reset, HelmCopy.reset⟩, depth := 0, win := 0, count := 0, lastHeld := false,
    frameSince := false, relErr := none, deferred := false, eretSince := false }

def Mailbox.reset : Mailbox :=
  { fill := Vector.replicate 16 0, pend := none, owned := none, next := Vector.replicate 32 0,
    done := Vector.replicate 32 0, latched := Vector.replicate 32 0 }

def DriveCopy.reset : DriveCopy :=
  { w := Vector.replicate 64 0, acc := Vector.replicate 4 0, p := Vector.replicate 8 0, m := Vector.replicate 8 0,
    f := 1, rot := 0, pc := 0, stack := [], loop := none, looped := false, ctx := Vector.replicate 6 ⟨[], []⟩, trm := 6, sel := 0,
    tj := 0, col := none, flags := 0, msg := 0, wake := 0, per := 0, prog := .empty, data := .empty, sbuf := [],
    hold := [], tally := 0xFFFF_FFFF_FFFF_FFFF, mbox := .reset }

def DriveUnit.reset : DriveUnit :=
  { run := .stopped, c := ⟨DriveCopy.reset, DriveCopy.reset⟩, win := 0, count := 0, lastHeld := false,
    urgent := false, overrun := false, periodStart := 0 }

def SpeedUnit.reset : SpeedUnit :=
  { eb := none, ebb := none, t0 := 0, cf0 := none, ends := [], edges := 0, good := false,
    fresh := false, zero := false, jumped := false, lastEdge := 0 }

def IncUnit.reset : IncUnit :=
  { a := false, b := false, i := false, extreme := 0, lastFwd := true, ref := 0, idxRaw := 0, missed := false,
    coins := [], speed := .reset }

def HallUnit.reset : HallUnit :=
  { lines := 0, count := 0, extreme := 0, lastFwd := true, skips := [], lastEdge := 0, edgeInPeriod := false,
    invalidSince := none, speed := .reset }

def PosUnit.reset : PosUnit :=
  { inc := Vector.replicate 8 .reset, hall := Vector.replicate 8 .reset,
    ssi := Vector.replicate 2 ⟨none, 0, none, 0, false⟩,
    echo := Vector.replicate 2 ⟨0x3E, 0, 0, 0, 0, 0, false, 0, 0, 0, 0, 0⟩ }

def CatchUnit.reset : CatchUnit := ⟨0, 0, 0, none, 0, 0, none⟩

def ChanUnit.reset : ChanUnit :=
  { fwd := true, stateAt := 0, agreeFrames := 0, catching := .reset, rawCatch := none, handPass := none, shortAt := 0,
    recatch := false, hxCount := 0, slowCount := 0, windLoss := false, sampled := false, presetFrom := 0,
    defAt := false }

def CommUnit.reset : CommUnit :=
  { ch := Vector.replicate 6 .reset, cmds := [], inputs := [], faults := [] }

def SlotUnit.reset : SlotUnit :=
  { i := 0, u := 0, ic := 0, v := 0, r := 0, y := 0, e := 0, d := 0, bare := 0, xPrev := 0, dPrev := 0, r1 := 0,
    r2 := 0, holding := false, manual := false, first := true, preset := none }

def LoopCopy.reset : LoopCopy :=
  { slot := Vector.replicate 24 .reset, gout := Vector.replicate 8 0, gwin := Vector.replicate 8 true,
    idem := Vector.replicate 6 0, dem := Vector.replicate 6 0, sigma := Vector.replicate 6 (0, 1),
    sigmaOld := Vector.replicate 6 (0, 1), stage := [], inject := ⟨false, [], 0, 0, 0, 0, 0⟩,
    cap := ⟨false, false, [], 0, 0⟩, cmds := [], presetSeq := 0 }

/-- The command set of a channel before the first release: FREE, every leg FLOAT (R201, R202). -/
def CmdSet.reset : CmdSet := ⟨7, 0, 0, 0⟩

def LegUnit.reset : LegUnit :=
  { rel := 0, high := false, low := false, owed := 0, carry := 0, full := 0, refresh := false, softHigh := false,
    softLow := false, blankHigh := false, blankLow := false, trips := [], toReserve := false, pulseEnded := false }

def ChanDrive.reset : ChanDrive :=
  { ready := none, taken := .reset, sector := 7, commutated := false, started := false, demag := false,
    smp := ⟨0, 0, 0, 0, 0, 0, false, false, 0, 0⟩, sampled := false, regen := false, real := 0, tripLeg := none }

def BridgeUnit.reset : BridgeUnit :=
  { leg := Vector.replicate 18 .reset, ch := Vector.replicate 6 .reset, locked := false, chopSince := 0, chopLow := 0,
    chopMa := 0, chopLatched := false, override := false, periodIdx := 0 }

def AgreeUnit.reset : AgreeUnit :=
  { vec := ⟨.reset, .reset, .reset⟩, chan := Vector.replicate 6 0, share := ⟨0, 0, 0⟩, rampK := 0,
    v := ⟨none, none, none⟩, vRelay := ⟨false, false, false⟩, voted := false, q0 := ⟨none, none, none⟩,
    sqw := ⟨[], [], []⟩, sqv := ⟨0, 0, 0⟩, loopOut := ⟨[], [], []⟩, vb := 0, vbValid := false,
    caught := Vector.replicate 6 0, xang := Vector.replicate 6 0, gone := [], goneLate := [], cutPassed := false,
    demands := [], limpReq := false, shadowOk := none, noAgr := [], history := [], copies := [], agreed := [],
    frameCmds := [], tx := [], layCorr := none, layAgreed := none }

def RejoinUnit.reset : RejoinUnit :=
  { crcRunN := 0, crcRunP := 0, offBad := 0, slew := 0, heard := ⟨none, none, none⟩, offs := ⟨none, none, none⟩,
    checksAt := 0, times := [], checking := false, waiting := false, frames := 0,
    blocks := [], mism := 0, rampFrames := 0, mem := [], restarted := false, tally := 0, noVote := 0,
    holding := false, demanded := false, restartAtRelease := false, wHolds := false }

def PairUnit.reset : PairUnit := ⟨false, none, false, false⟩

def Stopper.reset : Stopper :=
  { estop := .reset, guard := .reset, chalAt := 0, judged := true, quietSince := some 0,
    park := Vector.replicate 6 ⟨7, false, false, false⟩, hall := Vector.replicate 8 0, switches := true,
    testPassed := false }

def ModeUnit.reset : ModeUnit :=
  { pend := [], checks := false, selfCheck := false, limpStart := none, standSince := none, standDone := false,
    limpDone := false, mcount := 0, shut := .none, sleep := .none, stopped := [], heldWake := false,
    bistLogic := false, bistZero := false, bistSram := false, bistMram := false, bistFrom := 0, accepted := false,
    missing := false, released := 0, gtack := false }

def MemUnit.reset : MemUnit := ⟨Vector.replicate 9 [], []⟩

def EdgeBase.reset : EdgeBase := ⟨0, 0, false⟩

def WearUnit.reset : WearUnit :=
  { wins := Vector.replicate 9 [], rise := 0, offset := 0, tjMax := 0, edges := Vector.replicate 37 ⟨[], []⟩,
    needStage := 0, needConv := [], needSense := [], shadow := [], zero := [], eolAt := none }

def LogUnit.reset : LogUnit := ⟨[], 0, 0, Vector.replicate 14 0, [], false⟩

def ImageStore.empty : ImageStore := ⟨false, []⟩

/-- MRAM, store die and fuses as a part leaves manufacture: no record, no image, 32 free reserve blocks (log 3). -/
def NvStore.reset : NvStore :=
  { bist := none, pfail := false, repairs := [], fuses := [], eol := false, bar1 := false, bar2 := false, wout := false, hours := 0,
    hourly := [], daily := [], ring := [], seq := 0, badSlots := [], locks := [], frozen := [], frozenNext := 0,
    slots := ⟨.empty, .empty⟩, cfgs := ⟨.empty, .empty⟩,
    boot := ⟨0, 0, 0, 0, false, false, false, false, false, false, false, false⟩,
    keys := Vector.replicate 4 ⟨0, false, false⟩,
    map := ⟨[], (List.range 32).map (· + 2), [], [], [], [], 0⟩, mramFlips := [], baseBad := 0, stages := 0, convs := [], senses := [],
    base := Vector.replicate 37 .reset, cfgDigest := 0, migrated := none }

def UpdUnit.reset : UpdUnit := ⟨none, [], 0, .empty, false, 0, 0, 0⟩

def HostUnit.reset : HostUnit :=
  { seqs := [], out := [], summary := [], summarySeq := 0, record := [], attest := none, frozen := none,
    attestRes := ⟨0, 0, [], false⟩, frozenRes := ⟨0, 0, [], false⟩, openRes := ⟨0, 0, [], false⟩, closeRes := ⟨0, 0, [], false⟩,
    waiting := [], override := [], releases := [], setvals := [] }

def LayUnit.reset : LayUnit :=
  { nofs := 0, refAt := 0, heldAt := 0, cold := none, good := 0, miss := 0, refSeen := 0, heard := 0, lowerMiss := 0, lowerSeen := false,
    leaveRef := false, coldWait := false, yarn := Vector.replicate 2 (0, 0), quiet := Vector.replicate 2 0,
    everSync := false, goodCycles := 0, buf := Vector.replicate 66 ⟨none, []⟩, yq := [], yqSeq := 0, yqLatch := none,
    yqIdx := 0, yqFresh := 0, cq := [], cqSeq := 0, cqFresh := 0, sent := Vector.replicate 2 [] }

def CanUnit.reset : CanUnit := ⟨[], false, [], [], 0, [], 0, []⟩

def GnssUnit.reset : GnssUnit := ⟨none, none, none, none, none, none⟩

def TrackCopy.reset : TrackCopy := ⟨0, 0, 0, 0, 0, none, 0, none, 0, false, 0⟩

def SectOut.reset : SectOut := ⟨none, none, false, none, none⟩

def SectUnit.reset : SectUnit := ⟨Vector.replicate 48 .reset, false⟩

def PowerUnit.reset : PowerUnit :=
  { stage := .reset, phase := Vector.replicate 8 .off, jobs := [], heldDom := [], feed1 := 0, feed2 := 0, gone1 := false, gone2 := false }

def PaceUnit.reset : PaceUnit := ⟨none, none, none, 2, none, none, false⟩

/-- A lane in power-on reset: every register at its reset value (R11). -/
def Lane.reset (l : LaneId) : Lane :=
  { id := l, lt := 0, regs := [], cregs := ⟨[], []⟩, pub := [], cpub := ⟨[], []⟩, rdata := 0, free := 0,
    pwr := .reset, pace := .reset, helm := .reset, drv := .reset, pos := .reset, comm := .reset,
    loop := ⟨.reset, .reset⟩, brdg := .reset, agr := .reset, rj := .reset, stop := .reset, mode := .reset,
    mem := .reset, wear := .reset, log := .reset, nv := .reset, upd := .reset, host := .reset,
    lay := .reset, can := .reset, gnss := .reset, track := ⟨.reset, .reset⟩, sect := .reset, jtag := .bypass }

/-- The module right after reset: three lanes in power-on reset, no command waiting. -/
def State.reset : State := ⟨Lane.reset .a, Lane.reset .b, Lane.reset .c, []⟩

end Sys2Proof.Machine
end

