-- ==== Sys2Proof/Machine/Ops.lean ====
section
/-!
DEFINITION. The named operations that every meaning is written with: canonical sparse lists, bits of a word, reading
and setting the registers and fields of a lane, memory by the byte, result sets (R467), lane time, free values and
the log line's buffer (R425, R426).
-/

namespace Sys2Proof.Machine

open Sys2Proof

/-! ### Sparse lists in canonical form: keys rising, no entry at its default -/

/-- What a sparse list holds at a key: an unlisted key holds its default. -/
def sparseGet {β : Type} (d : Nat → β) : List (Nat × β) → Nat → β
  | [], a => d a
  | (k, v) :: t, a => if a = k then v else sparseGet d t a

/-- The list without a key. -/
def sparseDrop {β : Type} (l : List (Nat × β)) (a : Nat) : List (Nat × β) := l.filter (fun x => x.1 != a)

/-- An entry put before the first larger key. -/
def sparseIns {β : Type} : List (Nat × β) → Nat → β → List (Nat × β)
  | [], a, v => [(a, v)]
  | (k, w) :: t, a, v => if a < k then (a, v) :: (k, w) :: t else (k, w) :: sparseIns t a v

/-- Set a key; setting it to its default removes the entry. -/
def sparsePut {β : Type} [DecidableEq β] (d : Nat → β) (l : List (Nat × β)) (a : Nat) (v : β) : List (Nat × β) :=
  if v = d a then sparseDrop l a else sparseIns (sparseDrop l a) a v

/-- The canonical form: keys above `lo` rising, no entry at its default. -/
def sparseWfFrom {β : Type} [DecidableEq β] (d : Nat → β) : Option Nat → List (Nat × β) → Bool
  | _, [] => true
  | lo, (k, v) :: t =>
    (match lo with | none => true | some b => decide (b < k)) && !decide (v = d k) && sparseWfFrom d (some k) t

/-- The canonical form of a sparse list. -/
def sparseWf {β : Type} [DecidableEq β] (d : Nat → β) (l : List (Nat × β)) : Bool := sparseWfFrom d none l

/-! ### Vectors by a natural index -/

/-- An element; beyond the end, a default. -/
def vget {α : Type} {n : Nat} (v : Vector α n) (i : Nat) (d : α) : α := if h : i < n then v[i] else d

/-- Replace an element; beyond the end, nothing. -/
def vset {α : Type} {n : Nat} (v : Vector α n) (i : Nat) (x : α) : Vector α n := if h : i < n then v.set i x else v

/-- Change an element; beyond the end, nothing. -/
def vmod {α : Type} {n : Nat} (v : Vector α n) (i : Nat) (f : α → α) : Vector α n :=
  if h : i < n then v.set i (f v[i]) else v

/-! ### Bits -/

/-- Bits [hi:lo] of a word as a number. -/
def bits (w : Word) (hi lo : Nat) : Nat := (w.toNat >>> lo) % 2 ^ (hi + 1 - lo)

/-- A word with bits [hi:lo] replaced by the low bits of a number. -/
def setBits (w : Word) (hi lo v : Nat) : Word :=
  (w &&& ~~~(BitVec.ofNat 32 ((2 ^ (hi + 1 - lo) - 1) <<< lo))) |||
    BitVec.ofNat 32 ((v % 2 ^ (hi + 1 - lo)) <<< lo)

/-- One bit of a word. -/
def bit (w : Word) (n : Nat) : Bool := w.getLsbD n

/-- A flag as a number. -/
def b2n (b : Bool) : Nat := if b then 1 else 0

/-- Add without passing a limit. -/
def satAdd (a b lim : Nat) : Nat := if a + b ≤ lim then a + b else lim

/-- Clamp an integer. -/
def clampI (x lo hi : Int) : Int := if x < lo then lo else if hi < x then hi else x

/-- The word of a signed integer, modulo 2^32. -/
def wordI (x : Int) : Word := BitVec.ofInt 32 x

/-! ### Registers (R10, R98) -/

/-- A register of a register file: an unlisted one stands at its reset value (R11). -/
def rfGet (f : RegFile) (r : Reg) : Word := sparseGet regReset f r

/-- Set a register of a register file. -/
def rfPut (f : RegFile) (r : Reg) (v : Word) : RegFile := sparsePut regReset f r v

/-- A register that is held once per lane. -/
def Lane.rd (ln : Lane) (r : Reg) : Word := rfGet ln.regs r

/-- Set a register that is held once per lane. -/
def Lane.wr (ln : Lane) (r : Reg) (v : Word) : Lane := { ln with regs := rfPut ln.regs r v }

/-- A field of a register that is held once per lane. -/
def Lane.get (ln : Lane) (f : Field) : Nat := bits (ln.rd f.reg) f.hi f.lo

/-- Set a field. -/
def Lane.put (ln : Lane) (f : Field) (v : Nat) : Lane := ln.wr f.reg (setBits (ln.rd f.reg) f.hi f.lo v)

/-- Whether a one-bit field is 1. -/
def Lane.is (ln : Lane) (f : Field) : Bool := ln.get f != 0

/-- Set a one-bit field to a flag. -/
def Lane.putB (ln : Lane) (f : Field) (b : Bool) : Lane := ln.put f (b2n b)

/-- Set a one-bit field to 1. -/
def Lane.on (ln : Lane) (f : Field) : Lane := ln.put f 1

/-- Set a one-bit field to 1 where a condition holds. -/
def Lane.onIf (ln : Lane) (c : Bool) (f : Field) : Lane := if c then ln.on f else ln

/-- Count one up in a field, without passing its largest value. -/
def Lane.countUp (ln : Lane) (f : Field) : Lane := ln.put f (satAdd (ln.get f) 1 (2 ^ (f.hi + 1 - f.lo) - 1))

/-- A copy's instance of a per-copy register (R98). -/
def Lane.crd (ln : Lane) (c : Copy) (r : Reg) : Word := rfGet (ln.cregs.get c) r

/-- Set a copy's instance of a per-copy register. -/
def Lane.cwr (ln : Lane) (c : Copy) (r : Reg) (v : Word) : Lane :=
  match c with
  | .p => { ln with cregs := { ln.cregs with p := rfPut ln.cregs.p r v } }
  | .s => { ln with cregs := { ln.cregs with s := rfPut ln.cregs.s r v } }

/-- A field of a copy's instance. -/
def Lane.cget (ln : Lane) (c : Copy) (f : Field) : Nat := bits (ln.crd c f.reg) f.hi f.lo

/-- Set a field of a copy's instance. -/
def Lane.cput (ln : Lane) (c : Copy) (f : Field) (v : Nat) : Lane :=
  ln.cwr c f.reg (setBits (ln.crd c f.reg) f.hi f.lo v)

/-- Set a field in both copies' instances. -/
def Lane.cputBoth (ln : Lane) (f : Field) (v : Nat) : Lane := (ln.cput .p f v).cput .s f v

/-- What software's write of a value leaves in a register under the access codes of R10: RW bits take the value, W1C
bits are cleared by 1, W1S bits are set by 1, LK bits take it only before configuration lock, and the others keep
theirs. -/
def accessWrite (row : RegRow) (locked : Bool) (old v : Word) : Word :=
  let set := row.rw ||| (if locked then 0 else row.lk)
  ((old &&& ~~~set) ||| (v &&& set)) &&& ~~~(v &&& row.w1c) ||| (v &&& row.w1s)

/-- What a read of a register's stored value shows: write-only bits read 0 (R10). -/
def accessRead (row : RegRow) (v : Word) : Word := v &&& ~~~row.wo

/-! ### Result sets under the ready/sequence rule (R467, R125, R181, R257) -/

/-- A status word of a result set, completed once more: SEQ one higher, READY set, the rest given from bit 17 up. -/
def nextStat (old : Word) (rest : Nat) : Word :=
  BitVec.ofNat 32 ((bits old 15 0 + 1) % 65536 + 0x10000 + rest * 0x20000)

/-- Complete a result set: its status word and its data wait for the read that latches them. -/
def publishSet (pub : RegFile) (stat : Reg) (rest : Nat) (data : List (Reg × Word)) : RegFile :=
  data.foldl (fun f d => rfPut f d.1 d.2) (rfPut pub stat (nextStat (rfGet pub stat) rest))

/-- The bits of a status word that belong to the result set. -/
def rtaMask (stat : Reg) : Word :=
  match regRow stat with
  | some r => r.rta
  | none => 0

/-- Latch the most recently completed set into a register file: the status word's bits of the set and the data. -/
def latchRegs (regs pub : RegFile) (stat : Reg) (data : List Reg) : RegFile :=
  let m := rtaMask stat
  data.foldl (fun f r => rfPut f r (rfGet pub r))
    (rfPut regs stat ((rfGet regs stat &&& ~~~m) ||| (rfGet pub stat &&& m)))

/-- A completed set that has been acknowledged: READY is 0 from then on. -/
def ackPub (pub : RegFile) (stat : Reg) : RegFile := rfPut pub stat (setBits (rfGet pub stat) 16 16 0)

/-- Complete a result set of a lane. -/
def Lane.publish (ln : Lane) (stat : Reg) (rest : Nat) (data : List (Reg × Word)) : Lane :=
  { ln with pub := publishSet ln.pub stat rest data }

/-- Read the status word of a lane's result set: it latches the set, returns the word, and clears READY. -/
def Lane.latch (ln : Lane) (stat : Reg) (data : List Reg) : Word × Lane :=
  let regs := latchRegs ln.regs ln.pub stat data
  (rfGet regs stat, { ln with regs := regs, pub := ackPub ln.pub stat })

/-- Whether a completed set has not been acknowledged. -/
def Lane.ready (ln : Lane) (stat : Reg) : Bool := bit (rfGet ln.pub stat) 16

/-- The same for a result set held once per copy: both copies' instances are latched and acknowledged. -/
def Lane.latchBoth (ln : Lane) (stat : Reg) (data : List Reg) : Pair Word × Lane :=
  let rp := latchRegs ln.cregs.p ln.cpub.p stat data
  let rs := latchRegs ln.cregs.s ln.cpub.s stat data
  (⟨rfGet rp stat, rfGet rs stat⟩,
    { ln with cregs := ⟨rp, rs⟩, cpub := ⟨ackPub ln.cpub.p stat, ackPub ln.cpub.s stat⟩ })

/-! ### Memory by the byte (R64, R390) -/

/-- A byte of a memory: an unlisted byte reads 0. -/
def byteAt (m : List Host.Cell) (a : Nat) : Byte := sparseGet (fun _ => 0) m a

/-- Store a byte. -/
def putByte (m : List Host.Cell) (a : Nat) (v : Byte) : List Host.Cell := sparsePut (fun _ => 0) m a v

/-- The little-endian word whose lowest byte lies at `a` (R64). -/
def wordAt (m : List Host.Cell) (a : Nat) : Word :=
  byteAt m (a + 3) ++ byteAt m (a + 2) ++ byteAt m (a + 1) ++ byteAt m a

/-- Store the bytes of a word that the byte enables name, lowest address first. -/
def putWord (m : List Host.Cell) (a : Nat) (v : Word) (be : BitVec 4) : List Host.Cell :=
  let m0 := if be.getLsbD 0 then putByte m a (v.extractLsb' 0 8) else m
  let m1 := if be.getLsbD 1 then putByte m0 (a + 1) (v.extractLsb' 8 8) else m0
  let m2 := if be.getLsbD 2 then putByte m1 (a + 2) (v.extractLsb' 16 8) else m1
  if be.getLsbD 3 then putByte m2 (a + 3) (v.extractLsb' 24 8) else m2

/-- The canonical form of a memory. -/
def memWf (m : List Host.Cell) : Bool := sparseWf (fun _ => (0 : Byte)) m

/-- The bytes of a word, least significant first. -/
def wordBytes (w : Word) : List Byte := [w.extractLsb' 0 8, w.extractLsb' 8 8, w.extractLsb' 16 8, w.extractLsb' 24 8]

/-- The little-endian word of four bytes; missing bytes are 0. -/
def bytesWord (l : List Byte) : Word := l.getD 3 0 ++ l.getD 2 0 ++ l.getD 1 0 ++ l.getD 0 0

/-! ### Lane time (R9, R43) -/

/-- Lane-time units of a microsecond and of a millisecond (125 ps each). -/
def usUnits : Nat := 8000
def msUnits : Nat := 8000000

/-- Whether a lane time lies at or after another, modulo 2^64. -/
def timeLe (a b : LTime) : Bool := decide ((b - a).toNat < 2 ^ 63)

/-- Units from one lane time to a later one. -/
def since (now t : LTime) : Nat := (now - t).toNat

/-- A lane time so many units later. -/
def later (t : LTime) (n : Nat) : LTime := t + BitVec.ofNat 64 n

/-- Lane time is the event's, and never runs backwards (R43). -/
def Lane.at (ln : Lane) (t : LTime) : Lane := if timeLe ln.lt t then { ln with lt := t } else ln

/-- The modular comparison of R57: whether a count of 32 bits is at or after another. -/
def atOrAfter (x y : Word) : Bool := decide ((x - y).toNat < 2 ^ 31)

/-- How many frames a FRAME field lies ahead of TIME_FRAME (R57). -/
def framesAhead (frame : BitVec 16) (now : Word) : Nat := (frame - now.setWidth 16).toNat

/-- TIME_FRAME[15:0]. -/
def Lane.frame16 (ln : Lane) : BitVec 16 := (ln.rd TIME_FRAME).setWidth 16

/-! ### Free values -/

/-- Draw a value that the spec leaves open (log 1). -/
def Lane.draw (ln : Lane) : BitVec 64 × Lane := (Config.freeWord ln.id ln.free, { ln with free := ln.free + 1 })

/-! ### Modes and lane states -/

def modeInit : Nat := 1
def modeStarttest : Nat := 2
def modeStandby : Nat := 3
def modeArmed : Nat := 4
def modeService : Nat := 5
def modeRun3 : Nat := 6
def modeRun2 : Nat := 7
def modeLimp : Nat := 8
def modeSafestop : Nat := 9
def modeUpdate : Nat := 10
def modeSleep : Nat := 11
def modeShutdown : Nat := 12

def lsAbsent : Nat := 0
def lsRunning : Nat := 1
def lsWithdrawn : Nat := 2
def lsResync : Nat := 3
def lsShadow : Nat := 4
def lsRamp : Nat := 5
def lsBarred : Nat := 6

/-- The mode in force (R364). -/
def Lane.modeNow (ln : Lane) : Nat := ln.get LCTL_MODE_MODE

/-- The lane's own state. -/
def Lane.lstate (ln : Lane) : Nat := ln.get TALLY_STAT_LSTATE

/-- RUNNING or RAMP (R332). -/
def isRunning (st : Nat) : Bool := st == lsRunning || st == lsRamp

/-- Whether configuration lock has passed: the lane has been released from INIT (R12, R373). -/
def Lane.locked (ln : Lane) : Bool := ln.pwr.stage == .released

/-- The modes in which the loop unit evaluates and START is accepted (R221, R258). -/
def isDriveMode (m : Nat) : Bool :=
  m == modeArmed || m == modeService || m == modeRun3 || m == modeRun2 || m == modeLimp

/-! ### The log line's buffer (R425, R426, R429) -/

/-- The row of the table of R429 that an event code belongs to. -/
def eventRow (code : Nat) : Nat :=
  if code ≤ 0x03 then 0 else if code ≤ 0x13 then 1 else if code ≤ 0x22 then 2 else if code = 0x23 then 3
  else if code ≤ 0x35 then 4 else if code ≤ 0x42 then 5 else if code ≤ 0x53 then 6 else if code ≤ 0x63 then 7
  else if code = 0x64 then 8 else if code ≤ 0x75 then 9 else if code ≤ 0x84 then 10 else if code = 0x85 then 11
  else if code = 0x90 then 12 else 13

/-- Which events are fatal (R429). -/
def eventFatal (code : Nat) : Bool :=
  code == 0x02 || code == 0x23 || code == 0x63 || code == 0x64 || code == 0x85

/-- Place an event in the buffer in the order of the stamps, equal stamps in ascending code (R426). -/
def insertEvent (e : LogEvent) : List LogEvent → List LogEvent
  | [] => [e]
  | x :: t =>
    if timeLe x.time e.time && !(x.time == e.time && decide (e.code < x.code)) then x :: insertEvent e t
    else e :: x :: t

/-- Count an event by its code (R482). -/
def countCode (code : Nat) (l : List (Nat × Nat)) : List (Nat × Nat) :=
  sparsePut (fun _ => 0) l code (satAdd (sparseGet (fun _ => 0) l code) 1 0xFFFF)

/-- An event with its details reaches the log-line writer: into the 32-entry buffer, or lost and counted. -/
def Lane.logE (ln : Lane) (code : Nat) (d0 : Word) (d1 : Nat) (d2 : Word) : Lane :=
  let cyc := if ln.get LAY_STAT_NSTATE = 0 then 0xFFFF_FFFF else ln.rd LAY_CYCLE
  let e : LogEvent :=
    { time := ln.lt, cycle := cyc, code := code, mode := ln.modeNow, lstate := ln.lstate, fatal := eventFatal code,
      d0 := d0, d1 := BitVec.ofNat 32 d1, d2 := d2 }
  let row := eventRow code
  let cnt := vmod ln.log.counts row (fun n => satAdd n 1 0xFFFF)
  let log := { ln.log with counts := cnt, byCode := countCode code ln.log.byCode }
  if ln.log.buf.length < 32 then { ln with log := { log with buf := insertEvent e ln.log.buf } }
  else
    let ln := { ln with log := { log with lostSince := ln.log.lostSince + 1, lostRise := true } }
    ln.countUp LOG_LOST_LOST

/-- An event with a status register in DETAIL0. -/
def Lane.logR (ln : Lane) (code : Nat) (r : Reg) (d1 : Nat) : Lane := ln.logE code (ln.rd r) d1 0

/-! ### Commands on one lane -/

/-- A command whose effect is one lane's. -/
def onLane (s : State) (l : LaneId) (f : Lane → Lane) : Host.Outcome State Fault Refusal :=
  .next (s.setLane l (f (s.lane l)))

/-- A register-read command: the word read stands in `rdata` (log 5). -/
def readLane (s : State) (l : LaneId) (f : Lane → Word × Lane) : Host.Outcome State Fault Refusal :=
  onLane s l (fun ln => let r := f ln; { r.2 with rdata := r.1 })

end Sys2Proof.Machine
end

