-- ==== Sys2Proof/Machine/Crc.lean ====
section
/-!
DEFINITION. The cyclic codes of the part: the CRC-64 of the tallies (R301), the CRC-32C of packets and store-die
sectors (R312, R402), and the CRC-16 of Lay (R440).
-/

namespace Sys2Proof.Machine

open Sys2Proof

/-- The ECMA-182 polynomial (R301). -/
def tallyPoly : BitVec 64 := 0x42F0E1EBA9EA3693

/-- A tally at window open, and each half of the frame tally (R301, R327). -/
def tallyStart : BitVec 64 := 0xFFFFFFFFFFFFFFFF

/-- One bit enters a tally, most significant bit first, unreflected (R301). -/
def tallyBit (c : BitVec 64) (b : Bool) : BitVec 64 := if c.msb != b then (c <<< 1) ^^^ tallyPoly else c <<< 1

/-- The bits of an item from bit `k` - 1 down enter a tally. -/
def tallyBits (item : BitVec 96) : Nat → BitVec 64 → BitVec 64
  | 0, c => c
  | k + 1, c => tallyBits item k (tallyBit c (item.getLsbD k))

/-- A 96-bit item is folded into a tally (R301). -/
def tallyFold (c : BitVec 64) (item : BitVec 96) : BitVec 64 := tallyBits item 96 c

/-- The item of a store that is not held or of a held store (R301): its data in enabled lanes only. -/
def storeItem (held : Bool) (be : BitVec 4) (addr data : Word) : BitVec 96 :=
  let m (k : Nat) : BitVec 8 := if be.getLsbD k then data.extractLsb' (8 * k) 8 else 0
  (if held then (0x02 : BitVec 8) else 0x01) ++ be ++ (0 : BitVec 20) ++ addr ++ (m 3 ++ m 2 ++ m 1 ++ m 0)

/-- The item of a register at a close (R301, R303). -/
def regItem (k : Nat) (v : Acc) : BitVec 96 :=
  (0x10 : BitVec 8) ++ (0 : BitVec 4) ++ BitVec.ofNat 8 k ++ (0 : BitVec 4) ++ v

/-- One step of the reflected CRC-32C register. -/
def crc32cStep : Nat → BitVec 32 → BitVec 32
  | 0, c => c
  | k + 1, c => crc32cStep k (if c.getLsbD 0 then (c >>> 1) ^^^ 0x82F63B78 else c >>> 1)

/-- The CRC-32C of a byte string. -/
def crc32c (l : List Byte) : Word :=
  ~~~(l.foldl (fun c b => crc32cStep 8 (c ^^^ b.setWidth 32)) (0xFFFFFFFF : BitVec 32))

/-- One step of the CRC-16 of R440. -/
def crc16Step : Nat → BitVec 16 → BitVec 16
  | 0, c => c
  | k + 1, c => crc16Step k (if c.msb then (c <<< 1) ^^^ 0x1021 else c <<< 1)

/-- The CRC-16 of a byte string (R440): from 0xFFFF, most significant bit first. -/
def crc16 (l : List Byte) : BitVec 16 :=
  l.foldl (fun c b => crc16Step 8 (c ^^^ (b ++ (0 : BitVec 8)))) (0xFFFF : BitVec 16)

end Sys2Proof.Machine
end

