-- ==== Sys2Proof/Machine/Kernel.lean ====
section
/-!
DEFINITION. The arithmetic of the commutation kernel that the drive program carries (chapter 7, R198 to R202, R207,
R210 to R212, R215 to R217, R223, R224, R226): the drive pattern, leg and channel command words, the window shift, the
branch metrics, the observer, the phase advance and the catch. Duties and currents are Q1.31 integers, angles 65,536
units per electrical revolution, times 6.25 ns units unless stated; exact rationals where the spec rounds nowhere.
-/

namespace Sys2Proof.Machine

open Sys2Proof

/-! ### Sectors (R198, R199) -/

/-- Positive, negative and floating phase of a sector: 0 U, 1 V, 2 W. -/
def sectorRoles : Nat → Nat × Nat × Nat
  | 0 => (0, 1, 2)
  | 1 => (0, 2, 1)
  | 2 => (1, 2, 0)
  | 3 => (1, 0, 2)
  | 4 => (2, 0, 1)
  | _ => (2, 1, 0)

/-- With DIRINV legs V and W exchange roles (R199). -/
def swapVW (inv : Bool) (p : Nat) : Nat := if inv && p == 1 then 2 else if inv && p == 2 then 1 else p

/-- The roles of a sector under DIRINV. -/
def roles (inv : Bool) (k : Nat) : Nat × Nat × Nat :=
  let r := sectorRoles k
  (swapVW inv r.1, swapVW inv r.2.1, swapVW inv r.2.2)

/-! ### Command words (R201, R202) -/

def legMode (w : Word) : Nat := bits w 1 0
def legDuty (w : Word) : Nat := bits w 17 2
def legShift (w : Word) : Int := (w.extractLsb' 18 14 : BitVec 14).toInt

/-- A leg command word. -/
def legWord (mode duty : Nat) (shift : Int) : Word :=
  BitVec.ofNat 32 (mode % 4 + 4 * (duty % 65536)) ||| ((BitVec.ofInt 14 shift).setWidth 32 <<< 18)

def chanSector (w : Word) : Nat := bits w 2 0
def chanNext (w : Word) : Bool := bit w 3
def chanDirn (w : Word) : Bool := bit w 4
def chanAvalid (w : Word) : Bool := bit w 5
def chanSmp (w : Word) : Bool := bit w 6
def chanCt (w : Word) : Nat := bits w 19 7
def chanAngle (w : Word) : Nat := bits w 31 20

/-! ### Duty (R200) and window shift (R207) -/

/-- A duty in Q1.32 of the period as a leg DUTY in 2^-16, rounded half-up (log 13). -/
def dutyOf (n : Int) : Nat := (clampI ((n + 32768) / 65536) 0 65535).toNat

/-- The leg duties of a vector duty (R200): positive and negative leg. -/
def legDuties (d : Int) : Nat × Nat :=
  let one : Int := 2147483648
  let top : Int := 2 * 992 * one / 1000
  if 1000 * (d.natAbs : Int) ≤ 984 * one then (dutyOf (one + d), dutyOf (one - d))
  else if 0 < d then (dutyOf top, dutyOf (max 0 (top - 2 * d)))
  else (dutyOf (max 0 (top + 2 * d)), dutyOf top)

/-- The shift of the active legs (R207): SHIFT of the positive and of the negative leg, SMP, NARROW. -/
def windowShift (d : Int) (period dead : Nat) (odd : Bool) : Int × Int × Bool × Bool :=
  let a : Int := (d.natAbs : Int) * period
  let two32 : Int := 4294967296
  if two32 * (192 + dead) ≤ a then (0, 0, true, false)
  else
    let del : Int := (two32 * (192 + dead) - a + (2 * two32 - 1)) / (2 * two32) + 1
    if two32 * (2 * del + dead) ≤ a then
      let s := if (odd == decide (d < 0)) then -del else del
      (s, -s, true, false)
    else (0, 0, false, true)

/-- The leg commands that the kernel writes for a vector duty in a sector, by phase (R198, R200, R207). -/
def kernelLegs (inv : Bool) (k : Nat) (d : Int) (period dead : Nat) (odd : Bool) : Vector Word 3 :=
  let (p, n, _) := roles inv k
  let (dp, dn) := legDuties d
  let (sp, sn, _, _) := windowShift d period dead odd
  Vector.ofFn (fun i : Fin 3 => if i.val = p then legWord 1 dp sp else if i.val = n then legWord 1 dn sn else 0)

/-! ### Back-EMF and branch metrics (R210 to R212) -/

/-- The back-EMF estimate at a sample (R210), before its filter: line voltage, 2R, 2L and the current's change over the
time between the samples, in consistent units. -/
def emfEstimate (vl r l ich ichPrev dt : Rat) : Rat :=
  let e := vl - 2 * r * ich - (if dt = 0 then 0 else 2 * l * (ich - ichPrev) / dt)
  (if e < 0 then -e else e) / 2

/-- The filter of the estimate, once per valid sample. -/
def emfFilter (ef e taue : Rat) : Rat := if taue = 0 then e else ef + (e - ef) / taue

/-- x of R210. -/
def emfRatio (vf ef : Rat) : Rat :=
  if ef = 0 then 0 else let x := vf / ef; if x < -2 then -2 else if 2 < x then 2 else x

/-- phi of R211 in units of 2^-16 for a predicted angle in sector k. -/
def phiOf (theta k : Nat) : Int :=
  let d : Int := ((theta + 65536 * 6 - (65536 * k / 6) + 32768) % 65536 : Nat)
  clampI (6 * (d - 32768)) 0 65536

/-- x_k of R211, in units of 2^-16: the floating phase is 0 U, 1 V, 2 W. -/
def xOf (phase k : Nat) (phi : Int) : Int :=
  match (k + 6 - 2 * phase) % 6 with
  | 0 => 65536
  | 1 => 65536
  | 2 => 65536 - 2 * phi
  | 3 => -65536
  | 4 => -65536
  | _ => 2 * phi - 65536

/-- EM of R212: x and x_k in units of 2^-16, the voltage term rounded to nearest. -/
def emission (wv wh : Nat) (volt : Bool) (x xk : Int) (hall : Bool) : Nat :=
  (if volt then ((8192 * wv * (x - xk) ^ 2 + 4294967296) / 8589934592).toNat else 0) + (if hall then 256 * wh else 0)

/-- round(WT * -log2(n/d)) for 0 < n <= d, exactly: the halves of the bit length of (d/n)^(2 WT), rounded half-up. -/
def log2Cost (wt n d : Nat) : Nat := (Nat.log2 (d ^ (2 * wt) / n ^ (2 * wt)) + 1) / 2

/-- r of R212 as a fraction of 2^16: |w| T over 60 degrees, from 2^-8 to 2^-1. -/
def motionRate (q16 : Nat) : Nat := if q16 < 256 then 256 else if 32768 < q16 then 32768 else q16

/-- TC of R212: stay, along the motion, against it. -/
def transitionCost (wt ret q16 : Nat) : Nat × Nat × Nat :=
  let r := motionRate q16
  (log2Cost wt (65536 - r) 65536, log2Cost wt r 65536, 256 * ret)

/-! ### Observer and advance (R215 to R217) -/

/-- The angle clamped to the trellis sector (R215 step 2), 65,536 units per revolution. -/
def clampSector (theta sBest : Nat) : Nat :=
  let base := 65536 * sBest / 6
  let d : Int := ((theta + 65536 - base % 65536 + 32768) % 65536 : Nat)
  (base + (clampI (d - 32768) 0 (65536 / 6 - 1)).toNat) % 65536

/-- The hall estimate of R217 before its clamp. -/
def hallAngle (sh : Nat) (fwd : Bool) (moved : Int) : Int := 65536 * sh / 6 + (if fwd then 0 else 65536 / 6) + moved

/-- The phase advance of R216, in units of 1/8 degree: the table's entries and the speed in 2^-16 of rated. -/
def phaseAdvance (tab : List Nat) (speed : Nat) : Rat :=
  let j := speed / 4096
  if 31 ≤ j then (tab.getD 31 0 : Nat)
  else
    let a : Rat := (tab.getD j 0 : Nat)
    let b : Rat := (tab.getD (j + 1) 0 : Nat)
    a + (b - a) * ((speed % 4096 : Nat) : Rat) / 4096

/-- The sector of an angle (R215 step 5). -/
def angleSector (psi : Nat) : Nat := psi * 6 / 65536 % 6

/-! ### The regulator of ALIGN and RAMP (R226) -/

/-- The duty and the next sum, in consistent units. -/
def alignDuty (r l t iStar ich sum vbus : Rat) : Rat × Rat :=
  let sum' := sum + r / 2 * (iStar - ich)
  let d := if vbus = 0 ∨ t = 0 then 0 else (r * iStar + l / (2 * t) * (iStar - ich) + sum') / vbus
  let c : Rat := 992 / 1000
  (if d < -c then -c else if c < d then c else d, sum')

/-! ### Catch (R223, R224) -/

/-- The speed from zero crossings, in units of 2^-15 of rated: crossings, lane-time units between the first and the
last, rated speed in 1/16 Hz. Rounded to nearest (log 13). -/
def crossingSpeed (crossings dt rated : Nat) : Int :=
  let d := 6 * dt * rated
  if d = 0 then 0 else ((2 * ((crossings - 1) * 16 * 32768 * 8000000000) + d) / (2 * d) : Nat)

/-- The speed from the peak line amplitude (Q1.31 of 80 V) over the square root of 3 times KE (2^-16 of 80 V). -/
def amplitudeSpeed (peak ke : Nat) : Int :=
  let d := 2147483648 * 17320508 * ke
  if d = 0 then 0 else ((2 * (peak * 65536 * 32768 * 10000000) + d) / (2 * d) : Nat)

/-- The angle of the line-voltage vector, 65,536 per revolution (R223): sector 0 begins 60 degrees before U's peak. -/
def vectorAngle (u v w : Int) : BitVec 16 :=
  let a := Config.atan2 ((v - w) * 17320508) ((2 * u - v - w) * 10000000)
  (a + 0x2AAAAAAB).extractLsb' 16 16

/-- CLASS of an agreed speed (R224): 2^-15 of rated, FLOOR and THRESH in 0.1 %. -/
def catchClass (fwd : Bool) (speed : Int) (floor thresh : Nat) : Nat :=
  let v := if fwd then speed else -speed
  let f : Int := floor * 32768
  if 1000 * (speed.natAbs : Int) < f then 0
  else if v < 0 then 3
  else if 1000 * v < thresh * 32768 then 1
  else 2

end Sys2Proof.Machine
end

