-- ==== Sys2Proof/Machine/Log.lean ====
section
/-!
DEFINITION. The log line and the frozen records (chapter 14, R425 to R433): the writer, the freeze, and the reads.
-/

namespace Sys2Proof.Machine

open Sys2Proof

/-! ### Lists keyed by a number -/

/-- The entry under a key. -/
def keyGet {β : Type} : List (Nat × β) → Nat → Option β
  | [], _ => none
  | (k, v) :: t, a => if a = k then some v else keyGet t a

/-- Set the entry under a key, keys rising. -/
def keyPut {β : Type} : List (Nat × β) → Nat → β → List (Nat × β)
  | [], a, v => [(a, v)]
  | (k, w) :: t, a, v => if a < k then (a, v) :: (k, w) :: t else if a = k then (a, v) :: t else (k, w) :: keyPut t a v

/-- Drop the entry under a key. -/
def keyDrop {β : Type} (l : List (Nat × β)) (a : Nat) : List (Nat × β) := l.filter (fun x => x.1 != a)

/-! ### Uncorrectable errors of MRAM words (R396) -/

/-- A word reads as invalid to its user: UE is set, with its memory and address, and counted (R396). -/
def Lane.noteUe (ln : Lane) (m wadr : Nat) : Lane :=
  let ln := (ln.on MEM_STAT_UE).put MEM_STAT_UEMEM m
  (ln.wr MEM_UEADR (BitVec.ofNat 32 wadr)).countUp (MEM_CECNT_UECNT m)

/-! ### The writer (R425, R426, R430, R431) -/

/-- The slot of the ring that a SEQ takes. -/
def ringSlot (seq : Word) : Nat := seq.toNat % 4096

/-- Whether a slot belongs to a locked span: the fatal event and the 512 before it (R430). -/
def spanHolds (k : LockSpan) (slot : Nat) : Bool := (ringSlot k.fatal + 4096 - slot) % 4096 ≤ 512

/-- Show the state of the ring and of the frozen records (R428, LOG_FSTAT). -/
def Lane.showLog (ln : Lane) : Lane :=
  let valid := ln.nv.frozen.foldl (fun n x => n + 2 ^ x.1) 0
  let ln := ln.wr LOG_HEAD ln.nv.seq
  ((ln.put LOG_FSTAT_VALIDR valid).put LOG_FSTAT_NEXT ln.nv.frozenNext).put LOG_FSTAT_LOCKS ln.nv.locks.length

/-- Lock the span of a fatal event, or count it as not frozen (R430, R431). -/
def Lane.lockSpan (ln : Lane) (seq : Word) : Lane :=
  if ln.nv.locks.length < 2 then { ln with nv := { ln.nv with locks := ln.nv.locks ++ [⟨seq⟩] } }
  else
    let ln := { ln with log := { ln.log with lostRise := true } }
    ln.countUp LOG_FSTAT_MISSN

/-- One event goes into MRAM under the next SEQ; in a locked slot it is lost and counted (R431). -/
def Lane.writeEvent (ln : Lane) (e : LogEvent) : Lane :=
  let seq := ln.nv.seq + 1
  let slot := ringSlot seq
  if ln.nv.locks.any (fun k => spanHolds k slot) then
    let ln := { ln with log := { ln.log with lostRise := true } }
    ln.countUp LOG_LOST_LOST
  else
    let ln := { ln with nv := { ln.nv with
      ring := keyPut ln.nv.ring slot (seq, e), seq := seq, badSlots := ln.nv.badSlots.filter (· != slot) } }
    let ln := if e.fatal then ln.lockSpan seq else ln
    ln.showLog

/-- The log-overflow event that follows as soon as a buffer slot is free (R426). -/
def Lane.overflowEvent (ln : Lane) : Lane :=
  if ln.log.lostSince = 0 then ln
  else
    let n := ln.log.lostSince
    ({ ln with log := { ln.log with lostSince := 0 } }).logE 0x90 (BitVec.ofNat 32 n) 0 0

/-- The writer takes the oldest event of the buffer. -/
def Lane.writeOldest (ln : Lane) : Lane :=
  match ln.log.buf with
  | [] => ln
  | e :: rest => (({ ln with log := { ln.log with buf := rest } }).writeEvent e).overflowEvent

/-- The writer takes every event of the buffer in order (R23, R379). -/
def Lane.flushLog (ln : Lane) : Lane := (List.range (ln.log.buf.length + 1)).foldl (fun ln _ => ln.writeOldest) ln

/-! ### Frozen records (R430) -/

/-- The events before a fatal event that a record takes, oldest first, as far as the ring holds them. -/
def eventsBefore (ring : List (Nat × (Word × LogEvent))) (seq : Word) : List (Word × LogEvent) :=
  (List.range 512).filterMap (fun k =>
    let q := seq - BitVec.ofNat 32 (512 - k)
    match keyGet ring (ringSlot q) with
    | some x => if x.1 = q then some x else none
    | none => none)

/-- The oldest locked span is copied to the next record slot and its lock ends (R430). -/
def Lane.copyFrozen (ln : Lane) : Lane :=
  match ln.nv.locks with
  | [] => ln
  | k :: rest =>
    let nv := match keyGet ln.nv.ring (ringSlot k.fatal) with
      | some x =>
        { ln.nv with
          frozen := keyPut ln.nv.frozen ln.nv.frozenNext ⟨x, eventsBefore ln.nv.ring k.fatal⟩
          frozenNext := (ln.nv.frozenNext + 1) % 8, locks := rest }
      | none => { ln.nv with locks := rest }
    ({ ln with nv := nv }).showLog

/-! ### Reads (R425, R428, R432) -/

/-- The eight words of an event (R425). -/
def eventWords (x : Word × LogEvent) : List Word :=
  let e := x.2
  [x.1, e.time.extractLsb' 0 32, e.time.extractLsb' 32 32, e.cycle,
    BitVec.ofNat 32 (e.code + 0x10000 * e.mode + 0x100000 * e.lstate + 0x10000000 * b2n e.fatal), e.d0, e.d1, e.d2]

/-- The event that a SEQ names, where the ring still holds it. -/
def Lane.eventAt (ln : Lane) (seq : Word) : Option (Word × LogEvent) :=
  match keyGet ln.nv.ring (ringSlot seq) with
  | some x => if x.1 = seq then some x else none
  | none => none

/-- A word of an event: 0 for a SEQ the ring no longer holds, CODE 0xFFFE for a slot that reads as invalid (R428). -/
def Lane.eventWord (ln : Lane) (seq : Word) (k : Nat) : Word :=
  match ln.eventAt seq with
  | none => 0
  | some x =>
    if ln.nv.badSlots.contains (ringSlot seq) then (if k = 4 then 0xFFFE else 0) else (eventWords x).getD k 0

/-- A read of LOG_RDATA: the word of the selected event, and the word index one on, modulo 8. -/
def Lane.readRdata (ln : Lane) : Word × Lane :=
  let seq := ln.rd LOG_RSEL
  let w := ln.eventWord seq ln.log.ridx
  let ln := { ln with log := { ln.log with ridx := (ln.log.ridx + 1) % 8 } }
  (w, if ln.nv.badSlots.contains (ringSlot seq) && (ln.eventAt seq).isSome then ln.noteUe 8 (ringSlot seq) else ln)

/-- A write of LOG_RSEL resets the word index. -/
def Lane.writeRsel (ln : Lane) (v : Word) : Lane := ({ ln with log := { ln.log with ridx := 0 } }).wr LOG_RSEL v

/-- The words of a frozen record (R430): the header sector with the fatal event and the record header, 1,024 words, then
512 events of 8 words. The record header's content is not given; its words read 0 here (log 14). -/
def frozenWord (r : FrozenRec) (w : Nat) : Word :=
  if w < 1024 then (eventWords r.head).getD w 0
  else
    let k := w - 1024
    let skip := 512 - r.events.length
    if k / 8 < skip then 0
    else match r.events[k / 8 - skip]? with
      | some e => (eventWords e).getD (k % 8) 0
      | none => 0

/-- A read of LOG_FDATA: the selected word, and the word index one on (R432). A sector of the record that fails its
check returns 0 and sets RERR: the sectors of a record are those of its block, 392 + k (R500). -/
def Lane.readFdata (ln : Lane) : Word × Lane :=
  let rec' := ln.get LOG_FSEL_REC
  let w := ln.get LOG_FSEL_WORD
  let bad := ln.nv.map.failed.contains (392 + rec')
  let v := match keyGet ln.nv.frozen rec' with
    | some r => if bad then 0 else frozenWord r w
    | none => 0
  let ln := ln.put LOG_FSEL_WORD (w + 1)
  (v, if bad then ln.on LOG_FSTAT_RERR else ln)

/-- Interrupt source 18 (R433). -/
def Lane.irqWear (ln : Lane) : Bool :=
  ln.is WEAR_STAT_WOUT ||
  (ln.is WEAR_IEN_IPLAN && (ln.is WEAR_STAT_PLANP || ln.is WEAR_STAT_BARW)) ||
  (ln.is WEAR_IEN_IRSV && (ln.is WEAR_STAT_RSVEV || ln.is WEAR_STAT_NORES)) ||
  (ln.is WEAR_IEN_ILOG && (ln.is LOG_FSTAT_RERR || ln.log.lostRise))

/-! ### MRAM at a start -/

/-- What MRAM, the store die and the fuses hold appears in the registers at a start (R415, R422, R428, R501, R505). -/
def Lane.showNv (ln : Lane) : Lane :=
  let nv := ln.nv
  let ln := ln.showLog
  let ln := ((ln.put MEM_STAT_PEND nv.repairs.length).put MEM_SDSTAT_RESFREE nv.map.free.length).put MEM_SDSTAT_RETIRED
    nv.map.retired.length
  let ln := ((ln.putB WEAR_STAT_BAR1 nv.bar1).putB WEAR_STAT_BAR2 nv.bar2).putB WEAR_STAT_WOUT nv.wout
  let b := nv.boot
  let ln := (((ln.put UPD_BOOT_SLOT b.slot).put UPD_BOOT_CFG b.cfg).putB UPD_BOOT_TRIAL b.trial).putB UPD_BOOT_PENDI b.pendSlot
  let ln := ((ln.putB UPD_BOOT_PENDC b.pendCfg).putB UPD_BOOT_UNCOM b.uncommitted).putB UPD_BOOT_FBACK b.fellBack
  let prog := (List.range 4).foldl (fun n k => n + 2 ^ k * b2n (vget nv.keys k ⟨0, false, false⟩).prog) 0
  let rev := (List.range 4).foldl (fun n k => n + 2 ^ k * b2n (vget nv.keys k ⟨0, false, false⟩).revoked) 0
  (ln.put UPD_KEYS_PROG prog).put UPD_KEYS_REV rev

/-! ### The commands of the table -/

/-- The log-line writer writes a buffered event (R426). -/
def execLogEventWrite (l : LaneId) (s : State) : Host.Outcome State Fault Refusal :=
  onLane s l (fun ln => ln.writeOldest)

/-- A locked span has been copied to its record slot (R430). -/
def execFrozenRecordCopy (l : LaneId) (s : State) : Host.Outcome State Fault Refusal :=
  onLane s l (fun ln => ln.copyFrozen)

/-- A released store to LOG_USER writes a user event (R427). -/
def execLogUser (l : LaneId) (v : Word) (s : State) : Host.Outcome State Fault Refusal :=
  onLane s l (fun ln => ln.logE 0xF0 v 0 0)

/-- LOG_RSEL is written (R425). -/
def execLogRselWrite (l : LaneId) (v : Word) (s : State) : Host.Outcome State Fault Refusal :=
  onLane s l (fun ln => ln.writeRsel v)

/-- LOG_RDATA is read (R425, R428). -/
def execLogRdataRead (l : LaneId) (s : State) : Host.Outcome State Fault Refusal :=
  readLane s l (fun ln => ln.readRdata)

/-- LOG_FDATA is read (R432). -/
def execLogFdataRead (l : LaneId) (s : State) : Host.Outcome State Fault Refusal :=
  readLane s l (fun ln => ln.readFdata)

end Sys2Proof.Machine
end

