-- ==== Sys2Proof/Machine/Start.lean ====
section
/-!
DEFINITION. Switching of the power domains (R31, R32), the judging of the BIST record (R374), and the restart of a
lane into INIT (R386, R511, R551).
-/

namespace Sys2Proof.Machine

open Sys2Proof

/-! ### Engines at rest -/

/-- The hold queues of the helm pair are emptied (R119, R129). -/
def Lane.dropHelmHold (ln : Lane) : Lane :=
  { ln with helm := { ln.helm with c := ln.helm.c.map (fun h => { h with hold := [] }), lastHeld := false } }

/-- The hold queues of the drive pair are emptied (R151, R162). -/
def Lane.dropDriveHold (ln : Lane) : Lane :=
  { ln with drv := { ln.drv with c := ln.drv.c.map (fun d => { d with hold := [] }), lastHeld := false } }

/-- Both engine pairs stop issuing and their hold queues are emptied (R330). -/
def Lane.stopEngines (ln : Lane) : Lane :=
  let ln := (ln.dropHelmHold).dropDriveHold
  let ln := { ln with helm := { ln.helm with run := .stopped }, drv := { ln.drv with run := .stopped } }
  (ln.put LCTL_DSTAT_RUN 0).put LCTL_DSTAT_WAIT 0

/-- A helm copy at its restart (R96): registers, predicates and accumulators 0, pc 0; its memories stay. -/
def HelmCopy.restart (h : HelmCopy) : HelmCopy := { HelmCopy.reset with code := h.code, data := h.data }

/-- A drive copy at its restart (R159): everything 0 or empty, DC_TRM 6; its memories stay. -/
def DriveCopy.restart (d : DriveCopy) : DriveCopy := { DriveCopy.reset with prog := d.prog, data := d.data }

/-- The helm pair restarts at 0x0000_0000 (R96). -/
def Lane.restartHelm (ln : Lane) : Lane :=
  { ln with helm := { HelmUnit.reset with run := .running, c := ln.helm.c.map HelmCopy.restart } }.put LCTL_HFAULT_DEPTH 0

/-- The drive pair restarts at bundle 0 at its next PWM period start (R159). -/
def Lane.restartDrive (ln : Lane) : Lane :=
  let ln := { ln with drv := { DriveUnit.reset with run := .armed, c := ln.drv.c.map DriveCopy.restart } }
  ((ln.on LCTL_DSTAT_RUN).put LCTL_MBSTAT_PEND 0).put LCTL_MBSTAT_URGP 0

/-- Both engine pairs restart (R334). -/
def Lane.restartEngines (ln : Lane) : Lane := ln.restartHelm.restartDrive

/-! ### Permit outputs (R30, R346) -/

/-- The two permit outputs follow their conditions: on while all of them hold, off otherwise. -/
def Lane.permits (ln : Lane) : Lane :=
  let iso := ln.get PWR_DOMSTAT_ISO % 4 != 0
  let ok := !ln.is STOP_STAT_REACT && !ln.is STOP_STAT_HBL && ln.is STOP_STAT_GTOK && !ln.is STOP_STAT_SLOSS &&
    ln.stop.switches && !iso
  let m := ln.modeNow
  let drive := m == modeArmed || m == modeService || m == modeRun3 || m == modeRun2 || m == modeLimp
  (ln.putB STOP_STAT_PINH (ok && (m == modeRun3 || m == modeRun2) && ln.lstate == lsRunning)).putB STOP_STAT_PBRK
    (ok && drive && isRunning ln.lstate)

/-! ### Domains -/

/-- Show the domains' state in PWR_DOMSTAT: ON while not off or falling or rising, ISO from the clamp to its release. -/
def Lane.showDomains (ln : Lane) : Lane :=
  let w := (List.range 8).foldl (fun (acc : Nat × Nat) n =>
    match vget ln.pwr.phase n .on with
    | .on | .quieting => (acc.1 + 2 ^ n, acc.2)
    | .falling => (acc.1 + 2 ^ n, acc.2 + 2 ^ n)
    | .off | .rising => (acc.1, acc.2 + 2 ^ n)) (0, 0)
  (((ln.put PWR_DOMSTAT_ON w.1).put PWR_DOMSTAT_ISO w.2).putB PWR_DOMSTAT_BUSY (!ln.pwr.jobs.isEmpty)).permits

/-- Put the domains of a job into a phase. -/
def Lane.setPhase (ln : Lane) (doms : List Nat) (ph : DomPhase) : Lane :=
  { ln with pwr := { ln.pwr with phase := doms.foldl (fun v n => vset v n ph) ln.pwr.phase } }

/-- Whether every domain of a job stands in a phase. -/
def Lane.allPhase (ln : Lane) (doms : List Nat) (ph : DomPhase) : Bool :=
  doms.all (fun n => vget ln.pwr.phase n .on == ph)

/-- Begin the switching at the head of the sequence: the quiet request, or the closing of the power switch (R31).
A job whose domains already stand where it leads is passed over. -/
def beginJobs : Nat → Lane → Lane
  | 0, ln => ln
  | k + 1, ln =>
    match ln.pwr.jobs with
    | [] => ln
    | j :: rest =>
      let there := if j.up then ln.allPhase j.doms .on else ln.allPhase j.doms .off
      if there then beginJobs k { ln with pwr := { ln.pwr with jobs := rest } }
      else if j.up then ln.setPhase j.doms .rising
      else ln.setPhase (j.doms.filter (fun n => vget ln.pwr.phase n .on != .falling)) .quieting

/-- Start a switch sequence. -/
def Lane.startJobs (ln : Lane) (js : List DomJob) : Lane :=
  (beginJobs 8 { ln with pwr := { ln.pwr with jobs := js } }).showDomains

/-- The power-up order of R32: 6, 7, 5, 8, then 1 with 2, then 3 with 4. -/
def upOrder : List (List Nat) := [[5], [6], [4], [7], [0, 1], [2, 3]]

/-- The whole power-up of R373. -/
def powerUpJobs : List DomJob := upOrder.map (fun d => ⟨d, true⟩)

/-! ### Start-up -/

/-- The lane stays in INIT until its next power-on reset, with its outputs safe (R376). -/
def Lane.holdInit (ln : Lane) : Lane :=
  let ln := ln.stopEngines
  (({ ln with pwr := { ln.pwr with stage := .heldInit } }.put LCTL_MODE_MODE modeInit).put TALLY_STAT_LSTATE lsAbsent).permits

/-- The last BIST record is judged and marked consumed (R374); while ACCEPTED stands it is not read (R386). -/
def Lane.judgeBist (ln : Lane) : Lane :=
  let next (st : StartStage) (ln : Lane) : Lane := { ln with pwr := { ln.pwr with stage := st } }
  if ln.mode.accepted then next .filling ln
  else
    match ln.nv.bist with
    | some r =>
      if r.consumed then next .bist { ln with mode := { ln.mode with missing := true } }
      else
        let ln := { ln with nv := { ln.nv with bist := some { r with consumed := true } } }
        if r.pass then next .filling { ln with mode := { ln.mode with accepted := true } } else ln.holdInit
    | none => next .bist { ln with mode := { ln.mode with missing := true } }

/-- INIT begins: the switched domains are powered in the order of R32, and the BIST record is judged once they are. -/
def Lane.beginInit (ln : Lane) : Lane :=
  let ln := { ln with pwr := { ln.pwr with stage := .powering } }
  let ln := ln.startJobs powerUpJobs
  if ln.pwr.jobs.isEmpty then ln.judgeBist else ln

/-- The registers that live in the always-on domain and outlast a restart that is no power-on reset (log 12). -/
def keptRegs : List Reg :=
  [PWR_FEED, PWR_FEEDV, PWR_WAKE, PWR_WAKEEN, PWR_WKTIME, STOP_STAT, STOP_IN, STOP_HB, STOP_PCFG, SPLC_STAT, LOG_HEAD,
    LOG_LOST, LOG_FSTAT, BRDG_SCSTAT, BRDG_VBUS]

/-- A fresh position unit whose lines stand at their present levels. -/
def PosUnit.fresh (p : PosUnit) : PosUnit :=
  { PosUnit.reset with
    inc := p.inc.map (fun (u : IncUnit) => { IncUnit.reset with a := u.a, b := u.b, i := u.i })
    hall := p.hall.map (fun (u : HallUnit) => { HallUnit.reset with lines := u.lines }) }

/-- A fresh lane that has kept what MRAM, the store die and the fuses hold, and the levels of its position lines. -/
def Lane.fresh (ln : Lane) : Lane :=
  { Lane.reset ln.id with nv := ln.nv, free := ln.free, rdata := ln.rdata, pos := ln.pos.fresh }

/-- The lane starts anew into INIT without a power-on reset (R386, R511, R551): the always-on domain keeps lane time,
the feeds, the Stopper, ACCEPTED and the log line's buffer, and the bridge die its latches (R287) and its lines; GTOK and
SLOSS clear (R355, R356). -/
def Lane.restart (ln : Lane) : Lane :=
  let f := ln.fresh
  let f := keptRegs.foldl (fun x r => x.wr r (ln.rd r)) f
  let f := { f with
    lt := ln.lt
    stop := { ln.stop with switches := true, testPassed := false }
    log := { LogUnit.reset with buf := ln.log.buf }
    pwr := { PowerUnit.reset with feed1 := ln.pwr.feed1, feed2 := ln.pwr.feed2, phase := ln.pwr.phase }
    pace := { PaceUnit.reset with synced := ln.pace.synced }
    rj := { RejoinUnit.reset with times := ln.rj.times, slew := ln.rj.slew, heard := ln.rj.heard, offs := ln.rj.offs }
    mode := { ModeUnit.reset with accepted := ln.mode.accepted }
    brdg := { BridgeUnit.reset with
      override := ln.brdg.override
      leg := ln.brdg.leg.map (fun (u : LegUnit) => { LegUnit.reset with trips := u.trips, toReserve := u.toReserve }) } }
  let f := (f.put BRDG_STAT_UVLO (ln.get BRDG_STAT_UVLO)).put BRDG_STAT_OVA (ln.get BRDG_STAT_OVA)
  (((((f.put STOP_STAT_GTOK 0).put STOP_STAT_SLOSS 0).put STOP_STAT_SLC 0).put STOP_HB_OUT 0).put TALLY_STAT_WDN (min ln.rj.times.length 15)).showNv.permits.beginInit

/-- The lane enters power-on reset: everything but MRAM, the store die and the fuses is lost (R11, R23). -/
def Lane.powerOnReset (ln : Lane) : Lane := ln.fresh

end Sys2Proof.Machine
end

