-- ==== Sys2Proof/Machine/Withdraw.lean ====
section
/-!
DEFINITION. Withdrawal of a lane and its engines: R129, R162, R330, R333, R551, R552.
-/

namespace Sys2Proof.Machine

open Sys2Proof

/-! ### Withdrawal -/

/-- The states in which a Lay buffer sends only what was committed before (R459). -/
def holdsContent (st : Nat) : Bool := st == lsWithdrawn || st == lsResync || st == lsShadow || st == lsBarred

/-- The lane begins to hold its Lay content (R459). -/
def Lane.beginHeld (ln : Lane) : Lane := { ln with lay := { ln.lay with heldAt := ln.lt } }

/-- Set the lane's own state; the permit outputs follow (R346). -/
def Lane.setLstate (ln : Lane) (st : Nat) : Lane :=
  let ln := if holdsContent st && !holdsContent ln.lstate then ln.beginHeld else ln
  (ln.put TALLY_STAT_LSTATE st).permits

/-- The lane falls back to the previous slot and copy: the boot record swaps them, the trial flag clears, and the event
names the reason (R512, R514). -/
def Lane.fallBack (ln : Lane) (why : Nat) : Lane :=
  let b := ln.nv.boot
  let b := { b with
    slot := b.prevSlot, cfg := b.prevCfg, prevSlot := b.slot, prevCfg := b.cfg, trial := false, failed := true,
    uncommitted := false }
  ({ ln with nv := { ln.nv with boot := b } }.showNv).logR 0x75 UPD_BOOT why

/-- The lane becomes BARRED (R333); a lane on trial has then failed it and restarts from its previous slot (R514). -/
def Lane.becomeBarred (ln : Lane) : Lane :=
  let ln := ln.setLstate lsBarred
  if ln.nv.boot.trial then (ln.fallBack 3).restart else ln

/-- The withdrawal times of the last 60 s (R333). -/
def recentTimes (now : LTime) (l : List LTime) : List LTime := l.filter (fun t => since now t ≤ 60000 * msUnits)

/-- Show the number of recent withdrawals in TALLY_STAT.WDN. -/
def Lane.showWdn (ln : Lane) : Lane := ln.put TALLY_STAT_WDN (min (recentTimes ln.lt ln.rj.times).length 15)

/-- What is left of an attempt to rejoin when it ends (R333, R334). -/
def RejoinUnit.endAttempt (r : RejoinUnit) : RejoinUnit :=
  { r with checking := false, frames := 0, blocks := [], mism := 0, rampFrames := 0, restarted := false }

/-- The effects of R330 and the record of R329 that every withdrawal has: engines stopped, the bridge die held under
R14, the cause recorded, the fatal withdrawal event logged; the heartbeat check is suspended (R345). -/
def Lane.recordWithdrawal (ln : Lane) (code detail : Nat) : Lane :=
  let ln := ln.stopEngines
  let ln := ((ln.put TALLY_WCAUSE_CODE code).put TALLY_WCAUSE_DETAIL detail).put TALLY_WCAUSE_FRAME (ln.frame16.toNat)
  let ln := (ln.logR 0x23 TALLY_WCAUSE 0).put STOP_HB_OUT 0
  { ln with rj := { ln.rj with holding := true, offBad := 0, wHolds := !ln.agr.cutPassed } }

/-- A further withdrawal: it is counted, and a fourth within 60 s bars the lane (R333). -/
def Lane.countWithdrawal (ln : Lane) : Lane :=
  let l := ln.lt :: recentTimes ln.lt ln.rj.times
  ({ ln with rj := { ln.rj with times := l } }).showWdn

/-- A cause of R329 that bars a lane from rejoining at once (R333). -/
def barringCode (code : Nat) : Bool := code == 0x06 || code == 0x0A

/-- From now on the others count the lane as gone (R330). -/
def Lane.markGone (ln : Lane) : Lane :=
  let a := ln.agr
  { ln with
    agr := if a.cutPassed then { a with goneLate := ln.id :: a.goneLate } else { a with gone := ln.id :: a.gone } }

/-- A lane leaves its running or rejoining state; `failed` says that an attempt to rejoin has failed (R330, R334). -/
def Lane.leaveState (ln : Lane) (code detail : Nat) (failed : Bool) : Lane :=
  let ln := (ln.markGone.recordWithdrawal code detail).countWithdrawal
  let ln := { ln with rj := ln.rj.endAttempt }
  (if failed then ln.countUp TALLY_STAT_ATT else ln.put TALLY_STAT_ATT 0).put TALLY_STAT_RESYNC 0

/-- A lane withdraws with a cause of R329. -/
def Lane.withdraw (ln : Lane) (code detail : Nat) : Lane :=
  let st := ln.lstate
  if st = lsAbsent then
    -- R551: the cause is met before R378 has judged the lane
    let ln := (ln.recordWithdrawal code detail).countWithdrawal
    if barringCode code || decide (4 ≤ ln.rj.times.length) then ln.holdInit
    else if code = 0x07 then ln
    else if code = 0x05 then { ln with rj := { ln.rj with restartAtRelease := true } }
    else ln.restart
  else if st = lsWithdrawn || st = lsBarred then
    -- R552: not a further withdrawal; the new cause decides the rejoin, also of a lane that waits under R378
    let ln := ln.recordWithdrawal code detail
    let ln := { ln with rj := { ln.rj with waiting := false } }
    if barringCode code then ln.becomeBarred else ln
  else
    let failed := st == lsResync || st == lsShadow
    let ln := ln.leaveState code detail failed
    if barringCode code || decide (4 ≤ ln.rj.times.length) || (failed && decide (2 ≤ ln.get TALLY_STAT_ATT)) then
      ln.becomeBarred
    else ln.setLstate lsWithdrawn

/-! ### Helm and drive faults -/

/-- Which copies a fault was found in (LCTL_HFAULT.SIDE). -/
def sideCode (p s : Bool) : Nat := b2n p + 2 * b2n s

/-- A helm fault of R128: latched, logged, and the lane withdraws (R129). -/
def Lane.helmFault (ln : Lane) (code side : Nat) (addr : Word) : Lane :=
  let ln := ((ln.put LCTL_HFAULT_CODE code).put LCTL_HFAULT_SIDE side).wr LCTL_HFADDR addr
  let ln := ln.logE 0x20 (ln.rd LCTL_HFAULT) addr.toNat 0
  ln.withdraw 0x01 code

/-- A drive fault of R162. -/
def Lane.driveFault (ln : Lane) (code side pc : Nat) : Lane :=
  let ln := ((ln.put LCTL_DFAULT_CODE code).put LCTL_DFAULT_SIDE side).put LCTL_DFAULT_PC pc
  let ln := ln.logR 0x21 LCTL_DFAULT 0
  ln.withdraw 0x02 code

/-- An input fault of R310 or R99 that withdraws the lane. -/
def Lane.inputWithdraw (ln : Lane) (word : Nat) : Lane := ln.withdraw 0x04 word

end Sys2Proof.Machine
end

