-- ==== Sys2Proof/Machine/Loop.lean ====
section
/-!
DEFINITION. The loop unit (chapter 8, R238 to R269, R548): sources, slots, selector groups, the channel stage, share
scaling, presets, injection, capture, staging (R126) and its commands. Values are Q1.31 integers.
-/

namespace Sys2Proof.Machine

open Sys2Proof

/-! ### Arithmetic of R242 and R548 -/

/-- Saturate to the Q1.31 range (R242). -/
def sat31 (x : Int) : Int := clampI x (-2147483648) 2147483647

/-- Divide by 2^k and round half-up (R242). -/
def roundUp (x : Int) (k : Nat) : Int := (x + 2 ^ (k - 1)) / 2 ^ k

/-- The constant 0.992 of R548. -/
def c992 : Int := 0x7EF9DB23

/-- The threshold 0.05 of R548. -/
def c005 : Int := 0x06666666

/-- A quotient rounded half-up: the single rounding of a product with a share fraction (R249, log 13). -/
def quotHalf (n d : Int) : Int := if d = 0 then 0 else (2 * n + d) / (2 * d)

/-- A quotient rounded toward zero (R548). -/
def quotZero (n d : Int) : Int := if d = 0 then 0 else n.tdiv d

/-! ### Shares (R249) -/

/-- Whether a lane counts as running for the shares: RUNNING or RAMP, except in its first RAMP frame (R332). -/
def Lane.runsFor (ln : Lane) (l : LaneId) : Bool :=
  let st := (ln.agr.vec.get l).lstate
  st == lsRunning || (st == lsRamp && ln.agr.rampK != 0)

/-- A lane's STATE of a channel in the channel vector in force (R324). -/
def Lane.chanState (ln : Lane) (l : LaneId) (c : Nat) : Nat := bits (vget ln.agr.chan c 0) (8 * l.idx + 2) (8 * l.idx)

/-- The winding share of a channel as an exact fraction (R249). -/
def Lane.sigmaOf (ln : Lane) (c : Nat) : Nat × Nat :=
  let sum := (LaneId.all.map (fun l =>
    if ln.runsFor l && ln.chanState l c != 7 then ln.agr.share.get l else 0)).foldl (· + ·) 0
  let own := if ln.get (COMM_CSTAT_STATE c) = 7 then 0 else ln.agr.share.get ln.id
  if sum = 0 then (0, 1) else (own, sum)

/-- A share in Q1.31, rounded to nearest; a share of 1 reads 0x7FFF_FFFF (R249). -/
def shareWord (n d : Nat) : Word :=
  if d ≤ n then 0x7FFFFFFF else BitVec.ofNat 32 ((2 * n * 2147483648 + d) / (2 * d))

/-! ### Sources (R239) -/

/-- A word of the agreed inputs: channel words at 32 * c, lane words from 192 (R209). -/
def Lane.input (ln : Lane) (k : Nat) : Word := sparseGet (fun _ => 0) ln.comm.inputs k

/-- Set a word of the agreed inputs. -/
def Lane.putInput (ln : Lane) (k : Nat) (v : Word) : Lane :=
  { ln with comm := { ln.comm with inputs := sparsePut (fun _ => 0) ln.comm.inputs k v } }

/-- An integer source scaled: sat32(raw * 2^SHIFT), truncated towards minus infinity. -/
def shiftSat (raw : Int) (sh : Nat) : Int :=
  sat31 (if sh < 32 then raw * 2 ^ sh else raw / 2 ^ (64 - sh))

/-- The 48-bit speed of the most recently completed result set, with its VALID. -/
def Lane.speedResult (ln : Lane) (k : Nat) : Int × Bool :=
  let lo := rfGet ln.pub (POS_SR_SPDL k)
  let hi := rfGet ln.pub (POS_SR_SPDH k)
  (((hi.setWidth 16 : BitVec 16) ++ lo).toInt, bit (rfGet ln.pub (POS_SR_STAT k)) 17)

/-- A shared-quantity word's valid bit (R239 class 0x9). -/
def Lane.sqValid (ln : Lane) (k : Nat) : Bool := bit (ln.rd TALLY_SQV) k

/-- A source of R239: its value and whether it is valid. `sp` is the slot that reads it. -/
def readSource (ln : Lane) (lc : LoopCopy) (regs : RegFile) (sp : Nat) (src : Nat) : Int × Bool :=
  let cls := src % 16
  let idx := src / 16 % 64
  let sh := src / 1024 % 64
  match cls with
  | 0x0 => (0, true)
  | 0x1 => ((rfGet regs (LOOP_SP sp)).toInt, true)
  | 0x2 =>
    let c := idx / 8
    match idx % 8 with
    | 6 => ((ln.input (32 * c + 11)).toInt, bit (ln.input (32 * c + 9)) 3)
    | 7 => ((ln.input (32 * c + 12)).toInt, (ln.speedResult (ln.get (COMM_CHCFG_ESEL c))).2)
    | 0 => ((ln.input (32 * c + 2)).toInt, (vget ln.comm.ch c .reset).sampled)
    | q => ((ln.input (32 * c + 2 + q)).toInt, (vget ln.comm.ch c .reset).sampled)
  | 0x3 => let s := vget lc.slot idx .reset; (s.u, !s.holding)
  | 0x4 => (vget lc.gout idx 0, vget lc.gwin idx true)
  | 0x5 => ((ln.input (32 * idx + 1)).toInt, true)
  | 0x6 => ((ln.rd (COMM_SPDR idx)).toInt, true)
  | 0x7 => let r := ln.speedResult idx; (shiftSat r.1 sh, r.2)
  | 0x8 => (shiftSat (ln.rd (POS_CNT idx)).toInt sh, ln.is (POS_ISTAT_VALID idx) && !ln.is (POS_ISTAT_SUSPECT idx))
  | 0x9 => ((ln.rd (TALLY_SQ idx)).toInt, ln.sqValid idx)
  | 0xA => ((rfGet regs (LOOP_AUX idx)).toInt, bit (rfGet regs LOOP_AUXV) idx)
  | 0xB => (ln.agr.vb.toInt, ln.agr.vbValid)
  | _ => (0, false)

/-! ### One slot (R241 to R245, R259, R260, R263) -/

/-- A field of a register file. -/
def fld (f : RegFile) (x : Field) : Nat := bits (rfGet f x.reg) x.hi x.lo

/-- Replace a field of a register file. -/
def fldPut (f : RegFile) (x : Field) (v : Nat) : RegFile := rfPut f x.reg (setBits (rfGet f x.reg) x.hi x.lo v)

/-- The limits in force for a slot: those of its registers, tightened for KIND DUTY by the bus voltage (R243, R548). -/
def slotLimits (ln : Lane) (lc : LoopCopy) (regs : RegFile) (i : Nat) : Int × Int :=
  let lo := (rfGet regs (LOOP_OMIN i)).toInt
  let hi := (rfGet regs (LOOP_OMAX i)).toInt
  if fld regs (LOOP_CFG_KIND i) = 2 then
    let s := vget lc.sigma (fld regs (LOOP_CFG_CH i)) (0, 1)
    if s.1 = 0 then (lo, hi)
    else
      let lim := quotZero (c992 * ln.agr.vb.toInt * s.2) (2147483648 * 3 * s.1)
      (max lo (-lim), min hi lim)
  else (lo, hi)

/-- The clamp of R243: when the limits cross, the lower one. -/
def clampL (x : Int) (l : Int × Int) : Int := if l.2 < l.1 then l.1 else clampI x l.1 l.2

/-- The gain in a register, signed Q8.24; AD and KB count as 0 where negative (R242). -/
def gain (regs : RegFile) (r : Reg) : Int := (rfGet regs r).toInt
def gain0 (regs : RegFile) (r : Reg) : Int := max 0 (rfGet regs r).toInt

/-- The test signal at a slot's set point or output (R263). -/
def injectAt (lc : LoopCopy) (regs : RegFile) (i point : Nat) : Int :=
  if lc.inject.on && fld regs LOOP_INJ_SLOT == i && fld regs LOOP_INJ_POINT == point then lc.inject.s else 0

/-- One evaluation of a slot, up to its commit (R241). -/
def evalSlot (ln : Lane) (lc : LoopCopy) (regs : RegFile) (i : Nat) : SlotUnit × Bool :=
  let s := vget lc.slot i .reset
  let src := (rfGet regs (LOOP_SRC i)).toNat
  let y := readSource ln lc regs i (src % 65536)
  let r := readSource ln lc regs i (src / 65536)
  if !(y.2 && r.2) then ({ s with holding := true, preset := none }, false)
  else
    let first := s.first || s.holding
    let sg : Int := if fld regs (LOOP_CFG_REV i) = 1 then -1 else 1
    let e := sg * (r.1 + injectAt lc regs i 0 - y.1)
    let x := if fld regs (LOOP_CFG_DERR i) = 1 then e else -(sg * y.1)
    let xPrev := if first then x else s.xPrev
    let dPrev := if first then 0 else s.dPrev
    let r1 := if first then r.1 else s.r1
    let r2 := if first then r.1 else s.r2
    let p := sat31 (roundUp (gain regs (LOOP_KP i) * e) 24)
    let icx := roundUp (s.i * 16777216 + gain regs (LOOP_KI i) * e) 24
    let d := sat31 (roundUp (gain0 regs (LOOP_AD i) * dPrev + gain regs (LOOP_BD i) * (x - xPrev) * 128) 31)
    let a := match fld regs (LOOP_CFG_AORD i) with
      | 1 => r.1 - r1
      | 2 => r.1 - 2 * r1 + r2
      | _ => 0
    let ff := sat31 (roundUp (gain regs (LOOP_KA i) * a) 24)
    let lim := slotLimits ln lc regs i
    let ic := match s.preset with
      | some (_, dem) => clampL dem lim - p - d - ff
      | none => sat31 icx
    let v := sat31 (p + ic + d + ff)
    let bare := if s.manual then clampL (rfGet regs (LOOP_MAN i)).toInt lim else clampL v lim
    let u := clampL (bare + injectAt lc regs i 1) lim
    ({ s with
        ic := ic, v := v, u := u, bare := bare, r := r.1, y := y.1, e := e, d := d, xPrev := x, dPrev := d, r1 := r.1,
        r2 := r1, holding := false, first := false, preset := none },
      s.preset.isNone && icx != sat31 icx)

/-- A member's or a solo slot's commit of its integrator with the value applied (R247). A holding slot keeps it. -/
def commitSlot (regs : RegFile) (i : Nat) (a : Int) (s : SlotUnit) : SlotUnit × Bool :=
  if s.holding then (s, false)
  else
    let x := roundUp (s.ic * 2147483648 + gain0 regs (LOOP_KB i) * (a - s.v)) 31
    ({ s with i := sat31 x }, x != sat31 x)

/-- A limit has changed the slot's output: the wanted one (R243, R259), or that with the test signal (R263). -/
def wasClamped (lc : LoopCopy) (regs : RegFile) (i : Nat) (s : SlotUnit) : Bool :=
  s.bare != (if s.manual then gain regs (LOOP_MAN i) else s.v) || s.u != s.bare + injectAt lc regs i 1

/-- Show a slot's status after an evaluation (LOOP_SSTAT). -/
def showSlot (regs : RegFile) (i : Nat) (s : SlotUnit) (win clamped isat pre : Bool) (inj : Bool) : RegFile :=
  let f := fldPut regs (LOOP_SSTAT_WIN i) (b2n win)
  let f := if s.holding then f else fldPut f (LOOP_SSTAT_CLAMP i) (b2n clamped)
  let f := fldPut f (LOOP_SSTAT_HOLD i) (b2n s.holding)
  let f := fldPut f (LOOP_SSTAT_MAN i) (b2n s.manual)
  let f := fldPut f (LOOP_SSTAT_INJ i) (b2n inj)
  let f := if isat then fldPut f (LOOP_SSTAT_ISAT i) 1 else f
  let f := if pre then fldPut f (LOOP_SSTAT_PRE i) 1 else f
  fldPut f (LOOP_SSTAT_FIRST i) (b2n (s.first || s.holding))

/-! ### Groups (R246 to R248) -/

/-- The members of a group, in slot order. -/
def groupMembers (regs : RegFile) (g : Nat) : List Nat :=
  (List.range 24).filter (fun i =>
    fld regs (LOOP_CFG_EN i) == 1 && fld regs (LOOP_CFG_GEN i) == 1 && fld regs (LOOP_CFG_GRP i) == g)

/-- A member's candidate (R247): its u, or in MAG mode the magnitude of member 0. -/
def candidate (mag : Bool) (k : Nat) (u : Int) : Int := if mag && k == 0 then (u.natAbs : Int) else u

/-- The place of the winner among the members' candidates: the least, the lowest member on a tie. -/
def winnerOf (mag : Bool) (us : List Int) : Nat :=
  let cs := us.mapIdx (fun k u => candidate mag k u)
  let best := cs.foldl (fun (m : Option Int) c => match m with | none => some c | some x => some (min x c)) none
  match best with
  | none => 0
  | some b => cs.findIdx (· == b)

/-- The group output (R247). -/
def groupOut (mag : Bool) (us : List Int) : Int :=
  let w := winnerOf mag us
  let c := candidate mag w (us.getD w 0)
  if mag then (if us.getD 0 0 < 0 then -c else c) else c

/-- The value applied at member `k` (R247): the group output, or in MAG mode for the limiters the winning candidate. -/
def appliedAt (mag : Bool) (us : List Int) (k : Nat) : Int :=
  let w := winnerOf mag us
  if mag && k != 0 then candidate mag w (us.getD w 0) else groupOut mag us

/-- One evaluated slot joins the copy; a solo slot commits, and the last member of a group resolves it (R247, R255). -/
def stepSlot (ln : Lane) (acc : LoopCopy × RegFile) (i : Nat) : LoopCopy × RegFile :=
  let (lc, regs) := acc
  if fld regs (LOOP_CFG_EN i) = 0 then acc
  else
    let inj := lc.inject.on && fld regs LOOP_INJ_SLOT == i
    let pre := (vget lc.slot i .reset).preset.isSome
    let (s, sat1) := evalSlot ln lc regs i
    if fld regs (LOOP_CFG_GEN i) = 0 then
      let (s', sat2) := commitSlot regs i s.bare s
      ({ lc with slot := vset lc.slot i s' }, showSlot regs i s' true (wasClamped lc regs i s') (sat1 || sat2) (pre && !s'.holding) inj)
    else
      let lc := { lc with slot := vset lc.slot i s }
      let regs := showSlot regs i s false (wasClamped lc regs i s) sat1 (pre && !s.holding) inj
      let g := fld regs (LOOP_CFG_GRP i)
      let ms := groupMembers regs g
      if ms.getLast? = some i then
        let mag := fld regs (LOOP_GRP_MODE g) == 1
        let us := ms.map (fun m => (vget lc.slot m .reset).u)
        let w := winnerOf mag us
        let wi := ms.getD w 0
        let out := groupOut mag us
        let (slots, regs, _) := ms.foldl (fun (a : Vector SlotUnit 24 × RegFile × Nat) m =>
          let sm := vget a.1 m .reset
          let ap := if sm.manual || a.2.2 == w then sm.bare else appliedAt mag us a.2.2
          let (sm', st) := commitSlot a.2.1 m ap sm
          let f := fldPut a.2.1 (LOOP_SSTAT_WIN m) (b2n (m == wi))
          (vset a.1 m sm', if st then fldPut f (LOOP_SSTAT_ISAT m) 1 else f, a.2.2 + 1)) (lc.slot, regs, 0)
        ({ lc with
            slot := slots, gout := vset lc.gout g out, gwin := vset lc.gwin g (!(vget slots wi .reset).holding) },
          regs)
      else (lc, regs)

/-! ### Channel stage (R250 to R252) -/

/-- The source of a KIND for a channel (R250): the lowest-numbered slot of that kind and channel; its output is that of
its group where it is a member. -/
def channelSource (regs : RegFile) (kind c : Nat) : Option Nat :=
  (List.range 24).find? (fun i =>
    fld regs (LOOP_CFG_EN i) == 1 && fld regs (LOOP_CFG_KIND i) == kind && fld regs (LOOP_CFG_CH i) == c)

/-- The output of a source. -/
def sourceOut (lc : LoopCopy) (regs : RegFile) (i : Nat) : Int :=
  if fld regs (LOOP_CFG_GEN i) = 1 then vget lc.gout (fld regs (LOOP_CFG_GRP i)) 0 else (vget lc.slot i .reset).u

/-- Whether a DUTY source is the channel's current slot: its set point has CLASS 0x5 (R250). -/
def isCurrentSlot (regs : RegFile) (i : Nat) : Bool := (rfGet regs (LOOP_SRC i)).toNat / 65536 % 16 == 5

/-- ILIM of a channel in Q1.31. -/
def ilim (regs : RegFile) (c : Nat) : Int := fld regs (LOOP_ITR_ILIM c) * 32768

/-- IDEM_next of a channel (R251). -/
def idemNext (lc : LoopCopy) (regs : RegFile) (c : Nat) : Int :=
  match channelSource regs 1 c with
  | none => 0
  | some i =>
    let s := vget lc.sigma c (0, 1)
    clampI (quotHalf (sourceOut lc regs i * (3 * s.1) * fld regs (LOOP_ITR_ITR c)) (s.2 * 65536))
      (-(ilim regs c)) (ilim regs c)

/-- DEM_next of a channel (R251). -/
def demNext (ln : Lane) (lc : LoopCopy) (regs : RegFile) (c : Nat) (idem : Int) : Int :=
  match channelSource regs 2 c with
  | none => 0
  | some i =>
    let vb := ln.agr.vb.toInt
    if vb < c005 then 0
    else
      let s := vget lc.sigma c (0, 1)
      let kr : Int := if isCurrentSlot regs i then (rfGet regs (LOOP_KR c)).toInt * (idem - (ln.input (32 * c + 1)).toInt) else 0
      let num := sourceOut lc regs i * 2147483648 + kr
      let d := if fld regs (LOOP_CFG_SHARE i) = 1 then quotZero (num * (3 * s.1)) (vb * s.2) else quotZero num vb
      clampI d (-c992) c992

/-- The channel stage of one copy; BUSLOW where the bus voltage is below 0.05. -/
def channelStage (ln : Lane) (lc : LoopCopy) (regs : RegFile) : LoopCopy × RegFile :=
  let lc := (List.range 6).foldl (fun lc c =>
    let id := idemNext lc regs c
    { lc with idem := vset lc.idem c id, dem := vset lc.dem c (demNext ln lc regs c id) }) lc
  if decide (ln.agr.vb.toInt < c005) then (lc, fldPut regs LOOP_STAT_BUSLOW 1) else (lc, regs)

/-- Words 0 and 1 of a channel at the frame start: the last completed demands, rescaled when the share changed (R252). -/
def rescale (ln : Lane) (lc : LoopCopy) (regs : RegFile) (c : Nat) : Int × Int :=
  let new := vget lc.sigma c (0, 1)
  let old := vget lc.sigmaOld c (0, 1)
  let idem := vget lc.idem c 0
  let dem := vget lc.dem c 0
  if new.1 * old.2 = old.1 * new.2 then (dem, idem)
  else if old.1 = 0 then (0, 0)
  else
    let n : Int := new.1 * old.2
    let d : Int := new.2 * old.1
    let idem' := clampI (quotHalf (idem * n) d) (-(ilim regs c)) (ilim regs c)
    match channelSource regs 2 c with
    | none => (dem, idem')
    | some i =>
      let vb := ln.agr.vb.toInt
      let dem' :=
        if fld regs (LOOP_CFG_SHARE i) = 1 then clampI (quotHalf (dem * n) d) (-c992) c992
        else if isCurrentSlot regs i && decide (0 < vb) then
          clampI (dem + quotZero ((rfGet regs (LOOP_KR c)).toInt * (idem' - idem)) vb) (-c992) c992
        else dem
      (dem', idem')

/-! ### Injection and capture (R263 to R266) -/

/-- The tap positions of an ORDER (R264). -/
def prbsTaps : Nat → Option (List Nat)
  | 7 => some [7, 6]
  | 8 => some [8, 6, 5, 4]
  | 9 => some [9, 5]
  | 10 => some [10, 7]
  | 11 => some [11, 9]
  | 12 => some [12, 6, 4, 1]
  | 13 => some [13, 4, 3, 1]
  | 14 => some [14, 5, 3, 1]
  | 15 => some [15, 14]
  | _ => none

/-- The register's next bit and contents; position 1 is the head (R264). -/
def prbsNext (taps : List Nat) (reg : List Bool) : Bool × List Bool :=
  let b := taps.foldl (fun x k => xor x (reg.getD (k - 1) false)) false
  (b, b :: reg.dropLast)

/-- The test signal ends: s is 0 and INJON clears (R263, R265). -/
def endInject (lc : LoopCopy) (regs : RegFile) : LoopCopy × RegFile :=
  ({ lc with inject := { lc.inject with on := false, s := 0 } }, fldPut regs LOOP_STAT_INJON 0)

/-- Whether a swept sine has run its length or would pass half the frame rate (R265). -/
def sweepOver (regs : RegFile) (j : InjectUnit) : Bool :=
  decide (fld regs LOOP_SWDUR_DUR ≤ j.frames) || decide (2147483648 < j.inc)

/-- The test signal of this frame (R264, R265). -/
def stepInject (lc : LoopCopy) (regs : RegFile) : LoopCopy × RegFile :=
  let j := lc.inject
  if !j.on then (lc, regs)
  else
    let amp := (rfGet regs LOOP_INJAMP).toInt
    if fld regs LOOP_INJ_WAVE = 0 then
      if j.held = 0 then
        let (b, reg) := prbsNext ((prbsTaps (fld regs LOOP_INJ_ORDER)).getD []) j.reg
        ({ lc with inject := { j with reg := reg, s := if b then amp else -amp, held := fld regs LOOP_INJ_HOLD } }, regs)
      else ({ lc with inject := { j with held := j.held - 1 } }, regs)
    else if sweepOver regs j then endInject lc regs
    else
      let s := roundUp (amp * Config.sine j.phase) 31
      let inc := (j.inc * (rfGet regs LOOP_SWRAT).toNat + 536870912) / 1073741824
      ({ lc with inject := { j with s := s, phase := j.phase + BitVec.ofNat 32 j.inc, inc := inc, frames := j.frames + 1 } },
        regs)

/-- The signal selectors in use (LOOP_CAPCFG). -/
def capSelectors (regs : RegFile) : List Nat :=
  let w := (rfGet regs LOOP_CAPCFG).toNat
  [w % 256, w / 256 % 256, w / 65536 % 256, w / 16777216 % 256].filter (fun x => x / 32 != 0)

/-- The value a selector names. -/
def capSignal (lc : LoopCopy) (sel : Nat) : Word :=
  let s := vget lc.slot (sel % 32) .reset
  wordI (match sel / 32 with
    | 1 => s.r | 2 => s.y | 3 => s.e | 4 => s.u | 5 => s.i | 6 => s.d | 7 => lc.inject.s | _ => 0)

/-- The capture ends and its result set is completed (R266). -/
def endCapture (lc : LoopCopy) (regs pub : RegFile) : LoopCopy × RegFile × RegFile :=
  ({ lc with cap := { lc.cap with on := false, armed := false } }, fldPut regs LOOP_STAT_CAPON 0,
    publishSet pub LOOP_CAPSTAT (lc.cap.count % 32768) [])

/-- Whether the buffer holds all the records it can. -/
def captureFull (regs : RegFile) (cu : CaptureUnit) : Bool :=
  let k := (capSelectors regs).length
  k == 0 || decide (16384 / k ≤ cu.count)

/-- The capture's record of this frame (R266). -/
def stepCapture (lc : LoopCopy) (regs pub : RegFile) : LoopCopy × RegFile × RegFile :=
  let cu := lc.cap
  let cu := if cu.armed && lc.inject.on then { cu with on := true, armed := false } else cu
  if !cu.on then ({ lc with cap := cu }, regs, pub)
  else if cu.skip != 0 then ({ lc with cap := { cu with skip := cu.skip - 1 } }, regs, pub)
  else
    let recw := (capSelectors regs).map (capSignal lc)
    let cu := { cu with words := cu.words ++ recw, count := cu.count + 1, skip := fld regs LOOP_CAPDEC_DEC }
    let lc := { lc with cap := cu }
    if captureFull regs cu then endCapture lc regs pub else (lc, regs, pub)

/-! ### Presets (R260 to R262) -/

/-- A preset falls due; of several the one listed highest in R260 stands (R262). -/
def addPreset (lc : LoopCopy) (i rank : Nat) (dem : Int) : LoopCopy :=
  { lc with slot := vmod lc.slot i (fun s =>
      match s.preset with
      | some (r, _) => if r ≤ rank then s else { s with preset := some (rank, dem) }
      | none => { s with preset := some (rank, dem) }) }

/-- Make the next evaluation of every slot a first evaluation (R244). -/
def firstAll (lc : LoopCopy) : LoopCopy := { lc with slot := lc.slot.map (fun s => { s with first := true }) }

/-- The presets of a channel's entry into RUN (R260, R261): shared TORQUE slots from the configuration, the current
slot from the kernel's preset word. -/
def channelPresets (ln : Lane) (mb : Mailbox) (lc : LoopCopy) (regs : RegFile) : LoopCopy :=
  let seq := bits (mb.done[0]) 15 0
  if seq = lc.presetSeq then lc
  else
    let lc := { lc with presetSeq := seq }
    (List.range 6).foldl (fun lc c =>
      if !bit (mb.done[22]) c then lc
      else
        let dem := (vget mb.done (16 + c) 0).toInt
        let lc := match channelSource regs 2 c with
          | some i => if isCurrentSlot regs i then addPreset lc i 3 dem else lc
          | none => lc
        let s : Nat × Nat := vget lc.sigma c (0, 1)
        let tq : Int :=
          if (vget ln.comm.ch c .reset).presetFrom = 2 || s.1 = 0 || fld regs (LOOP_ITR_ITR c) = 0 then 0
          else sat31 (quotHalf ((ln.get (COMM_STI_RAMPI c) : Int) * 2147483648 * 65536 * s.2)
            (100 * 3 * s.1 * fld regs (LOOP_ITR_ITR c)))
        (List.range 24).foldl (fun lc i =>
          if fld regs (LOOP_CFG_EN i) == 1 && fld regs (LOOP_CFG_KIND i) == 1 && fld regs (LOOP_CFG_CH i) == c &&
            fld regs (LOOP_CFG_LOCAL i) == 0 then addPreset lc i 2 tq else lc) lc) lc

/-! ### Evaluation of one copy, and of the pair (R255 to R258) -/

/-- One copy's evaluation, after the staging sets have moved. -/
def evalCopy (ln : Lane) (mb : Mailbox) (lc : LoopCopy) (regs : RegFile) : LoopCopy × RegFile :=
  let lc := channelPresets ln mb lc regs
  let (lc, regs) := stepInject lc regs
  let (lc, regs) := (List.range 24).foldl (stepSlot ln) (lc, regs)
  let lc := { lc with sigmaOld := lc.sigma }
  channelStage ln lc regs

/-- What the copies compare (R256). -/
def loopOutputs (lc : LoopCopy) : List Int :=
  (lc.slot.toList.map (fun s => s.u)) ++ (lc.slot.toList.map (fun s => s.i)) ++ lc.gout.toList ++ lc.dem.toList ++
    lc.idem.toList

/-- The result set of an evaluation: LOOP_OUT, LOOP_INT, LOOP_GOUT (R257) and LOOP_YIN. -/
def loopResult (lc : LoopCopy) : List (Reg × Word) :=
  (lc.slot.toList.mapIdx (fun i s => (LOOP_OUT i, wordI s.u))) ++
    (lc.slot.toList.mapIdx (fun i s => (LOOP_INT i, wordI s.i))) ++
    (lc.slot.toList.mapIdx (fun i s => (LOOP_YIN i, wordI s.y))) ++
    (lc.gout.toList.mapIdx (fun g v => (LOOP_GOUT g, wordI v)))

/-- The registers that LOOP_RSTAT latches (R257). -/
def loopResultRegs : List Reg :=
  (List.range 24).map LOOP_OUT ++ (List.range 24).map LOOP_INT ++ (List.range 24).map LOOP_YIN ++ (List.range 8).map LOOP_GOUT

/-- The staging sets are compared word by word and moved into the working sets; a difference withdraws the lane with
code 0x07 and both sets are discarded (R126). -/
def Lane.moveStaging (ln : Lane) : Lane :=
  let ps := ln.loop.p.stage
  let ss := ln.loop.s.stage
  let ln := { ln with loop := ln.loop.map (fun (l : LoopCopy) => { l with stage := [] }) }
  if ps = ss then
    { ln with cregs := ⟨ps.foldl (fun (f : RegFile) (x : Nat × Word) => rfPut f x.1 x.2) ln.cregs.p, ss.foldl (fun (f : RegFile) (x : Nat × Word) => rfPut f x.1 x.2) ln.cregs.s⟩ }
  else
    let ad := match (ps.zip ss).find? (fun x => x.1 != x.2) with
      | some (a, _) => BitVec.ofNat 32 (0x40000000 + a.1)
      | none => 0
    ln.helmFault 0x07 3 ad

/-- The share of each channel takes effect, and words 0 and 1 of the agreed inputs take the last completed demands
(R249, R252). -/
def Lane.takeDemands (ln : Lane) : Lane :=
  let sg := Vector.ofFn (fun c : Fin 6 => ln.sigmaOf c.val)
  let ln := { ln with loop := ln.loop.map (fun (l : LoopCopy) => { l with sigma := sg }) }
  (List.range 6).foldl (fun ln c =>
    let ln := ln.cputBoth ⟨LOOP_SHARE c, 31, 0⟩ (shareWord (vget sg c (0, 1)).1 (vget sg c (0, 1)).2).toNat
    let w := rescale ln ln.loop.p ln.cregs.p c
    (ln.putInput (32 * c) (wordI w.1)).putInput (32 * c + 1) (wordI w.2)) ln

/-- An evaluation of the loop unit at a control frame start (R255): the copies evaluate, compare (R256), publish
(R257) and capture. -/
def Lane.evalLoop (ln : Lane) : Lane :=
  let ln := ln.cputBoth LOOP_STAT_ACTIVE 1
  let rp := evalCopy ln ln.drv.c.p.mbox ln.loop.p ln.cregs.p
  let rs := evalCopy ln ln.drv.c.s.mbox ln.loop.s ln.cregs.s
  let ln := { ln with
    loop := ⟨rp.1, rs.1⟩
    cregs := ⟨rp.2, rs.2⟩
    comm := { ln.comm with ch := ln.comm.ch.map (fun (c : ChanUnit) => { c with presetFrom := 0 }) } }
  if loopOutputs rp.1 ≠ loopOutputs rs.1 then (ln.cputBoth LOOP_STAT_OMIS 1).helmFault 0x09 3 0
  else
    let cp := stepCapture ln.loop.p ln.cregs.p (publishSet ln.cpub.p LOOP_RSTAT 0 (loopResult ln.loop.p))
    let cs := stepCapture ln.loop.s ln.cregs.s (publishSet ln.cpub.s LOOP_RSTAT 0 (loopResult ln.loop.s))
    { ln with loop := ⟨cp.1, cs.1⟩, cregs := ⟨cp.2.1, cs.2.1⟩, cpub := ⟨cp.2.2, cs.2.2⟩ }

/-- The loop unit stops: every I, u, group output and buffered demand becomes 0 (R258); injection and manual end. -/
def Lane.stopLoop (ln : Lane) : Lane :=
  let stop (lc : LoopCopy) : LoopCopy :=
    { lc with
      slot := lc.slot.map (fun s => { s with i := 0, u := 0, ic := 0, bare := 0, manual := false, preset := none, first := true })
      gout := Vector.replicate 8 0, idem := Vector.replicate 6 0, dem := Vector.replicate 6 0,
      inject := { lc.inject with on := false, s := 0 } }
  let shown (f : RegFile) : RegFile := (List.range 24).foldl (fun f i =>
    fldPut (fldPut (fldPut f (LOOP_SSTAT_MAN i) 0) (LOOP_SSTAT_INJ i) 0) (LOOP_SSTAT_FIRST i) 1) f
  let ln := { ln with loop := ln.loop.map stop, cregs := ln.cregs.map shown }
  (((ln.cputBoth LOOP_STAT_ACTIVE 0).cputBoth LOOP_STAT_INJON 0))

/-- What leaving SERVICE does: manual slots are preset with LOOP_MAN and injection stops (R259, R260, R263). -/
def Lane.leaveService (ln : Lane) : Lane :=
  let f (regs : RegFile) (lc : LoopCopy) : LoopCopy :=
    let lc := (List.range 24).foldl (fun lc i =>
      if (vget lc.slot i .reset).manual then
        let lc := addPreset lc i 7 (rfGet regs (LOOP_MAN i)).toInt
        { lc with slot := vmod lc.slot i (fun s => { s with manual := false }) }
      else lc) lc
    { lc with inject := { lc.inject with on := false, s := 0 } }
  ({ ln with loop := ⟨f ln.cregs.p ln.loop.p, f ln.cregs.s ln.loop.s⟩ }).cputBoth LOOP_STAT_INJON 0

/-- Entry to ARMED: every slot is preset with LOOP_MAN, and its next evaluation is a first one (R244, R260). -/
def Lane.enterArmed (ln : Lane) : Lane :=
  let f (regs : RegFile) (lc : LoopCopy) : LoopCopy :=
    (List.range 24).foldl (fun lc i => addPreset lc i 6 (rfGet regs (LOOP_MAN i)).toInt) (firstAll lc)
  { ln with loop := ⟨f ln.cregs.p ln.loop.p, f ln.cregs.s ln.loop.s⟩ }

/-! ### Commands (R259, R263, R266, R268) -/

/-- The slots that a SLOT field names: one, or with 0x1F every enabled slot. -/
def slotsNamed (regs : RegFile) (slot : Nat) : List Nat :=
  if slot = 31 then (List.range 24).filter (fun i => fld regs (LOOP_CFG_EN i) == 1) else if slot < 24 then [slot] else []

/-- What an operation of LOOP_CMD does in one copy when its frame starts. -/
def loopOp (op slot : Nat) (lc : LoopCopy) (regs pub : RegFile) : LoopCopy × RegFile × RegFile :=
  match op with
  | 0x1 =>
    let (lc, regs) := (slotsNamed regs slot).foldl (fun (a : LoopCopy × RegFile) i =>
      ({ a.1 with slot := vmod a.1.slot i (fun s => { s with manual := true }) },
        rfPut a.2 (LOOP_MAN i) (wordI (vget a.1.slot i .reset).u))) (lc, regs)
    (lc, regs, pub)
  | 0x2 =>
    ((slotsNamed regs slot).foldl (fun lc i =>
      if (vget lc.slot i .reset).manual then
        let lc := addPreset lc i 7 (rfGet regs (LOOP_MAN i)).toInt
        { lc with slot := vmod lc.slot i (fun s => { s with manual := false }) }
      else lc) lc, regs, pub)
  | 0x3 =>
    ((slotsNamed regs slot).foldl (fun lc i => addPreset lc i 8 (rfGet regs (LOOP_MAN i)).toInt) lc, regs, pub)
  | 0x4 =>
    if fld regs LOOP_INJ_WAVE = 0 && (prbsTaps (fld regs LOOP_INJ_ORDER)).isNone then
      (lc, fldPut regs LOOP_STAT_REJ 1, pub)
    else
      ({ lc with
          inject := ⟨true, List.replicate (fld regs LOOP_INJ_ORDER) true, 0, 0, 0, (rfGet regs LOOP_SWF0).toNat, 0⟩ },
        fldPut regs LOOP_STAT_INJON 1, pub)
  | 0x5 => let r := endInject lc regs; (r.1, r.2, pub)
  | 0x6 =>
    let trig := fld regs LOOP_CAPDEC_TRIG == 1
    ({ lc with cap := ⟨!trig, trig, [], 0, 0⟩ }, fldPut regs LOOP_STAT_CAPON 1, pub)
  | 0x7 => if lc.cap.on || lc.cap.armed then endCapture lc regs pub else (lc, regs, pub)
  | _ => (lc, regs, pub)

/-- An operation of LOOP_CMD falls due: MANUAL ON, INJECT START and CAPTURE START are discarded with REJ outside
SERVICE (R268); otherwise it applies in both copies. -/
def Lane.applyLoopOp (ln : Lane) (op slot : Nat) : Lane :=
  if (op == 1 || op == 4 || op == 6) && ln.modeNow != modeService then ln.cputBoth LOOP_STAT_REJ 1
  else
    let rp := loopOp op slot ln.loop.p ln.cregs.p ln.cpub.p
    let rs := loopOp op slot ln.loop.s ln.cregs.s ln.cpub.s
    { ln with loop := ⟨rp.1, rs.1⟩, cregs := ⟨rp.2.1, rs.2.1⟩, cpub := ⟨rp.2.2, rs.2.2⟩ }

/-- Whether a LOOP_CMD word is taken when it is released (R268). -/
def loopCmdOk (ln : Lane) (regs : RegFile) (v : Word) : Bool :=
  let slot := bits v 4 0
  let op := bits v 11 8
  let n := framesAhead (v.extractLsb' 16 16) (ln.rd TIME_FRAME)
  decide (1 ≤ op && op ≤ 7) && decide (1 ≤ n && n ≤ 256) &&
    (decide (4 ≤ op) || slot == 31 || (decide (slot < 24) && fld regs (LOOP_CFG_EN slot) == 1))

/-- A copy's LOOP_CMD store is released (R268). -/
def Lane.writeLoopCmd (ln : Lane) (c : Copy) (v : Word) : Lane :=
  if loopCmdOk ln (ln.cregs.get c) v then
    let k : FrameCmd := ⟨bits v 4 0, bits v 11 8, v.extractLsb' 16 16⟩
    let f (lc : LoopCopy) : LoopCopy := { lc with cmds := lc.cmds ++ [k] }
    { ln with loop := match c with | .p => { ln.loop with p := f ln.loop.p } | .s => { ln.loop with s := f ln.loop.s } }
  else ln.cput c LOOP_STAT_REJ 1

/-- The commands whose frame starts now apply, in the order of their release. -/
def Lane.applyLoopCmds (ln : Lane) : Lane :=
  let due := ln.loop.p.cmds.filter (fun k => k.frame == ln.frame16)
  let keep (lc : LoopCopy) : LoopCopy := { lc with cmds := lc.cmds.filter (fun k => k.frame != ln.frame16) }
  let ln := { ln with loop := ln.loop.map keep }
  due.foldl (fun ln k => ln.applyLoopOp k.op k.target) ln

/-! ### Reads -/

/-- LOOP_CAPDATA (R267): the word at LOOP_CAPIDX of both buffers, the index one higher; a difference withdraws. -/
def Lane.readCapdata (ln : Lane) : Pair Word × Lane :=
  let idx (c : Copy) : Nat := ln.cget c LOOP_CAPIDX_IDX
  let wp := ln.loop.p.cap.words.getD (idx .p) 0
  let ws := ln.loop.s.cap.words.getD (idx .s) 0
  let ln' := (ln.cput .p LOOP_CAPIDX_IDX ((idx .p + 1) % 16384)).cput .s LOOP_CAPIDX_IDX ((idx .s + 1) % 16384)
  (⟨wp, ws⟩, if wp = ws then ln' else (ln'.cputBoth LOOP_STAT_OMIS 1).helmFault 0x09 3 0)

/-- Interrupt source 10 (R269). -/
def Lane.irqLoop (ln : Lane) : Bool :=
  let en := fld ln.cregs.p
  (en LOOP_IEN_IDONE == 1 && bit (rfGet ln.cpub.p LOOP_RSTAT) 16) ||
    (en LOOP_IEN_ICAP == 1 && bit (rfGet ln.cpub.p LOOP_CAPSTAT) 16) ||
    (en LOOP_IEN_IFLT == 1 && (en LOOP_STAT_BUSLOW == 1 || en LOOP_STAT_REJ == 1 ||
      (List.range 24).any (fun i => en (LOOP_SSTAT_ISAT i) == 1)))

/-! ### The commands of the table -/

/-- LOOP_CMD MANUAL ON applies (R259). -/
def execManualOn (l : LaneId) (slot : Reg5) (s : State) : Host.Outcome State Fault Refusal :=
  onLane s l (fun ln => ln.applyLoopOp 0x1 slot.toNat)

/-- LOOP_CMD MANUAL OFF applies (R259). -/
def execManualOff (l : LaneId) (slot : Reg5) (s : State) : Host.Outcome State Fault Refusal :=
  onLane s l (fun ln => ln.applyLoopOp 0x2 slot.toNat)

/-- LOOP_CMD PRESET applies (R260). -/
def execPreset (l : LaneId) (slot : Reg5) (s : State) : Host.Outcome State Fault Refusal :=
  onLane s l (fun ln => ln.applyLoopOp 0x3 slot.toNat)

/-- LOOP_CMD INJECT START applies (R263). -/
def execInjectStart (l : LaneId) (s : State) : Host.Outcome State Fault Refusal :=
  onLane s l (fun ln => ln.applyLoopOp 0x4 0)

/-- LOOP_CMD INJECT STOP applies (R263). -/
def execInjectStop (l : LaneId) (s : State) : Host.Outcome State Fault Refusal :=
  onLane s l (fun ln => ln.applyLoopOp 0x5 0)

/-- LOOP_CMD CAPTURE START applies (R266). -/
def execCaptureStart (l : LaneId) (s : State) : Host.Outcome State Fault Refusal :=
  onLane s l (fun ln => ln.applyLoopOp 0x6 0)

/-- LOOP_CMD CAPTURE STOP applies (R266). -/
def execCaptureStop (l : LaneId) (s : State) : Host.Outcome State Fault Refusal :=
  onLane s l (fun ln => ln.applyLoopOp 0x7 0)

/-- The swept sine has ended (R265): s is 0 and INJON clears. -/
def execSweepEnd (l : LaneId) (s : State) : Host.Outcome State Fault Refusal :=
  onLane s l (fun ln =>
    let f (lc : LoopCopy) (regs : RegFile) : LoopCopy × RegFile :=
      if lc.inject.on && fld regs LOOP_INJ_WAVE == 1 && sweepOver regs lc.inject then endInject lc regs else (lc, regs)
    let rp := f ln.loop.p ln.cregs.p
    let rs := f ln.loop.s ln.cregs.s
    { ln with loop := ⟨rp.1, rs.1⟩, cregs := ⟨rp.2, rs.2⟩ })

/-- The capture buffer is full: the capture ends and its result set is published (R266). -/
def execCaptureEnd (l : LaneId) (s : State) : Host.Outcome State Fault Refusal :=
  onLane s l (fun ln =>
    let f (lc : LoopCopy) (regs pub : RegFile) : LoopCopy × RegFile × RegFile :=
      if lc.cap.on && captureFull regs lc.cap then endCapture lc regs pub else (lc, regs, pub)
    let rp := f ln.loop.p ln.cregs.p ln.cpub.p
    let rs := f ln.loop.s ln.cregs.s ln.cpub.s
    { ln with loop := ⟨rp.1, rs.1⟩, cregs := ⟨rp.2.1, rs.2.1⟩, cpub := ⟨rp.2.2, rs.2.2⟩ })

/-- LOOP_RSTAT is read: it latches the completed evaluation (R257). -/
def execLoopRstatRead (l : LaneId) (s : State) : Host.Outcome State Fault Refusal :=
  readLane s l (fun ln => let r := ln.latchBoth LOOP_RSTAT loopResultRegs; (r.1.p, r.2))

/-- LOOP_CAPSTAT is read: it latches the completed capture (R266). -/
def execLoopCapstatRead (l : LaneId) (s : State) : Host.Outcome State Fault Refusal :=
  readLane s l (fun ln => let r := ln.latchBoth LOOP_CAPSTAT []; (r.1.p, r.2))

/-- LOOP_CAPDATA is read (R267). -/
def execLoopCapdataRead (l : LaneId) (s : State) : Host.Outcome State Fault Refusal :=
  readLane s l (fun ln => let r := ln.readCapdata; (r.1.p, r.2))

end Sys2Proof.Machine
end

