-- ==== Sys2Proof/Machine/Position.lean ====
section
/-!
DEFINITION. Position inputs, edge timing and the echo encoder (chapter 6, R163 to R196).
-/

namespace Sys2Proof.Machine

open Sys2Proof

/-! ### Units by index -/

def Lane.inc (ln : Lane) (n : Nat) : IncUnit := vget ln.pos.inc n .reset
def Lane.hallU (ln : Lane) (h : Nat) : HallUnit := vget ln.pos.hall h .reset

def Lane.setInc (ln : Lane) (n : Nat) (u : IncUnit) : Lane :=
  { ln with pos := { ln.pos with inc := vset ln.pos.inc n u } }

def Lane.setHall (ln : Lane) (h : Nat) (u : HallUnit) : Lane :=
  { ln with pos := { ln.pos with hall := vset ln.pos.hall h u } }

/-- The speed measurement of result set s: 0-7 incremental channels, 8-15 hall triplets (R183). -/
def Lane.speedU (ln : Lane) (s : Nat) : SpeedUnit :=
  if s < 8 then (ln.inc s).speed else (ln.hallU (s - 8)).speed

def Lane.setSpeed (ln : Lane) (s : Nat) (u : SpeedUnit) : Lane :=
  if s < 8 then ln.setInc s { ln.inc s with speed := u } else ln.setHall (s - 8) { ln.hallU (s - 8) with speed := u }

/-! ### Speed by window count (R176 to R180) -/

/-- The refined count at a time between two counted edges, as a fraction (R176). -/
def refined (eb : CEdge) (eaT : LTime) (same : Bool) (t : LTime) : Int × Nat :=
  let d := since eaT eb.t
  if same && d != 0 then (eb.c * d + since t eb.t, d) else (eb.c, 1)

/-- The speed between two refined counts, in units of 2^-10 counts/s, rounded to the nearest (R176). -/
def windowSpeed (c0 c1 : Int × Nat) (dt : Nat) : Int :=
  let n := (c1.1 * c0.2 - c0.1 * c1.2) * 8192000000000
  let d : Int := c0.2 * c1.2 * dt
  if d = 0 then 0 else (2 * n + d) / (2 * d)

/-- The clause of R179 that a latched fault of the channel makes: CFLT, or HFLT of a triplet. -/
def Lane.speedFault (ln : Lane) (s : Nat) : Bool :=
  if s < 8 then ln.is (POS_ISTAT_CFLT s) else ln.is (POS_HSTAT_HFLT (s - 8))

/-- Publish a window's result (R177, R179, R181). -/
def Lane.publishSpeed (ln : Lane) (s : Nat) (v : Int) (valid extrap zero : Bool) (t1 : LTime) : Lane :=
  let w : BitVec 64 := BitVec.ofInt 64 v
  let dir := if s < 8 then ln.is (POS_ISTAT_DIR s) else ln.is (POS_HSTAT_DIR (s - 8))
  let ln := ln.publish (POS_SR_STAT s) (b2n valid + 2 * b2n extrap + 4 * b2n zero + 8 * b2n dir)
    [(POS_SR_SPDL s, w.extractLsb' 0 32), (POS_SR_SPDH s, w.extractLsb' 32 32), (POS_SR_TEND s, t1.extractLsb' 0 32)]
  if s < 8 then ln.putB (POS_ISTAT_VALID s) valid else ln

/-- Decide one window end with the end-boundary edge time `eaT` (R176, R177). -/
def Lane.decideWindow (ln : Lane) (s : Nat) (t1 eaT : LTime) (same extrap : Bool) : Lane :=
  let u := ln.speedU s
  let cf1 := u.eb.map (fun e => refined e eaT same t1)
  let two := decide (2 ≤ u.edges)
  let good := u.good || two
  let zero := u.zero && !two
  let v := match u.cf0, cf1 with
    | some a, some b => windowSpeed a b (since t1 u.t0)
    | _, _ => 0
  let valid := good && u.cf0.isSome && cf1.isSome && !ln.speedFault s && !u.jumped && !u.fresh
  let ln := ln.setSpeed s { u with
    t0 := t1, cf0 := cf1, ends := u.ends.drop 1, edges := 0, good := good, zero := zero, jumped := false, fresh := false }
  ln.publishSpeed s (if zero then 0 else v) valid extrap zero t1

/-- A counted edge reaches the speed measurement: it decides every window end that waits for it. -/
def Lane.speedEdge (ln : Lane) (s : Nat) (e : CEdge) : Lane :=
  let u := ln.speedU s
  let same := match u.eb with | some b => b.fwd == e.fwd | none => true
  let ln := u.ends.foldl (fun ln t1 => ln.decideWindow s t1 e.t same false) ln
  let u := ln.speedU s
  ln.setSpeed s { u with ebb := u.eb, eb := some e, edges := u.edges + 1, lastEdge := e.t }

/-- A speed window of set s ends at a PWM period start (R176). -/
def Lane.endWindow (ln : Lane) (s : Nat) (t : LTime) : Lane :=
  let u := ln.speedU s
  ln.setSpeed s { u with ends := u.ends ++ [t] }

/-- WMUL of a result set. -/
def Lane.wmul (ln : Lane) (s : Nat) : Nat :=
  if s < 8 then ln.get (POS_ICFG_WMUL s) else ln.get (POS_HCFG_WMUL (s - 8))

/-- Whether the channel of a result set is enabled. -/
def Lane.speedOn (ln : Lane) (s : Nat) : Bool :=
  if s < 8 then ln.is (POS_ICFG_EN s) else ln.is (POS_HCFG_EN (s - 8))

/-- The speed windows whose boundary lies on this PWM period start (R176). -/
def Lane.speedWindows (ln : Lane) (period : Nat) (t : LTime) : Lane :=
  (List.range 16).foldl (fun ln s =>
    if ln.speedOn s && ln.wmul s != 0 && period % ln.wmul s == 0 then ln.endWindow s t else ln) ln

/-- Every window in progress is invalid: lane time has jumped under R45 (R179). -/
def Lane.speedJump (ln : Lane) : Lane :=
  (List.range 16).foldl (fun ln s => ln.setSpeed s { ln.speedU s with jumped := true }) ln

/-! ### Quadrature (R168 to R175) -/

/-- The place of an AB state in the forward sequence 00, 10, 11, 01. -/
def abIndex (a b : Bool) : Nat := if a then (if b then 2 else 1) else (if b then 3 else 0)

/-- The direction flag's hysteresis (R171): the new flag, the new extreme and whether the flag changed. -/
def dirStep (dir : Bool) (x c : Int) (h : Nat) : Bool × Int × Bool :=
  if dir then
    if x < c then (true, c, false) else if c ≤ x - h then (false, c, true) else (true, x, false)
  else if c < x then (false, c, false) else if x + h ≤ c then (true, c, true) else (false, x, false)

/-- MISS of R175. -/
def Lane.missCheck (ln : Lane) (n : Nat) : Lane :=
  let u := ln.inc n
  let cpr := ln.get (POS_ICPR_CPR n)
  let moved := ((ln.rd (POS_RAW n)) - wordI u.idxRaw).toInt
  if ln.is (POS_ICFG_IDXEN n) && cpr != 0 && !u.missed && decide (3 * cpr ≤ 2 * moved.natAbs) then
    (ln.on (POS_ISTAT_MISS n)).setInc n { u with missed := true }
  else ln

/-- A counted edge of an incremental channel (R168, R171). -/
def Lane.countInc (ln : Lane) (n : Nat) (fwd : Bool) (t : LTime) : Lane :=
  let step : Word := if fwd then 1 else -1
  let raw := ln.rd (POS_RAW n) + step
  let ln := (ln.wr (POS_RAW n) raw).wr (POS_CNT n) (ln.rd (POS_CNT n) + step)
  let u := ln.inc n
  let d := dirStep (ln.is (POS_ISTAT_DIR n)) u.extreme raw.toInt (ln.get (POS_ICFG_HYST n) + 1)
  let ln := ln.setInc n { u with extreme := d.2.1, lastFwd := fwd }
  let ln := (ln.putB (POS_ISTAT_DIR n) d.1).onIf d.2.2 (POS_ISTAT_DIRCH n)
  (ln.missCheck n).speedEdge n ⟨t, raw.toInt, fwd⟩

/-- The lines take a new AB state; where one line moved, the edge counts (R168). -/
def Lane.moveAB (ln : Lane) (n : Nat) (a b : Bool) (t : LTime) : Lane :=
  let u := ln.inc n
  let d := (abIndex a b + 4 - abIndex u.a u.b) % 4
  let ln := ln.setInc n { u with a := a, b := b }
  if d = 1 then ln.countInc n true t else if d = 3 then ln.countInc n false t else ln

/-- Coincident edges of A and B (R169), and the channel fault of four within 1 ms (R170). -/
def Lane.coincide (ln : Lane) (n : Nat) (a b : Bool) (t : LTime) : Lane :=
  let u := ln.inc n
  let ln := ln.setInc n { u with a := a, b := b, coins := (t :: u.coins).take 4 }
  let ln := (ln.countUp (POS_ISTAT_COINCNT n)).on (POS_ISTAT_COIN n)
  let cs := (ln.inc n).coins
  if cs.length = 4 ∧ since t (cs.getLastD t) ≤ msUnits then
    if ln.is (POS_ISTAT_CFLT n) then ln
    else
      let ln := (ln.on (POS_ISTAT_CFLT n)).put (POS_ISTAT_VALID n) 0
      ln.logR 0x30 (POS_ISTAT n) n
  else ln

/-- The nearest whole number to a quotient, half away from zero (R172). -/
def roundAway (n d : Int) : Int :=
  if d = 0 then 0 else if n < 0 then -((2 * (-n) + d) / (2 * d)) else (2 * n + d) / (2 * d)

/-- An index event (R172, R173). -/
def Lane.indexEvent (ln : Lane) (n : Nat) : Lane :=
  let u := ln.inc n
  let cpr : Int := ln.get (POS_ICPR_CPR n)
  let c := (ln.rd (POS_CNT n)).toInt
  let ln := ln.setInc n { u with idxRaw := (ln.rd (POS_RAW n)).toInt, missed := false }
  if !ln.is (POS_ISTAT_REFD n) then
    (ln.setInc n { ln.inc n with ref := c }).on (POS_ISTAT_REFD n)
  else if ln.is (POS_ISTAT_SUSPECT n) then ln
  else
    let dev := c - (u.ref + roundAway (c - u.ref) cpr * cpr)
    if dev.natAbs ≤ ln.get (POS_ICFG_ITOL n) then
      let sum := clampI ((BitVec.ofNat 16 (ln.get (POS_DRIFT_SUM n))).toInt + dev) (-32768) 32767
      let ln := ln.wr (POS_CNT n) (wordI (c - dev))
      let ln := ln.put (POS_DRIFT_SUM n) (BitVec.ofInt 16 sum).toNat
      let ln := ln.put (POS_DRIFT_NCORR n) (ln.get (POS_DRIFT_NCORR n) + 1)
      let ln := ln.put (POS_DRIFT_MAXABS n) (max (ln.get (POS_DRIFT_MAXABS n)) dev.natAbs)
      ln.on (POS_ISTAT_CORR n)
    else (ln.on (POS_ISTAT_IDXF n)).on (POS_ISTAT_SUSPECT n)

/-- An edge of I: an index event where its sense fits the last counted edge and the gate state holds (R172). -/
def Lane.indexEdge (ln : Lane) (n : Nat) (level : Bool) : Lane :=
  let u := ln.inc n
  let ln := ln.setInc n { u with i := level }
  let gate := ln.get (POS_ICFG_IGATE n)
  let inGate := decide (gate < 4) || gate - 4 == 2 * b2n u.a + b2n u.b
  if ln.is (POS_ICFG_IDXEN n) && ln.get (POS_ICPR_CPR n) != 0 && level == u.lastFwd && inGate then ln.indexEvent n
  else ln

/-! ### Halls (R182 to R185) -/

/-- The sector of hall state j under MAP: bits [3j+1:3j-1] of POS_HCFG (R182). -/
def mapSector (cfg : Word) (j : Nat) : Nat := bits cfg (3 * j + 1) (3 * j - 1)

/-- The hall state that three lines show, H3:H2:H1, after inversion. -/
def hallState (cfg : Word) (lines : BitVec 3) : Nat := (if bit cfg 1 then ~~~lines else lines).toNat

/-- A hall fault (R184). -/
def Lane.hallFault (ln : Lane) (h : Nat) : Lane :=
  if ln.is (POS_HSTAT_HFLT h) then ln
  else
    let ln := (ln.on (POS_HSTAT_HFLT h)).put (POS_HSTAT_VALID h) 0
    ln.logR 0x30 (POS_HSTAT h) (8 + h)

/-- A counted hall edge (R183, R185). -/
def Lane.countHall (ln : Lane) (h : Nat) (fwd : Bool) (t : LTime) : Lane :=
  let u := ln.hallU h
  let c := u.count + (if fwd then 1 else -1)
  let d := dirStep (ln.is (POS_HSTAT_DIR h)) u.extreme c (ln.get (POS_HCFG_HYST h) + 1)
  let ln := ln.setHall h { u with count := c, extreme := d.2.1, lastFwd := fwd }
  let ln := (ln.putB (POS_HSTAT_DIR h) d.1).onIf d.2.2 (POS_HSTAT_DIRCH h)
  ln.speedEdge (8 + h) ⟨t, c, fwd⟩

/-- A valid state is read: it counts, skips or repeats (R183, R184). -/
def Lane.hallValid (ln : Lane) (h st : Nat) (t : LTime) : Lane :=
  let cfg := ln.rd (POS_HCFG h)
  let new := mapSector cfg st
  let had := ln.get (POS_HSTAT_STATE h)
  let old := ln.get (POS_HSTAT_SECTOR h)
  let u := ln.hallU h
  let ln := ln.setHall h { u with lastEdge := t, edgeInPeriod := true, invalidSince := none }
  let ln := (ln.put (POS_HSTAT_STATE h) st).put (POS_HSTAT_SECTOR h) new
  let ln := if ln.is (POS_HSTAT_HFLT h) then ln else ln.on (POS_HSTAT_VALID h)
  if had = 0 then ln
  else
    match (new + 6 - old) % 6 with
    | 0 => ln
    | 1 => ln.countHall h true t
    | 5 => ln.countHall h false t
    | _ =>
      let ln := (ln.on (POS_HSTAT_SKIP h)).countUp (POS_HSTAT_SKIPCNT h)
      let u := ln.hallU h
      let ks := (t :: u.skips).take 4
      let ln := ln.setHall h { u with skips := ks }
      if ks.length = 4 ∧ since t (ks.getLastD t) ≤ msUnits then ln.hallFault h else ln

/-- The lines of a triplet change (R183, R184). -/
def Lane.hallLines (ln : Lane) (h : Nat) (lines : BitVec 3) (t : LTime) : Lane :=
  let u := ln.hallU h
  let st := hallState (ln.rd (POS_HCFG h)) lines
  let ln := ln.setHall h { u with lines := lines }
  if !ln.is (POS_HCFG_EN h) then ln
  else if st = 0 ∨ st = 7 then
    match u.invalidSince with
    | some _ => ln
    | none => ln.setHall h { ln.hallU h with invalidSince := some t }
  else
    let short := match u.invalidSince with | some t0 => decide (since t t0 < 2 * usUnits) | none => false
    (ln.onIf short (POS_HSTAT_INVS h)).hallValid h st t

/-! ### SSI (R186 to R188) -/

def Lane.ssiU (ln : Lane) (m : Nat) : SsiUnit := vget ln.pos.ssi m ⟨none, 0, none, 0, false⟩
def Lane.setSsi (ln : Lane) (m : Nat) (u : SsiUnit) : Lane :=
  { ln with pos := { ln.pos with ssi := vset ln.pos.ssi m u } }

/-- A trigger of a port: a frame starts, or the trigger is skipped during a frame or its pause (R186, R188). -/
def Lane.ssiTrigger (ln : Lane) (m : Nat) (t : LTime) : Lane :=
  let u := ln.ssiU m
  let busy := u.running || (match u.busy with | some b => !timeLe b t | none => false)
  if !ln.is (POS_SCFG_EN m) then ln
  else if busy then ln.put (POS_SLAT_SKIPT m) (ln.get (POS_SLAT_SKIPT m) + 1)
  else ln.setSsi m { u with first := t, running := true, busy := none }

/-- The triggers of the ports with a TRIG value (R186). -/
def Lane.ssiTriggers (ln : Lane) (trig : Nat) (t : LTime) : Lane :=
  (List.range 2).foldl (fun ln m => if ln.get (POS_SCFG_TRIG m) = trig then ln.ssiTrigger m t else ln) ln

/-- Gray to binary over n bits. -/
def grayDecode : Nat → Nat → Nat
  | 0, _ => 0
  | n + 1, w =>
    let hi := grayDecode n (w / 2)
    2 * hi + (w % 2 + hi % 2) % 2

/-- The number of ones in the low n bits. -/
def onesIn : Nat → Nat → Nat
  | 0, _ => 0
  | n + 1, w => w % 2 + onesIn n (w / 2)

/-- A frame is judged and published (R187). -/
def Lane.ssiEnd (ln : Lane) (m : Nat) (d : SsiData) (t : LTime) : Lane :=
  let u := ln.ssiU m
  if !u.running then ln
  else
    let n := ln.get (POS_SCFG_NBITS m)
    let raw := d.bits.toNat % 2 ^ n
    let par := onesIn n raw + b2n d.parity
    let parOk := match ln.get (POS_SCFG_PAR m) with
      | 1 => par % 2 == 0
      | 2 => par % 2 == 1
      | _ => true
    let pos := if ln.is (POS_SCFG_GRAY m) then grayDecode n raw else raw
    let jump := ln.get (POS_SCFG_JUMP m)
    let near := jump == 0 || (match u.last with
      | some l => decide (((pos : Int) - l.toNat).natAbs ≤ jump)
      | none => true)
    let ok := d.idleHigh && parOk && (!ln.is (POS_SCFG_ZCHK m) || !d.check) && near
    let ts : LTime := u.first - BitVec.ofNat 64 (ln.get (POS_SLAT_LAT m))
    let u := { u with running := false, busy := some (later t (20 * usUnits)) }
    if ok then
      let ln := ln.setSsi m { u with last := some (BitVec.ofNat 32 pos), rejects := 0 }
      let valid := !ln.is (POS_SS_STAT_SFLT m)
      ln.publish (POS_SS_STAT m) (b2n valid) [(POS_SS_POS m, BitVec.ofNat 32 pos), (POS_SS_TS m, ts.extractLsb' 0 32)]
    else
      let ln := ln.setSsi m { u with rejects := u.rejects + 1 }
      let ln := ln.publish (POS_SS_STAT m) 2 []
      if u.rejects + 1 = 3 then
        let ln := ln.on (POS_SS_STAT_SFLT m)
        ln.logR 0x30 (POS_SS_STAT m) (16 + m)
      else ln

/-! ### Echo encoder (R189 to R194) -/

def Lane.echoU (ln : Lane) (k : Nat) : EchoUnit := vget ln.pos.echo k ⟨0x3E, 0, 0, 0, 0, 0, false, 0, 0, 0, 0, 0⟩
def Lane.setEcho (ln : Lane) (k : Nat) (u : EchoUnit) : Lane :=
  { ln with pos := { ln.pos with echo := vset ln.pos.echo k u } }

/-- Whether a source of R189 is valid (R193). -/
def Lane.echoValid (ln : Lane) (src : Nat) : Bool :=
  if src < 8 then ln.is (POS_ISTAT_VALID src) && !ln.is (POS_ISTAT_SUSPECT src)
  else if src < 16 then ln.is (POS_HSTAT_VALID (src - 8))
  else if src < 18 then bit (rfGet ln.pub (POS_SS_STAT (src - 16))) 17
  else if src < 24 then ln.is (COMM_ANG_AVALID (src - 18))
  else false

/-- The present raw sample of an SSI or observer source, and its wrap. -/
def Lane.echoSample (ln : Lane) (src : Nat) : Nat × Nat :=
  if src < 18 then ((rfGet ln.pub (POS_SS_POS (src - 16))).toNat, 2 ^ ln.get (POS_SCFG_NBITS (src - 16)))
  else (ln.get (COMM_ANG_ANGLE (src - 18)), 4096)

/-- A new sample of a sampled source is unwrapped as a signed difference of less than half a revolution (R202). -/
def Lane.echoTake (ln : Lane) (k : Nat) (t : LTime) : Lane :=
  let u := ln.echoU k
  let src := bits u.cfg 5 1
  if 16 ≤ src ∧ src < 24 then
    let (raw, wrap) := ln.echoSample src
    let d := (raw + wrap - u.lastRaw % wrap) % wrap
    let step : Int := if 2 * d < wrap then d else (d : Int) - wrap
    ln.setEcho k { u with prev := u.src, tPrev := u.tLast, src := u.src + step, lastRaw := raw, tLast := t }
  else ln

/-- The source position at a time: counts as they stand, sampled sources extrapolated from the last two samples
without moving backwards (R190). -/
def Lane.echoSource (ln : Lane) (k : Nat) (t : LTime) : Int :=
  let u := ln.echoU k
  let src := bits u.cfg 5 1
  if src < 8 then (ln.rd (POS_CNT src)).toInt
  else if src < 16 then (ln.hallU (src - 8)).count
  else
    let dt := since u.tLast u.tPrev
    if dt = 0 then u.src else u.src + (u.src - u.prev) * (min (since t u.tLast) dt) / dt

/-- E of R190 at a time. -/
def Lane.echoE (ln : Lane) (k : Nat) (t : LTime) : Int :=
  let u := ln.echoU k
  let s := ln.echoSource k t - u.base
  let s := if bit u.cfg 6 then -s else s
  s * (bits u.ratio 15 0 + 1) / (bits u.ratio 31 16 + 1)

/-- A re-base: S = 0 at the present source position, E = 0 (R193). -/
def Lane.echoRebase (ln : Lane) (k : Nat) (t : LTime) : Lane :=
  let ln := ln.setEcho k { ln.echoU k with base := ln.echoSource k t, e := 0, out := 0 }
  (ln.on (ECHO_STAT_REBASE k)).put (ECHO_STAT_BACKLOG k) 0

/-- The output holds while its source is invalid, and re-bases when it is valid again (R193). -/
def Lane.echoFollow (ln : Lane) (k : Nat) (t : LTime) : Lane :=
  let u := ln.echoU k
  let v := bit u.cfg 0 && ln.echoValid (bits u.cfg 5 1)
  let ln := ln.setEcho k { u with valid := v }
  let ln := (ln.putB (ECHO_STAT_ACTIVE k) v).putB (ECHO_STAT_HOLD k) (!v)
  if v && !u.valid then ln.echoRebase k t else ln

/-- A configuration written since the last frame start takes effect, with a re-base (R194). -/
def Lane.echoConfig (ln : Lane) (k : Nat) (t : LTime) : Lane :=
  let u := ln.echoU k
  let c := ln.rd (ECHO_CFG k)
  let r := ln.rd (ECHO_RATIO k)
  let i := ln.rd (ECHO_IPR k)
  if u.cfg = c ∧ u.ratio = r ∧ u.ipr = i then ln.echoFollow k t
  else ((ln.setEcho k { u with cfg := c, ratio := r, ipr := i }).echoRebase k t).echoFollow k t

/-- Both echo outputs follow their sources. -/
def Lane.echoAll (ln : Lane) (t : LTime) : Lane := (ln.echoFollow 0 t).echoFollow 1 t

/-- An echo output places an edge: one unit step of E on A or B (R190, R191); a lag of more than 256 edges is
discarded (R191). -/
def Lane.echoStep (ln : Lane) (k : Nat) (t : LTime) : Lane :=
  let ln := ln.echoFollow k t
  let u := ln.echoU k
  if !u.valid then ln
  else
    let e := ln.echoE k t
    let lag := (e - u.out).natAbs
    if 256 < lag then ((ln.on (ECHO_STAT_LAG k)).echoRebase k t)
    else
      let out := if u.out < e then u.out + 1 else if e < u.out then u.out - 1 else u.out
      let left := (e - out).natAbs
      let ln := ln.setEcho k { u with e := e, out := out }
      (ln.put (ECHO_STAT_BACKLOG k) left).putB (ECHO_STAT_SAT k) (decide (0 < left))

/-- The levels of the echo pins A, B and I (R192, R193): I is high at AB = 11 of each multiple of IPR while the output
does not hold. -/
def echoPins (u : EchoUnit) : Bool × Bool × Bool :=
  let q := u.out % 4
  let a := q == 1 || q == 2
  let b := q == 2 || q == 3
  let ipr : Int := bits u.ipr 23 0
  let i := u.valid && a && b && ipr != 0 && (u.out - 2) % ipr == 0
  if bit u.cfg 0 then (a, b, i) else (false, false, false)

/-! ### POS_CMD (R195) -/

/-- Clear the fault of an incremental channel, a triplet or a port (R170, R184, R187). -/
def Lane.clearFault (ln : Lane) (target : Nat) : Lane :=
  if target < 8 then
    let u := ln.inc target
    let sp := { u.speed with good := false, fresh := ln.is (POS_ISTAT_CFLT target) }
    let ln := ln.setInc target { u with coins := [], speed := if ln.is (POS_ISTAT_CFLT target) then sp else u.speed }
    (ln.put (POS_ISTAT_CFLT target) 0).put (POS_ISTAT_COINCNT target) 0
  else if target < 16 then
    let h := target - 8
    let u := ln.hallU h
    let had := ln.is (POS_HSTAT_HFLT h)
    let sp := if had then { u.speed with good := false, fresh := true } else u.speed
    let ln := ln.setHall h { u with skips := [], speed := sp }
    let st := hallState (ln.rd (POS_HCFG h)) u.lines
    let ln := ln.put (POS_HSTAT_HFLT h) 0
    ln.putB (POS_HSTAT_VALID h) (decide (1 ≤ st ∧ st ≤ 6) && ln.is (POS_HCFG_EN h))
  else if target < 18 then
    let m := target - 16
    (ln.setSsi m { ln.ssiU m with rejects := 0 }).put (POS_SS_STAT_SFLT m) 0
  else ln.on POS_IEN_REJ

/-- Re-reference the index of a channel (R195). -/
def Lane.reReference (ln : Lane) (target : Nat) : Lane :=
  if target < 8 then
    let ln := ln.setInc target { ln.inc target with idxRaw := (ln.rd (POS_RAW target)).toInt, missed := false }
    (ln.put (POS_ISTAT_SUSPECT target) 0).put (POS_ISTAT_REFD target) 0
  else ln.on POS_IEN_REJ

/-- Clear a drift statistic (R195). -/
def Lane.clearDrift (ln : Lane) (target : Nat) : Lane :=
  if target < 8 then ln.wr (POS_DRIFT target) 0 else ln.on POS_IEN_REJ

/-- A released POS_CMD store (R195). -/
def Lane.writePosCmd (ln : Lane) (v : Word) : Lane :=
  match bits v 11 8 with
  | 0x1 => ln.clearFault (bits v 4 0)
  | 0x2 => ln.reReference (bits v 4 0)
  | 0x3 => ln.clearDrift (bits v 4 0)
  | _ => ln.on POS_IEN_REJ

/-- Interrupt source 9 (R196). -/
def Lane.irqPos (ln : Lane) : Bool :=
  let incs := List.range 8
  (ln.is POS_IEN_ICORR && incs.any (fun n => ln.is (POS_ISTAT_CORR n))) ||
  (ln.is POS_IEN_IFLT && incs.any (fun n => ln.is (POS_ISTAT_IDXF n) || ln.is (POS_ISTAT_MISS n))) ||
  (ln.is POS_IEN_ICOIN && incs.any (fun n => ln.is (POS_ISTAT_COIN n) || ln.is (POS_ISTAT_GLITCH n) ||
    ln.is (POS_HSTAT_SKIP n) || ln.is (POS_HSTAT_INVS n))) ||
  (ln.is POS_IEN_IFAULT && (incs.any (fun n => ln.is (POS_ISTAT_CFLT n) || ln.is (POS_HSTAT_HFLT n)) ||
    ln.is (POS_SS_STAT_SFLT 0) || ln.is (POS_SS_STAT_SFLT 1))) ||
  (ln.is POS_IEN_IDIR && incs.any (fun n => ln.is (POS_ISTAT_DIRCH n) || ln.is (POS_HSTAT_DIRCH n))) ||
  (ln.is POS_IEN_IECHO && [0, 1].any (fun k => ln.is (ECHO_STAT_LAG k) || ln.is (ECHO_STAT_REBASE k)))

/-- The position unit at configuration lock (R168, R171, R182): counts 0, DIR 1, and the triplets read their lines. -/
def Lane.lockPos (ln : Lane) (t : LTime) : Lane :=
  (List.range 8).foldl (fun ln h => ln.hallLines h (ln.hallU h).lines t) ln

/-! ### The commands of the table -/

/-- An edge of an incremental channel has been accepted, or a glitch discarded (R165 to R175). -/
def execEdgeAccepted (l : LaneId) (n : Fin 8) (e : PosEdge) (t : LTime) (s : State) : Host.Outcome State Fault Refusal :=
  onLane s l (fun ln =>
    let ln := ln.at t
    let u := ln.inc n
    if !ln.is (POS_ICFG_EN n) then ln
    else
      let ln := match e with
        | .a v => ln.moveAB n v u.b t
        | .b v => ln.moveAB n u.a v t
        | .both a b => ln.coincide n a b t
        | .index v => ln.indexEdge n v
        | .glitch => ln.on (POS_ISTAT_GLITCH n)
      ln.echoAll t)

/-- The deadline of the oldest window that waits for its deciding edge (R177). -/
def execRefinementDeadline (l : LaneId) (k : Fin 16) (s : State) : Host.Outcome State Fault Refusal :=
  onLane s l (fun ln =>
    let u := ln.speedU k
    match u.ends with
    | [] => ln
    | t1 :: _ =>
      let rwait := if k.val < 8 then ln.get (POS_ICFG_RWAIT k) else 8
      let d := later t1 (rwait * usUnits)
      let ln := ln.at d
      match u.eb, u.ebb with
      | some eb, some ebb =>
        let ext := later eb.t (since eb.t ebb.t)
        ln.decideWindow k t1 (if timeLe d ext then ext else d) true true
      | _, _ => ln.decideWindow k t1 d true true)

/-- No counted edge has arrived for ZTMO: the published speed is 0 with ZERO set (R178). -/
def execZeroSpeedTimeout (l : LaneId) (k : Fin 16) (s : State) : Host.Outcome State Fault Refusal :=
  onLane s l (fun ln =>
    let u := ln.speedU k
    let z := later u.lastEdge ((ln.wmul k + 1) * msUnits)
    let ln := ln.at z
    let ln := ln.setSpeed k { u with zero := true }
    ln.publishSpeed k 0 (u.good && !ln.speedFault k && !u.fresh) false true z)

/-- State 0 or 7 has been held for 2 us: a hall fault (R184). -/
def execHallInvalidStateTimeout (l : LaneId) (h : Fin 8) (s : State) : Host.Outcome State Fault Refusal :=
  onLane s l (fun ln =>
    match (ln.hallU h).invalidSince with
    | some t => (ln.at (later t (2 * usUnits))).hallFault h
    | none => ln)

/-- An SSI frame ends and is judged (R187). -/
def execSsiFrameEnd (l : LaneId) (m : Fin 2) (d : SsiData) (t : LTime) (s : State) : Host.Outcome State Fault Refusal :=
  onLane s l (fun ln =>
    let ln := (ln.at t).ssiEnd m d t
    let ln := [0, 1].foldl (fun ln k => if bits (ln.echoU k).cfg 5 1 = 16 + m.val then ln.echoTake k t else ln) ln
    ln.echoAll t)

/-- An echo output places an edge (R190, R191). -/
def execEchoEdge (l : LaneId) (k : Fin 2) (t : LTime) (s : State) : Host.Outcome State Fault Refusal :=
  onLane s l (fun ln => (ln.at t).echoStep k t)

/-- POS_CMD clear fault (R195). -/
def execClearFault (l : LaneId) (target : Reg5) (s : State) : Host.Outcome State Fault Refusal :=
  onLane s l (fun ln => ln.clearFault target.toNat)

/-- POS_CMD re-reference index (R195). -/
def execReReferenceIndex (l : LaneId) (target : Reg5) (s : State) : Host.Outcome State Fault Refusal :=
  onLane s l (fun ln => ln.reReference target.toNat)

/-- POS_CMD clear drift statistic (R195). -/
def execClearDriftStatistic (l : LaneId) (target : Reg5) (s : State) : Host.Outcome State Fault Refusal :=
  onLane s l (fun ln => ln.clearDrift target.toNat)

/-- POS_SR_STAT is read: it latches the speed result (R181). -/
def execSpeedResultRead (l : LaneId) (k : Fin 16) (s : State) : Host.Outcome State Fault Refusal :=
  readLane s l (fun ln => ln.latch (POS_SR_STAT k) [POS_SR_SPDL k, POS_SR_SPDH k, POS_SR_TEND k])

/-- POS_SS_STAT is read: it latches the port's result (R188). -/
def execSsiResultRead (l : LaneId) (m : Fin 2) (s : State) : Host.Outcome State Fault Refusal :=
  readLane s l (fun ln => ln.latch (POS_SS_STAT m) [POS_SS_POS m, POS_SS_TS m])

end Sys2Proof.Machine
end

