-- ==== Sys2Proof/Machine/Pace.lean ====
section
/-!
DEFINITION. Lane time, the pace interlock and the lane-time compare (chapter 2, R38 to R60; R527).
-/

namespace Sys2Proof.Machine

open Sys2Proof

/-! ### Ceilings and rates (R38, R39, R49 to R51) -/

/-- The step ceiling of an operating point in ps (R38, R39). -/
def ceiling (eol : Bool) (p : Nat) : Nat := if eol then 1550 else if p = 1 then 1420 else if p = 2 then 1180 else 1020

/-- Quotient rounded up. -/
def ceilDiv (a b : Nat) : Nat := if b = 0 then 0 else (a + b - 1) / b

/-- The shortest control frame in units of 25 us at a ceiling in ps (R49). -/
def minFrame (ps : Nat) : Nat := max 4 (ceilDiv (96000 * ps) 25000000)

/-- The shortest PWM period in units of 250 ns for n channels (R49). -/
def minPwm (ps n : Nat) : Nat := max 100 (ceilDiv ((4000 + 5200 * n) * ps) 250000)

/-- Periods in PWM and FRAME units against R51: ranges, and a frame of 1 to 40 whole PWM periods. -/
def ratesOk (pwm frame : Nat) : Bool :=
  decide (100 ≤ pwm && pwm ≤ 800) && decide (4 ≤ frame && frame ≤ 40) && (frame * 100) % pwm == 0 &&
    decide (1 ≤ frame * 100 / pwm && frame * 100 / pwm ≤ 40)

/-- Periods no shorter than the minimums at a ceiling. -/
def ratesReach (ps n pwm frame : Nat) : Bool := decide (minPwm ps n ≤ pwm) && decide (minFrame ps ≤ frame)

/-- The number of channels configured in this lane. -/
def Lane.nChan (ln : Lane) : Nat := ((List.range 6).filter (fun c => ln.is (COMM_CHCFG_EN c))).length

def Lane.eolNow (ln : Lane) : Bool := ln.is PACE_STAT_EOL

/-- PWM and FRAME of a PACE_RATE value. -/
def ratePwm (v : Word) : Nat := bits v 9 0
def rateFrame (v : Word) : Nat := bits v 21 16

/-! ### Judging writes (R52 to R55, R60, R415) -/

/-- The modes in which pace writes are accepted (R60). -/
def Lane.paceMode (ln : Lane) : Bool :=
  let m := ln.modeNow
  m == modeStandby || m == modeArmed || m == modeService || m == modeRun3 || m == modeRun2 || m == modeLimp

/-- Show the held bits. -/
def Lane.showHeld (ln : Lane) : Lane :=
  (ln.putB PACE_STAT_HELD_V ln.pace.heldCtl.isSome).putB PACE_STAT_HELD_R ln.pace.heldRate.isSome

/-- Whether a target point respects R52: the periods in force and the waiting ones reach its minimums, or it is no
lower than the point in force. -/
def Lane.ctlLegal (ln : Lane) (p : Nat) : Bool :=
  let ps := ceiling ln.eolNow p
  let n := ln.nChan
  let live := ratesReach ps n (ln.get PACE_LIVE_PWM_LIVE) (ln.get PACE_LIVE_FR_LIVE)
  let wait := match ln.pace.waiting with
    | some v => ratesReach ps n (ratePwm v) (rateFrame v)
    | none => true
  (live && wait) || (decide (ln.get PACE_STAT_OP ≤ p) && decide (ln.pace.target ≤ p))

/-- Whether periods respect R52 at the ceiling in force. -/
def Lane.rateLegal (ln : Lane) (v : Word) : Bool :=
  ratesReach (ln.get PACE_STAT_CEIL_PS) ln.nChan (ratePwm v) (rateFrame v)

/-- The core voltage starts towards a point: during the move the ceiling is that of the lowest point met (R40, R58). -/
def Lane.applyCtl (ln : Lane) (p : Nat) : Lane :=
  let ln := (ln.put PACE_CTL_OPSEL p)
  let ln := { ln with pace := { ln.pace with heldCtl := none, target := p } }
  let ln := ln.showHeld
  if ln.get PACE_STAT_OP = p ∧ !ln.is PACE_STAT_SLEW then ln
  else (ln.on PACE_STAT_SLEW).put PACE_STAT_CEIL_PS (max (ln.get PACE_STAT_CEIL_PS) (ceiling ln.eolNow p))

/-- Accepted periods wait for PACE_APPLY (R56). -/
def Lane.applyRate (ln : Lane) (v : Word) : Lane :=
  let ln := (ln.put PACE_RATE_PWM (ratePwm v)).put PACE_RATE_FRAME (rateFrame v)
  ({ ln with pace := { ln.pace with heldRate := none, waiting := some v } }).showHeld

/-- A held PACE_RATE write is judged again (R53). -/
def Lane.judgeRate (ln : Lane) : Lane :=
  match ln.pace.heldRate with
  | some v => if ln.rateLegal v then ln.applyRate v else ln
  | none => ln

/-- A held PACE_CTL write is judged again. -/
def Lane.judgeCtl (ln : Lane) : Lane :=
  match ln.pace.heldCtl with
  | some v => if ln.ctlLegal (bits v 1 0) then ln.applyCtl (bits v 1 0) else ln
  | none => ln

/-- Both held writes are judged again. -/
def Lane.judgePace (ln : Lane) : Lane := ln.judgeCtl.judgeRate

/-- Whether the planner has barred a point (R415). -/
def Lane.barred (ln : Lane) (p : Nat) : Bool := (p == 1 && ln.nv.bar1) || (p == 2 && ln.nv.bar2)

/-- A write is held; one that replaces a held write sets SUPER (R53, R54). -/
def Lane.holdPace (ln : Lane) (replaced : Bool) : Lane :=
  let ln := ln.showHeld
  let ln := if replaced then (ln.on PACE_STAT_SUPER).logR 0x11 PACE_STAT 0 else ln
  ln.logR 0x10 PACE_STAT 0

/-- A write of PACE_CTL (R52 to R54, R60, R415). -/
def Lane.writePaceCtl (ln : Lane) (v : Word) : Lane :=
  let p := bits v 1 0
  if !ln.paceMode then ln.logR 0x12 PACE_STAT 0
  else if p = 0 then ln
  else if ln.barred p then (ln.on WEAR_STAT_BARW).logR 0x12 WEAR_STAT 0
  else if ln.ctlLegal p then (ln.applyCtl p).judgeRate
  else
    let had := ln.pace.heldCtl.isSome
    let ln := ln.put PACE_CTL_OPSEL p
    ({ ln with pace := { ln.pace with heldCtl := some v } }).holdPace had

/-- A write of PACE_RATE (R51 to R55, R60). -/
def Lane.writePaceRate (ln : Lane) (v : Word) : Lane :=
  let pwm := ratePwm v
  let frame := rateFrame v
  let n := ln.nChan
  if !ln.paceMode then ln.logR 0x12 PACE_STAT 0
  else if !ratesOk pwm frame || !ratesReach 1020 n pwm frame || (ln.eolNow && !ratesReach 1550 n pwm frame) then
    (ln.on PACE_STAT_REJ_R).logR 0x12 PACE_STAT 0
  else if ln.rateLegal v then (ln.applyRate v).judgeCtl
  else
    let had := ln.pace.heldRate.isSome
    let ln := (ln.put PACE_RATE_PWM pwm).put PACE_RATE_FRAME frame
    ({ ln with pace := { ln.pace with heldRate := some v } }).holdPace had

/-- The core voltage has reached its target (R40, R58). -/
def Lane.voltageReached (ln : Lane) : Lane :=
  if !ln.is PACE_STAT_SLEW then ln
  else
    let p := ln.pace.target
    let ln := ((ln.put PACE_STAT_OP p).put PACE_STAT_SLEW 0).put PACE_STAT_CEIL_PS (ceiling ln.eolNow p)
    ln.judgePace

/-! ### Frames on lane time (R46, R56) -/

/-- The frame and PWM periods in force, in lane-time units. -/
def Lane.frameUnits (ln : Lane) : Nat := ln.get PACE_LIVE_FR_LIVE * 200000
def Lane.pwmUnits (ln : Lane) : Nat := ln.get PACE_LIVE_PWM_LIVE * 2000

/-- The least lane time at or after `now` that lies a whole number of periods from the origin and is not the last
boundary taken. -/
def nextBoundary (now : LTime) (origin period : Nat) (last : Option LTime) : LTime :=
  let n := now.toNat
  let k := (n + period - origin % period) % period
  let b : LTime := BitVec.ofNat 64 (if k = 0 then n else n + (period - k))
  if last = some b then later b period else b

/-- The next control frame start (R46). -/
def Lane.nextFrame (ln : Lane) : LTime :=
  nextBoundary ln.lt (ln.rd TIME_FPHASE).toNat ln.frameUnits ln.pace.lastFrame

/-- The next PWM period start: periods follow one another without gaps within the frame (R46). -/
def Lane.nextPwm (ln : Lane) : LTime :=
  nextBoundary ln.lt (ln.rd TIME_FPHASE).toNat ln.pwmUnits ln.pace.lastPwm

/-- New periods take effect at a frame start at or after PACE_APPLY (R56). -/
def Lane.takeRates (ln : Lane) : Lane :=
  match ln.pace.waiting with
  | none => ln
  | some v =>
    if !atOrAfter (ln.rd TIME_FRAME) (ln.rd PACE_APPLY) then ln
    else
      let old := ln.get PACE_LIVE_FR_LIVE
      let ln := (ln.put PACE_LIVE_PWM_LIVE (ratePwm v)).put PACE_LIVE_FR_LIVE (rateFrame v)
      let ln := { ln with pace := { ln.pace with waiting := none } }
      if old = rateFrame v then ln
      else ln.wr TIME_FPHASE (BitVec.ofNat 32 (ln.lt.toNat % ln.frameUnits))

/-- Interrupt source 20 (R529). -/
def Lane.irqTime (ln : Lane) : Bool := ln.is TIME_CSTAT_IEN && ln.is TIME_CSTAT_MATCH

/-! ### The compare (R527) -/

/-- The compare value. -/
def Lane.cmpValue (ln : Lane) : LTime := ln.rd TIME_CMPHI ++ ln.rd TIME_CMPLO

/-- The armed compare matches where lane time has reached its value. -/
def Lane.tryMatch (ln : Lane) : Lane :=
  if ln.is TIME_CSTAT_ARM && decide (ln.cmpValue.toNat ≤ ln.lt.toNat) then (ln.on TIME_CSTAT_MATCH).put TIME_CSTAT_ARM 0
  else ln

/-- A write of TIME_CMPHI arms the compare. -/
def Lane.writeCmphi (ln : Lane) (v : Word) : Lane := ((ln.wr TIME_CMPHI v).on TIME_CSTAT_ARM).tryMatch

/-- A read of TIME_NOW_LO latches TIME_NOW_HI (R45). -/
def Lane.readNowLo (ln : Lane) : Word × Lane :=
  let lo := ln.lt.extractLsb' 0 32
  (lo, (ln.wr TIME_NOW_LO lo).wr TIME_NOW_HI (ln.lt.extractLsb' 32 32))

/-! ### The commands of the table -/

/-- The 10 us check of the crystal (R44): edges missing for 400 ns or a deviation of more than 2 % withdraw the lane. -/
def execCrystalCheck (l : LaneId) (missNs : Nat) (ppm : Int) (t : LTime) (s : State) : Host.Outcome State Fault Refusal :=
  onLane s l (fun ln =>
    let ln := ln.at t
    if 400 ≤ missNs ∨ 20000 < ppm.natAbs then ln.withdraw 0x06 0 else ln)

/-- PACE_CTL is written. -/
def execPaceCtlWrite (l : LaneId) (v : Word) (s : State) : Host.Outcome State Fault Refusal :=
  onLane s l (fun ln => ln.writePaceCtl v)

/-- PACE_RATE is written. -/
def execPaceRateWrite (l : LaneId) (v : Word) (s : State) : Host.Outcome State Fault Refusal :=
  onLane s l (fun ln => ln.writePaceRate v)

/-- The core voltage reaches its target (R58). -/
def execCoreVoltageReached (l : LaneId) (s : State) : Host.Outcome State Fault Refusal :=
  onLane s l (fun ln => ln.voltageReached)

/-- TIME_NOW_LO is read (R45). -/
def execTimeNowLoRead (l : LaneId) (t : LTime) (s : State) : Host.Outcome State Fault Refusal :=
  readLane s l (fun ln => (ln.at t).readNowLo)

/-- TIME_CMPHI is written (R527). -/
def execTimeCmphiWrite (l : LaneId) (v : Word) (t : LTime) (s : State) : Host.Outcome State Fault Refusal :=
  onLane s l (fun ln => (ln.at t).writeCmphi v)

/-- Lane time reaches the armed compare value (R527). -/
def execCompareMatch (l : LaneId) (s : State) : Host.Outcome State Fault Refusal :=
  onLane s l (fun ln => if ln.is TIME_CSTAT_ARM then (ln.at ln.cmpValue).tryMatch else ln)

end Sys2Proof.Machine
end

