-- ==== Sys2Proof/Machine/Power.lean ====
section
/-!
DEFINITION. Feeds and power domains (chapter 1, R19 to R34): presence and loss of a feed, the power fail, the judging
of PWR_DOMCTL and the steps of a switch sequence.
-/

namespace Sys2Proof.Machine

open Sys2Proof

/-! ### Feeds (R19 to R24) -/

def feedOkF : FeedId → Field
  | .f1 => PWR_FEED_F1_OK | .f2 => PWR_FEED_F2_OK

def feedLossF : FeedId → Field
  | .f1 => PWR_FEED_F1_LOSS | .f2 => PWR_FEED_F2_LOSS

def otherFeed : FeedId → FeedId
  | .f1 => .f2 | .f2 => .f1

/-- The feeds that supply the lane: the higher one, or both within 0.2 V (R20). -/
def Lane.showSources (ln : Lane) : Lane :=
  let ok1 := ln.is PWR_FEED_F1_OK
  let ok2 := ln.is PWR_FEED_F2_OK
  let d := ln.pwr.feed1 - ln.pwr.feed2
  let near := decide (d.natAbs ≤ 200)
  (ln.putB PWR_FEED_F1_SRC (ok1 && (!ok2 || near || decide (0 < d)))).putB PWR_FEED_F2_SRC
    (ok2 && (!ok1 || near || decide (d < 0)))

/-- A feed voltage as PWR_FEEDV shows it: 10 mV units, 0 at or below 0 V. -/
def feedWord (mv : Int) : Nat := min (mv.toNat / 10) 65535

/-- PWR_FEEDV is refreshed. -/
def Lane.showVolts (ln : Lane) (mv1 mv2 : Int) : Lane :=
  let ln := { ln with pwr := { ln.pwr with feed1 := mv1, feed2 := mv2 } }
  (ln.put PWR_FEEDV_F1V (feedWord mv1)).put PWR_FEEDV_F2V (feedWord mv2)

/-- Beyond the absolute limits of R535 no figure of the spec applies. -/
def feedBeyond (mv1 mv2 : Int) : Bool :=
  decide (mv1 < -36000) || decide (58000 < mv1) || decide (mv2 < -36000) || decide (58000 < mv2)

/-- The lane leaves power-on reset (R373): the always-on domain runs, and the start-up begins. -/
def Lane.release (ln : Lane) : Lane :=
  let ln := ln.showNv
  let ln := if ln.nv.pfail then ({ ln with nv := { ln.nv with pfail := false } }).on PWR_FEED_PFAIL else ln
  ln.beginInit

/-- Both feeds absent (R23): the lane withdraws, the log-line writer writes the power fail, all switched domains are
isolated, and the lane enters power-on reset. -/
def Lane.powerFail (ln : Lane) : Lane :=
  let ln := ln.withdraw 0x07 0
  let ln := (ln.logR 0x02 PWR_FEED 0).flushLog
  let ln := ln.put PWR_DOMSTAT_ISO 0xFF
  ({ ln with nv := { ln.nv with pfail := true } }).powerOnReset

/-- The loss of a feed that was present stands until the feed is present again (R357). -/
def Lane.setGone (ln : Lane) (f : FeedId) (b : Bool) : Lane :=
  match f with
  | .f1 => { ln with pwr := { ln.pwr with gone1 := b } }
  | .f2 => { ln with pwr := { ln.pwr with gone2 := b } }

/-- A feed has become present (R19). -/
def Lane.feedUp (ln : Lane) (f : FeedId) (t : LTime) : Lane :=
  let ln := if ln.is (feedOkF f) then ln else ln.setGone f false
  if ln.is (feedOkF f) then ln
  else if ln.pwr.stage == .reset then ((ln.on (feedOkF f)).showSources).release
  else ((ln.at t).on (feedOkF f)).showSources

/-- A present feed has fallen below 8.0 V (R22, R23). In SHUTDOWN after its sequence the loss of either feed leads to a
power-on reset (R379), which the remaining feed ends at once. -/
def Lane.feedDown (ln : Lane) (f : FeedId) (t : LTime) : Lane :=
  if !ln.is (feedOkF f) then ln
  else
    let ln := ln.at t
    let ln := (((ln.put (feedOkF f) 0).on (feedLossF f)).showSources)
    if ln.is (feedOkF (otherFeed f)) then
      let ln := ln.setGone f true
      let ln := ln.logR 0x01 PWR_FEED (match f with | .f1 => 1 | .f2 => 2)
      if ln.mode.shut == .done then
        ((ln.powerOnReset.on (feedOkF (otherFeed f))).showSources).release
      else if ln.mode.shut == .none then ln
      else { ln with mode := { ln.mode with heldWake := true } }
    else ln.powerFail

/-! ### PWR_DOMCTL (R28, R29, R33, R34) -/

/-- A channel that is commanded FREE throughout: OFF, LOST or not owned by the kernel. -/
def Lane.chanDisabled (ln : Lane) (c : Nat) : Bool :=
  let st := ln.get (COMM_CSTAT_STATE c)
  st == 0 || st == 7 || !ln.is (COMM_CHCFG_EN c)

/-- The domains whose state a PWR_DOMCTL value would change and may not: in another mode all of them; 1 and 2; one of a
pair without the other (R28); drives while a channel is driven, and an SRAM bank while its engines are on (R29). -/
def Lane.domRejected (ln : Lane) (v : Word) : List Nat :=
  let on (n : Nat) : Bool := vget ln.pwr.phase n .on == .on
  let change (n : Nat) : Bool := bit v n != on n
  let down (n : Nat) : Bool := change n && !bit v n
  let moded := ln.modeNow == modeStandby || ln.modeNow == modeService
  (List.range 8).filter (fun n =>
    change n && (!moded || decide (n < 2) ||
      ((n == 2 || n == 3) && (bit v 2 != bit v 3 ||
        (down n && !(List.range 6).all (fun c => ln.chanDisabled c)))) ||
      (n == 6 && down n && (bit v 2 || bit v 3)) ||
      (n == 5 && down n && (on 0 || on 1))))

/-- The switchings that an accepted value makes: those down in the reverse order of R32, then those up. -/
def Lane.domJobs (ln : Lane) (v : Word) : List DomJob :=
  let on (n : Nat) : Bool := vget ln.pwr.phase n .on == .on
  let downs := upOrder.reverse.filter (fun ds => ds.all (fun n => on n && !bit v n))
  let ups := upOrder.filter (fun ds => ds.all (fun n => !on n && bit v n))
  downs.map (fun d => ⟨d, false⟩) ++ ups.map (fun d => ⟨d, true⟩)

/-- A PWR_DOMCTL value is judged (R33). -/
def Lane.judgeDom (ln : Lane) (v : Word) : Lane :=
  let bad := ln.domRejected v
  let moded := ln.modeNow == modeStandby || ln.modeNow == modeService
  if bad.isEmpty && moded then
    ((ln.put PWR_DOMCTL_DOM v.toNat).startJobs (ln.domJobs v))
  else
    let rej := bad.foldl (fun n d => n + 2 ^ d) 0
    let ln := ln.put PWR_DOMSTAT_REJ ((BitVec.ofNat 8 (ln.get PWR_DOMSTAT_REJ) ||| BitVec.ofNat 8 rej).toNat)
    ln.logR 0x03 PWR_DOMSTAT rej

/-- A write of PWR_DOMCTL: held while a sequence runs, judged otherwise (R34). -/
def Lane.writeDomctl (ln : Lane) (v : Word) : Lane :=
  if ln.is PWR_DOMSTAT_BUSY then { ln with pwr := { ln.pwr with heldDom := ln.pwr.heldDom ++ [v] } } else ln.judgeDom v

/-- Held writes are judged in order, until one starts a sequence (R34). -/
def Lane.judgeHeldDom : Nat → Lane → Lane
  | 0, ln => ln
  | k + 1, ln =>
    if ln.is PWR_DOMSTAT_BUSY then ln
    else match ln.pwr.heldDom with
      | [] => ln
      | v :: rest => Lane.judgeHeldDom k (({ ln with pwr := { ln.pwr with heldDom := rest } }).judgeDom v)

/-! ### The steps of a switch sequence (R26, R31) -/

/-- What the clamp of a domain does to the units behind it (R26): the engines of a clamped pair stand still; the
communications domain transmits nothing; the analog front end shows no valid position. -/
def Lane.clampDomain (ln : Lane) (n : Nat) : Lane :=
  if n < 2 then { ln with helm := { ln.helm with run := .stopped } }
  else if n < 4 then ({ ln with drv := { ln.drv with run := .stopped } }.put LCTL_DSTAT_RUN 0).put LCTL_DSTAT_WAIT 0
  else if n = 7 then
    (List.range 8).foldl (fun ln k => (ln.put (POS_ISTAT_VALID k) 0).put (POS_HSTAT_VALID k) 0) ln
  else ln

/-- The head of the sequence is done when its domains stand where it leads; the next one begins. -/
def Lane.nextJob (ln : Lane) : Lane :=
  match ln.pwr.jobs with
  | [] => ln
  | j :: rest =>
    if ln.allPhase j.doms (if j.up then .on else .off) then
      (beginJobs 8 { ln with pwr := { ln.pwr with jobs := rest } }).showDomains
    else ln.showDomains

/-- A domain acknowledges quiet: its signals are clamped and its switch opens (R31). -/
def Lane.domQuiet (ln : Lane) (n : Nat) : Lane :=
  if vget ln.pwr.phase n .on == .quieting then ((ln.setPhase [n] .falling).clampDomain n).showDomains else ln

/-- Whether the switching in progress is one of a domain. -/
def Lane.switching (ln : Lane) (n : Nat) : Bool :=
  match ln.pwr.jobs with
  | j :: _ => j.doms.contains n
  | [] => false

/-- Its rail has fallen below retention. -/
def Lane.domOff (ln : Lane) (n : Nat) : Lane :=
  if vget ln.pwr.phase n .on == .falling && ln.switching n then (ln.setPhase [n] .off).nextJob else ln

/-- Its rail is stable: reset and isolation are released. -/
def Lane.domStable (ln : Lane) (n : Nat) : Lane :=
  if vget ln.pwr.phase n .on == .rising then (ln.setPhase [n] .on).nextJob else ln

/-- Whether a switched domain (1 to 8) is powered and its isolation released. -/
def Lane.domOn (ln : Lane) (d : Nat) : Bool :=
  match vget ln.pwr.phase (d - 1) .on with
  | .on | .quieting => true
  | _ => false

/-- Interrupt source 17 (R529). -/
def Lane.irqPwr (ln : Lane) : Bool :=
  (ln.is PWR_IEN_IFEED && (ln.is PWR_FEED_F1_LOSS || ln.is PWR_FEED_F2_LOSS || ln.is PWR_FEED_REVB || ln.is PWR_FEED_PFAIL)) ||
  (ln.is PWR_IEN_IDOM && ln.get PWR_DOMSTAT_REJ != 0) ||
  (ln.is PWR_IEN_IPACE && (ln.is PACE_STAT_REJ_R || ln.is PACE_STAT_SUPER))

/-! ### The commands of the table -/

/-- A feed has been above 8.6 V for 1 ms (R19). -/
def execFeedPresent (l : LaneId) (f : FeedId) (t : LTime) (s : State) : Host.Outcome State Fault Refusal :=
  onLane s l (fun ln => ln.feedUp f t)

/-- A present feed falls below 8.0 V (R22, R23). -/
def execFeedLoss (l : LaneId) (f : FeedId) (t : LTime) (s : State) : Host.Outcome State Fault Refusal :=
  onLane s l (fun ln => ln.feedDown f t)

/-- An ideal-diode element turned off on reverse current (R21). -/
def execReverseCurrentTurnOff (l : LaneId) (_f : FeedId) (s : State) : Host.Outcome State Fault Refusal :=
  onLane s l (fun ln => ln.on PWR_FEED_REVB)

/-- PWR_FEEDV takes the present feed voltages, in mV. -/
def execFeedVoltageRefresh (l : LaneId) (mv1 mv2 : Int) (t : LTime) (s : State) : Host.Outcome State Fault Refusal :=
  if feedBeyond mv1 mv2 then .fault .absoluteLimit
  else
    onLane s l (fun ln =>
      if ln.pwr.stage == .reset then { ln with pwr := { ln.pwr with feed1 := mv1, feed2 := mv2 } }
      else (ln.at t).showVolts mv1 mv2)

/-- The feeds' voltages have moved so that another feed supplies the lane (R20). -/
def execFeedSourceChange (l : LaneId) (mv1 mv2 : Int) (s : State) : Host.Outcome State Fault Refusal :=
  if feedBeyond mv1 mv2 then .fault .absoluteLimit
  else onLane s l (fun ln => ({ ln with pwr := { ln.pwr with feed1 := mv1, feed2 := mv2 } }).showSources)

/-- A feed is connected with reversed polarity: it supplies nothing, reads 0 and sets REVB (R21). -/
def execFeedReversedPolarity (l : LaneId) (f : FeedId) (s : State) : Host.Outcome State Fault Refusal :=
  onLane s l (fun ln =>
    let ln := ln.on PWR_FEED_REVB
    match f with
    | .f1 => ({ ln with pwr := { ln.pwr with feed1 := 0 } }).put PWR_FEEDV_F1V 0
    | .f2 => ({ ln with pwr := { ln.pwr with feed2 := 0 } }).put PWR_FEEDV_F2V 0)

/-- PWR_DOMCTL is written (R33). -/
def execPwrDomctlWrite (l : LaneId) (v : Word) (s : State) : Host.Outcome State Fault Refusal :=
  onLane s l (fun ln => ln.writeDomctl v)

/-- A domain acknowledges quiet (R31). -/
def execDomainQuietAcknowledge (l : LaneId) (d : Fin 8) (s : State) : Host.Outcome State Fault Refusal :=
  onLane s l (fun ln => ln.domQuiet d)

end Sys2Proof.Machine
end

