-- ==== Sys2Proof/Machine/Wear.lean ====
section
/-!
DEFINITION. Chafe monitors, the wear planner, edge times, reserves and wear records (chapter 14, R408 to R424).
-/

namespace Sys2Proof.Machine

open Sys2Proof

/-! ### Drift (R409, R410) -/

/-- The baseline count at an operating point and temperature: the factory counts at -40, 25, 105 and 150 degrees,
interpolated linearly (R409). -/
def baselineN0 (m op : Nat) (tj : Int) : Int :=
  let at' (t : Int) : Int := Config.factoryN0 m op t
  let lin (a b : Int) : Int := at' a + quotI ((at' b - at' a) * (tj - a)) (b - a)
  if tj < 25 then lin (-40) 25 else if tj < 105 then lin 25 105 else lin 105 150
where
  quotI (n d : Int) : Int := if d = 0 then 0 else (2 * n + d) / (2 * d)

/-- The drift of a window, in units of 10^-8 (R409). -/
def windowDrift (n0 n : Int) : Int := if n = 0 then 0 else (2 * (n0 - n) * 100000000 + n) / (2 * n)

/-- The mean of the accepted windows, in 0.01 %. -/
def meanDrift (l : List Int) : Int :=
  let k : Int := l.length
  if k = 0 then 0 else (2 * l.foldl (· + ·) 0 + k * 10000) / (2 * k * 10000)

/-- A published drift: 16 bits, signed. -/
def Lane.driftOf (ln : Lane) (d : Nat) : Int := (BitVec.ofNat 16 (ln.get (WEAR_CHAFE_DRIFT d))).toInt

/-- The lane drift: the largest published drift of domains 1 to 8 (R410). -/
def Lane.laneDrift (ln : Lane) : Int :=
  (List.range 8).foldl (fun m d => max m (ln.driftOf d)) (ln.driftOf 0)

/-! ### The planner (R411 to R416) -/

/-- The drift limit of an operating point in 0.01 % (R412). -/
def guardLimit (op : Nat) : Int := if op = 1 then 1570 else if op = 2 then 3920 else 6100

/-- The guard of R412 acts on a published D. -/
def Lane.wearGuard (ln : Lane) : Lane :=
  let d := ln.laneDrift
  if ln.is WEAR_STAT_GUARD then ln
  else if decide (600 ≤ d) && !ln.eolNow then (ln.on WEAR_STAT_GUARD).withdraw 0x0A 1
  else if guardLimit (ln.get PACE_STAT_OP) ≤ d then (ln.on WEAR_STAT_GUARD).withdraw 0x0A 0
  else ln

/-- A barred point: a held write that selects it is discarded, and a lane that is at it or on its way to it is raised
(R412, R415). -/
def Lane.raiseFrom (ln : Lane) (p : Nat) : Lane :=
  let ln := match ln.pace.heldCtl with
    | some v =>
      if bits v 1 0 = p then
        (({ ln with pace := { ln.pace with heldCtl := none } }).put PACE_CTL_OPSEL ln.pace.target).showHeld
      else ln
    | none => ln
  if ln.pace.target = p then (ln.applyCtl (p + 1)).judgeRate else ln

def Lane.bar1 (ln : Lane) : Lane :=
  if ln.nv.bar1 then ln
  else ((({ ln with nv := { ln.nv with bar1 := true } }).on WEAR_STAT_BAR1).logR 0x83 WEAR_STAT 1).raiseFrom 1

def Lane.bar2 (ln : Lane) : Lane :=
  if ln.nv.bar2 then ln
  else ((({ ln with nv := { ln.nv with bar2 := true } }).on WEAR_STAT_BAR2).logR 0x83 WEAR_STAT 2).raiseFrom 2

/-- The end-of-life request in this lane's entry (R413). -/
def Lane.askEol (ln : Lane) : Lane := if ln.eolNow then ln else ln.on WEAR_STAT_EOLQ

/-- The planner's action at a threshold (R412, R416). -/
def Lane.planStep (ln : Lane) : PlanStep → Lane
  | .d5 => ln.askEol
  | .d12 => ln.askEol.bar1
  | .d35 => ln.askEol.bar1.bar2
  | .d55 =>
    let ln := ln.askEol.bar1.bar2
    if ln.nv.wout then ln
    else (({ ln with nv := { ln.nv with wout := true } }).on WEAR_STAT_WOUT).logR 0x85 WEAR_STAT 0

/-- What every running lane's planner does at F (R413). -/
def Lane.planEol (ln : Lane) : Lane :=
  let f := ln.rd TIME_FRAME + 16
  let ln := (ln.on WEAR_STAT_PLANP).wr PACE_APPLY f
  let ln := { ln with wear := { ln.wear with eolAt := some f } }
  if ratesReach 1550 ln.nChan (ln.get PACE_LIVE_PWM_LIVE) (ln.get PACE_LIVE_FR_LIVE) then ln
  else ln.writePaceRate (ln.rd WEAR_PLANCFG)

/-- The end-of-life state comes into force (R39, R413). -/
def Lane.enterEol (ln : Lane) : Lane :=
  let ln := { ln with nv := { ln.nv with eol := true }, wear := { ln.wear with eolAt := none } }
  ((ln.on PACE_STAT_EOL).put PACE_STAT_CEIL_PS 1550).logR 0x82 WEAR_STAT 0

/-- The planner at a frame start: F, and the frame 16 later (R413). -/
def Lane.planFrame (ln : Lane) : Lane :=
  if ln.eolNow then ln
  else
    match ln.wear.eolAt with
    | some f => if ln.rd TIME_FRAME = f then ln.enterEol else ln
    | none =>
      let asked := LaneId.all.any (fun l => isRunning (ln.agr.vec.get l).lstate && (ln.agr.vec.get l).eolq)
      if asked && isRunning ln.lstate then ln.planEol
      else if asked && decide (2 < ln.lstate) && ln.lstate != lsBarred then ln.enterEol
      else ln

/-! ### Reserves (R421 to R423) -/

/-- The channels that a configuration of four or fewer leaves unused (R421). -/
def Lane.unusedChans (ln : Lane) : List Nat :=
  if ln.nChan ≤ 4 then (List.range 6).filter (fun c => !ln.is (COMM_CHCFG_EN c)) else []

/-- Show the reserves in use. -/
def Lane.showReserves (ln : Lane) : Lane :=
  let used := ln.nv.convs.map (·.2)
  let spare := (List.range 4).foldl (fun n k => n + 2 ^ k * b2n (used.contains (24 + k))) 0
  let hi := (List.range 18).foldl (fun n k => n + 2 ^ k * b2n (ln.nv.stages.getLsbD (2 * k))) 0
  let lo := (List.range 18).foldl (fun n k => n + 2 ^ k * b2n (ln.nv.stages.getLsbD (2 * k + 1))) 0
  let stg := (List.range 37).foldl (fun n k => n + b2n (ln.nv.stages.getLsbD k)) 0
  let ln := ((ln.put WEAR_RSV_SPARE spare).put WEAR_RSV_POOLC (used.filter (fun r => decide (r < 24))).length).put
    WEAR_RSV_POOLS ln.nv.senses.length
  let ln := ln.put WEAR_RSV_STG stg
  (ln.wr BRDG_RSVH (BitVec.ofNat 32 (hi + 262144 * b2n (ln.nv.stages.getLsbD 36)))).wr BRDG_RSVL (BitVec.ofNat 32 lo)

/-- A reserve was switched in: RSVEV and the reserve event with the part's number. -/
def Lane.reserveIn (ln : Lane) (part : Nat) : Lane := ((ln.on WEAR_STAT_RSVEV).showReserves).logR 0x80 WEAR_RSV part

/-- A need found no reserve (R423). -/
def Lane.reserveMissing (ln : Lane) (part : Nat) : Lane := (ln.on WEAR_STAT_NORES).logR 0x81 WEAR_STAT part

/-- The same for a gate output (R289, R423). -/
def Lane.stageMissing (ln : Lane) (o : Nat) : Lane := (ln.on BRDG_STAT_NORSV).logR 0x81 BRDG_STAT o

/-- The reserve that a converter in need takes: its group's spare, then a pool converter (R421). -/
def Lane.convReserve (ln : Lane) (k : Nat) : Option Nat :=
  let taken := ln.nv.convs.map (·.2) ++ ln.wear.shadow.map (fun x => x.2.1)
  let spare := 24 + k / 6
  let pool := (ln.unusedChans.map (fun c => [4 * c, 4 * c + 1, 4 * c + 2, 4 * c + 3])).foldl (· ++ ·) []
  (spare :: pool).find? (fun r => !taken.contains r)

/-- A converter needs a replacement (R418): its reserve begins to shadow it. -/
def Lane.convNeed (ln : Lane) (k : Nat) : Lane :=
  if ln.wear.shadow.any (fun x => x.1 == k) || ln.wear.needConv.contains k then ln
  else
    match ln.convReserve k with
    | some r => { ln with wear := { ln.wear with shadow := ln.wear.shadow ++ [(k, r, 0)] } }
    | none => ({ ln with wear := { ln.wear with needConv := ln.wear.needConv ++ [k] } }).reserveMissing k

/-- A PWM period passes for the reserves that shadow. -/
def Lane.shadowPeriod (ln : Lane) : Lane :=
  { ln with wear := { ln.wear with shadow := ln.wear.shadow.map (fun x => (x.1, x.2.1, min (x.2.2 + 1) 64)) } }

/-- A reserve converter that has shadowed 64 periods takes over (R421). -/
def Lane.takeover (ln : Lane) (k : Nat) : Lane :=
  match ln.wear.shadow.find? (fun x => x.1 == k) with
  | some (_, r, n) =>
    if n < 64 then ln
    else
      ({ ln with
          wear := { ln.wear with shadow := ln.wear.shadow.filter (fun x => x.1 != k) }
          nv := { ln.nv with convs := keyPut ln.nv.convs k r } }).reserveIn k
  | none => ln

/-- A sense path, numbered 3 * channel + phase, needs a replacement (R419). -/
def Lane.senseNeed (ln : Lane) (p : Nat) : Lane :=
  if ln.wear.needSense.contains p || (keyGet ln.nv.senses p).isSome then ln
  else
    let ln := { ln with wear := { ln.wear with needSense := ln.wear.needSense ++ [p] } }
    if ln.unusedChans.isEmpty then ln.reserveMissing (64 + p) else ln

/-- The sense paths in need of a channel are replaced, at its entry to OFF or at a start (R421). -/
def Lane.switchSense (ln : Lane) (c : Nat) : Lane :=
  let need := ln.wear.needSense.filter (fun p => p / 3 == c)
  need.foldl (fun ln p =>
    let pool := (ln.unusedChans.map (fun c => [3 * c, 3 * c + 1, 3 * c + 2])).foldl (· ++ ·) []
    let used := ln.nv.senses.map (·.2)
    match pool.find? (fun q => !used.contains q) with
    | some q =>
      ({ ln with
          wear := { ln.wear with needSense := ln.wear.needSense.filter (· != p) }
          nv := { ln.nv with senses := keyPut ln.nv.senses p q } }).reserveIn (64 + p)
    | none => ln) ln

/-- A gate output needs its reserve stage (R417, R289). -/
def Lane.stageNeed (ln : Lane) (o : Nat) : Lane :=
  if ln.wear.needStage.getLsbD o then ln
  else if ln.nv.stages.getLsbD o then ln.stageMissing o
  else { ln with wear := { ln.wear with needStage := ln.wear.needStage ||| BitVec.ofNat 37 (2 ^ o) } }

/-- A gate output changes to its reserve stage (R270, R421). -/
def Lane.stageSwitch (ln : Lane) (o : Nat) : Lane :=
  let b := BitVec.ofNat 37 (2 ^ o)
  ({ ln with
      wear := { ln.wear with needStage := ln.wear.needStage &&& ~~~b }
      nv := { ln.nv with stages := ln.nv.stages ||| b } }).reserveIn (128 + o)

/-! ### Edge times and baselines (R417) -/

def meanNat (l : List Nat) : Nat := if l.isEmpty then 0 else (l.foldl (· + ·) 0 + l.length / 2) / l.length

/-- An output whose rise or fall time exceeds its fixed baseline by 20 % needs its reserve stage. -/
def Lane.judgeEdge (ln : Lane) (o : Nat) : Lane :=
  let w := vget ln.wear.edges o ⟨[], []⟩
  let b := vget ln.nv.base o .reset
  let r := meanNat w.rises
  let f := meanNat w.falls
  let ln := if b.fixed then
      { ln with wear := { ln.wear with rise := max ln.wear.rise (max (r - b.rise) (f - b.fall)) } }
    else ln
  if b.fixed && (decide (6 * b.rise < 5 * r) || decide (6 * b.fall < 5 * f)) then ln.stageNeed o else ln

/-- A measured edge of an output, in ns. -/
def Lane.edgeTime (ln : Lane) (o : Nat) (rise : Bool) (ns : Nat) : Lane :=
  let f (w : EdgeWin) : EdgeWin :=
    if rise then { w with rises := (ns :: w.rises).take 4096 } else { w with falls := (ns :: w.falls).take 4096 }
  ({ ln with wear := { ln.wear with edges := vmod ln.wear.edges o f } }).judgeEdge o

/-- Every baseline starts anew (R417). -/
def Lane.resetBaselines (ln : Lane) : Lane :=
  ({ ln with nv := { ln.nv with base := Vector.replicate 37 .reset } }).logR 0x84 WEAR_STAT 0

/-- A released WEAR_CMD: BASE, or discarded. -/
def Lane.writeWearCmd (ln : Lane) (v : Word) : Lane := if bits v 3 0 = 1 then ln.resetBaselines else ln

/-! ### Auto-zero (R418, R419) -/

/-- One auto-zero of a converter: shown in BRDG_OFF, and judged over 1,024 acquisitions against the factory value. -/
def Lane.autoZero (ln : Lane) (k : Nat) (v : Int) : Lane :=
  let part := (keyGet ln.nv.convs k).getD k
  let ln := ln.wr (BRDG_OFF part) (BitVec.ofNat 32 (BitVec.ofInt 16 v).toNat)
  let (sum, n) := (keyGet ln.wear.zero part).getD (0, 0)
  let sum := sum + v
  if n + 1 < 1024 then { ln with wear := { ln.wear with zero := keyPut ln.wear.zero part (sum, n + 1) } }
  else
    let dev := (sum - 1024 * Config.factoryOff ln.id part).natAbs
    let ln := { ln with
      wear := { ln.wear with zero := keyDrop ln.wear.zero part, offset := max ln.wear.offset (dev / 1024) } }
    if 164 * 1024 < dev then ln.convNeed k else ln

/-- The auto-zeroes and hold errors of a channel's acquisition. -/
def Lane.autoZeroChan (ln : Lane) (c : Nat) (zero holdUv : List Int) : Lane :=
  let ln := (zero.take 4).zipIdx.foldl (fun ln x => ln.autoZero (4 * c + x.2) x.1) ln
  (holdUv.take 3).zipIdx.foldl (fun ln x => if 800 < x.1.natAbs then ln.senseNeed (3 * c + x.2) else ln) ln

/-! ### Wear records (R424) -/

/-- A wear record of the present state. -/
def Lane.wearRec (ln : Lane) : WearRec :=
  { hours := ln.nv.hours, tjMax := ln.wear.tjMax, chafe := (List.range 9).map (fun d => ln.rd (WEAR_CHAFE d)),
    rise := ln.wear.rise, offset := ln.wear.offset, rsv := ln.rd WEAR_RSV, planner := ln.rd WEAR_STAT }

/-- The record joins the hourly ring, and as every 24th the daily one. -/
def Lane.writeWearRec (ln : Lane) : Lane :=
  let r := ln.wearRec
  let daily := if ln.nv.hours % 24 = 0 then (r :: ln.nv.daily).take 512 else ln.nv.daily
  { ln with nv := { ln.nv with hourly := (r :: ln.nv.hourly).take 1024, daily := daily } }

/-! ### The commands of the table -/

/-- A monitor's window of 1 ms ends with its count and temperature (R409, R411, R412). -/
def execChafeWindow (l : LaneId) (d : Fin 9) (n : Nat) (tj : Int) (s : State) : Host.Outcome State Fault Refusal :=
  onLane s l (fun ln =>
    if d.val < 8 && !ln.domOn (d.val + 1) then ln
    else if 3 ≤ ln.nv.baseBad then (ln.on WEAR_STAT_BASEF).planStep .d12
    else if ln.is PACE_STAT_SLEW || decide (tj < -40) || decide (150 < tj) || n == 0 then ln
    else
      let x := windowDrift (baselineN0 d (ln.get PACE_STAT_OP) tj) n
      let w := (x :: vget ln.wear.wins d []).take 1024
      let ln := { ln with wear := { ln.wear with wins := vset ln.wear.wins d w, tjMax := max ln.wear.tjMax tj } }
      let ln := ln.put (WEAR_CHAFE_DRIFT d) (BitVec.ofInt 16 (clampI (meanDrift w) (-32768) 32767)).toNat
      let ln := ln.put (WEAR_CHAFE_TJ d) (tj + 40).toNat
      let ln := ln.put WEAR_STAT_D (BitVec.ofInt 16 ln.laneDrift).toNat
      if d.val < 8 then ln.wearGuard else ln)

/-- D has stood at or above a threshold for 60 s (R412). -/
def execPlannerThreshold (l : LaneId) (th : PlanStep) (s : State) : Host.Outcome State Fault Refusal :=
  onLane s l (fun ln => ln.planStep th)

/-- An hour of powered time has passed (R424). -/
def execWearRecord (l : LaneId) (s : State) : Host.Outcome State Fault Refusal :=
  onLane s l (fun ln => ({ ln with nv := { ln.nv with hours := ln.nv.hours + 1 } }).writeWearRec)

/-- The 10 h of a baseline have passed, with its mean rise and fall (R417). -/
def execBaselinePeriodEnd (l : LaneId) (o : Fin 37) (rise fall : Nat) (s : State) : Host.Outcome State Fault Refusal :=
  onLane s l (fun ln => ({ ln with nv := { ln.nv with base := vset ln.nv.base o ⟨rise, fall, true⟩ } }).judgeEdge o)

/-- A reserve converter takes over (R421). -/
def execConverterTakeover (l : LaneId) (k : Fin 24) (s : State) : Host.Outcome State Fault Refusal :=
  onLane s l (fun ln => ln.takeover k)

/-- WEAR_CMD BASE (R417). -/
def execBase (l : LaneId) (s : State) : Host.Outcome State Fault Refusal :=
  onLane s l (fun ln => ln.resetBaselines)

end Sys2Proof.Machine
end

