-- ==== Sys2Proof/Machine/Commutation.lean ====
section
/-!
DEFINITION. The states of a channel, COMM_CMD, the catch, the agreed inputs of the kernel, speed ramps and the drive
deficit (chapter 7, R209, R213, R218 to R229, R231, R235 to R237).
-/

namespace Sys2Proof.Machine

open Sys2Proof

def csOff : Nat := 0
def csCatch : Nat := 1
def csAgree : Nat := 2
def csShort : Nat := 3
def csAlign : Nat := 4
def csRamp : Nat := 5
def csRun : Nat := 6
def csLost : Nat := 7

def Lane.chanU (ln : Lane) (c : Nat) : ChanUnit := vget ln.comm.ch c .reset
def Lane.setChanU (ln : Lane) (c : Nat) (u : ChanUnit) : Lane :=
  { ln with comm := { ln.comm with ch := vset ln.comm.ch c u } }

def Lane.cst (ln : Lane) (c : Nat) : Nat := ln.get (COMM_CSTAT_STATE c)

/-- A channel changes its state: EVT is set. -/
def Lane.setCst (ln : Lane) (c st : Nat) : Lane :=
  if ln.cst c = st then ln.setChanU c { ln.chanU c with stateAt := ln.lt }
  else ((ln.put (COMM_CSTAT_STATE c) st).on (COMM_CSTAT_EVT c)).setChanU c { ln.chanU c with stateAt := ln.lt }

def Lane.sens (ln : Lane) (c : Nat) : Nat := ln.get (COMM_CHCFG_SENS c)
def Lane.sensored (ln : Lane) (c : Nat) : Bool := ln.sens c == 1 || ln.sens c == 2
def Lane.isBrake (ln : Lane) (c : Nat) : Bool := ln.get (COMM_CHCFG_ROLE c) == 2

/-- The hall of a channel is valid. -/
def Lane.hallOk (ln : Lane) (c : Nat) : Bool :=
  let h := ln.get (COMM_CHCFG_HSEL c)
  ln.is (POS_HSTAT_VALID h) && !ln.is (POS_HSTAT_HFLT h)

/-- A channel enters OFF; sense paths in need are replaced then (R421). -/
def Lane.chanOff (ln : Lane) (c : Nat) : Lane :=
  let ln := (ln.setCst c csOff).setChanU c { ln.chanU c with recatch := false, handPass := none, slowCount := 0 }
  ((ln.put (COMM_CSTAT_TVALID c) 0).put (COMM_CSTAT_HUSE c) 0).switchSense c

/-- A channel becomes LOST (R220): its command is FREE from the next shadow load. -/
def Lane.chanLost (ln : Lane) (c : Nat) : Lane :=
  if ln.cst c = csLost then ln
  else
    let ln := ((ln.setCst c csLost).put (COMM_CSTAT_TVALID c) 0).put (COMM_CSTAT_HUSE c) 0
    let ln := ln.setChanU c { ln.chanU c with windLoss := true }
    ln.logR 0x32 (COMM_CSTAT c) c

/-- A channel enters RUN: from START or at a rejoin (0), from RAMP (1) or CLASS 2 (2), with presets due (R227, R260). -/
def Lane.chanRun (ln : Lane) (c origin : Nat) : Lane :=
  let ln := ln.setCst c csRun
  let u := ln.chanU c
  let ln := ln.setChanU c { u with
    presetFrom := origin, windLoss := false, sampled := false, hxCount := 0, slowCount := 0, handPass := none, recatch := false }
  ln.putB (COMM_CSTAT_HUSE c) (ln.sensored c && ln.hallOk c && !ln.is (COMM_CSTAT_HXF c))

/-- A channel enters CATCH (R223). -/
def Lane.chanCatch (ln : Lane) (c : Nat) : Lane :=
  let ln := ln.setCst c csCatch
  let ln := ln.put (COMM_CSTAT_TVALID c) 0
  ln.setChanU c { ln.chanU c with catching := .reset, rawCatch := none, handPass := none, recatch := false }

/-- A failed attempt: the catch is repeated, and the third one sets SFLT and ends the START (R224, R227). -/
def Lane.chanRetry (ln : Lane) (c : Nat) : Lane :=
  let n := ln.get (COMM_CSTAT_ATT c) + 1
  let ln := ln.put (COMM_CSTAT_ATT c) (min n 3)
  if 3 ≤ n then (ln.on (COMM_CSTAT_SFLT c)).chanOff c else ln.chanCatch c

/-! ### COMM_CMD (R221, R222) -/

/-- START of a channel in OFF (R222). -/
def Lane.startChan (ln : Lane) (c : Nat) (fwd : Bool) : Lane :=
  let ln := (ln.put (COMM_CSTAT_ATT c) 0).put (COMM_CSTAT_LOWSPD c) 0
  let ln := ln.setChanU c { ln.chanU c with fwd := fwd }
  if ln.sensored c then
    if ln.hallOk c then ln.chanRun c 0
    else if ln.is (COMM_CHCFG_SFB c) then ln.chanCatch c
    else ln.on (COMM_CSTAT_SFLT c)
  else ln.chanCatch c

/-- An operation of COMM_CMD applies, or is discarded with REJ (R221). -/
def Lane.applyComm (ln : Lane) (op c : Nat) : Lane :=
  let st := ln.cst c
  if !ln.is (COMM_CHCFG_EN c) then ln.on COMM_IEN_REJ
  else
    match op with
    | 1 => if st = csOff && isDriveMode ln.modeNow then ln.startChan c true else ln.on COMM_IEN_REJ
    | 2 => if st = csOff && isDriveMode ln.modeNow then ln.startChan c false else ln.on COMM_IEN_REJ
    | 3 => if st = csLost then ln.on COMM_IEN_REJ else ln.chanOff c
    | 4 =>
      let ln := ((ln.put (COMM_CSTAT_SFLT c) 0).put (COMM_CSTAT_DEF c) 0).put (COMM_CSTAT_HXF c) 0
      let ln := (ln.put (COMM_CSTAT_BADC c) 0).put (COMM_CSTAT_DEFCNT c) 0
      let ln := ln.setChanU c { ln.chanU c with hxCount := 0 }
      if st = csLost then ln.chanOff c else ln
    | _ => ln.on COMM_IEN_REJ

/-- A COMM_CMD store is released (R221, R57). -/
def Lane.writeCommCmd (ln : Lane) (v : Word) : Lane :=
  let c := bits v 2 0
  let op := bits v 7 4
  let n := framesAhead (v.extractLsb' 16 16) (ln.rd TIME_FRAME)
  if decide (c < 6) && decide (1 ≤ op && op ≤ 4) && decide (1 ≤ n && n ≤ 256) && ln.is (COMM_CHCFG_EN c) then
    { ln with comm := { ln.comm with cmds := ln.comm.cmds ++ [⟨c, op, v.extractLsb' 16 16⟩] } }
  else ln.on COMM_IEN_REJ

/-- The commands whose frame starts now, in the order of their release. -/
def Lane.applyCommCmds (ln : Lane) : Lane :=
  let due := ln.comm.cmds.filter (fun k => k.frame == ln.frame16)
  let ln := { ln with comm := { ln.comm with cmds := ln.comm.cmds.filter (fun k => k.frame != ln.frame16) } }
  due.foldl (fun ln k => ln.applyComm k.op k.target) ln

/-- The channels of a lane that leaves the drive modes enter OFF, but for LOST ones (R221). -/
def Lane.allOff (ln : Lane) : Lane :=
  (List.range 6).foldl (fun ln c => if ln.cst c = csLost then ln else ln.chanOff c) ln

/-! ### Catch (R223 to R225, R280) -/

/-- The place of the line-voltage signs in the forward sequence. -/
def signIndex (a b c : Bool) : Option Nat :=
  match a, b, c with
  | true, true, false => some 0
  | false, true, false => some 1
  | false, true, true => some 2
  | false, false, true => some 3
  | true, false, true => some 4
  | true, false, false => some 5
  | _, _, _ => none

/-- One sample of the three switch nodes. -/
def catchStep (k : CatchUnit) (u v w : Int) (t : LTime) : CatchUnit :=
  let a := u - v
  let b := v - w
  let c := w - u
  let sg := (decide (0 < a), decide (0 < b), decide (0 < c))
  let peak := max k.peak (max a.natAbs (max b.natAbs c.natAbs))
  match k.signs with
  | none => { k with signs := some sg, peak := peak, last := some (u, v, w) }
  | some o =>
    let n := b2n (o.1 != sg.1) + b2n (o.2.1 != sg.2.1) + b2n (o.2.2 != sg.2.2)
    let turn : Int :=
      match signIndex o.1 o.2.1 o.2.2, signIndex sg.1 sg.2.1 sg.2.2 with
      | some i, some j =>
        if i = j then
          match k.last with
          | some (u0, v0, w0) =>
            if k.crossings = 0 then ((2 * u0 - v0 - w0) * (v - w) - (2 * u - v - w) * (v0 - w0)).sign else 0
          | none => 0
        else if (j + 6 - i) % 6 ≤ 3 then 2 else -2
      | _, _ => 0
    { k with
      crossings := k.crossings + n
      firstT := if k.crossings = 0 && n != 0 then t else k.firstT
      lastT := if n != 0 then t else k.lastT
      signs := some sg, order := k.order + turn, peak := peak, last := some (u, v, w) }

/-- The raw result of a catch: speed and angle (R223). -/
def Lane.catchResult (ln : Lane) (c : Nat) : Int × BitVec 16 :=
  let k := (ln.chanU c).catching
  let mag :=
    if 2 ≤ k.crossings then crossingSpeed k.crossings (since k.lastT k.firstT) (ln.get (COMM_RATED_RATED c))
    else amplitudeSpeed k.peak (ln.get (COMM_KE_KE c))
  let v := clampI (if k.order < 0 then -mag else mag) (-32768) 32767
  let a := match k.last with
    | some (x, y, z) => vectorAngle x y z
    | none => 0
  (v, a)

/-- A re-catch begins within SHORT (R225). -/
def Lane.shortRecatch (ln : Lane) (c : Nat) (t : LTime) : Lane :=
  if ln.cst c = csShort then
    (ln.at t).setChanU c { ln.chanU c with recatch := true, stateAt := t, catching := .reset, rawCatch := none }
  else ln

/-- The catch measurement of a channel ends at a frame start 2 ms after its beginning (R223, R225). -/
def Lane.catchEnd (ln : Lane) (c : Nat) : Lane :=
  let u := ln.chanU c
  let passed := decide (2 * msUnits ≤ since ln.lt u.stateAt)
  if ln.cst c = csCatch && passed then
    let r := ln.catchResult c
    let ln := ln.setCst c csAgree
    ln.setChanU c { ln.chanU c with rawCatch := some r, agreeFrames := 0 }
  else if ln.cst c = csShort && u.recatch && passed then
    ln.setChanU c { u with rawCatch := some (ln.catchResult c), recatch := false }
  else ln

/-- Word CATCH of a channel: VALID, CLASS and speed (R209). -/
def Lane.catchWord (ln : Lane) (c : Nat) : Bool × Nat × Int :=
  let w := ln.input (32 * c + 13)
  (bit w 2, bits w 1 0, (w.extractLsb' 16 16 : BitVec 16).toInt)

/-- The lanes act on the agreed catch, or repeat it (R224); in SHORT the re-catch decides (R225). -/
def Lane.catchAct (ln : Lane) (c : Nat) : Lane :=
  let (valid, cls, v) := ln.catchWord c
  if ln.cst c = csAgree then
    let u := ln.chanU c
    if valid then
      match cls with
      | 0 => ln.setCst c csAlign
      | 1 => ln.setCst c csRamp
      | 2 => ln.chanRun c 2
      | _ => (ln.setCst c csShort).setChanU c { u with shortAt := ln.lt, stateAt := ln.lt, recatch := false }
    else if 2 ≤ u.agreeFrames + 1 then ln.chanRetry c
    else ln.setChanU c { u with agreeFrames := u.agreeFrames + 1 }
  else if ln.cst c = csShort && valid && (ln.chanU c).rawCatch.isSome &&
      decide (1000 * (v.natAbs : Int) < ln.get (COMM_START_FLOOR c) * 32768) then
    (ln.setCst c csAlign).setChanU c { ln.chanU c with stateAt := ln.lt, rawCatch := none }
  else ln

/-! ### Handover, deficit and ramps at the frame start (R227, R231, R236) -/

/-- The running lanes' bytes of a channel in the vectors in force: STATE, DEF and handover pass (R324). -/
def Lane.chanByte (ln : Lane) (l : LaneId) (c : Nat) : Nat := bits (vget ln.agr.chan c 0) (8 * l.idx + 7) (8 * l.idx)

def Lane.runningLanes (ln : Lane) : List LaneId := LaneId.all.filter (fun l => isRunning (ln.agr.vec.get l).lstate)

/-- The handover of a channel in RAMP that this lane has judged (R227). -/
def Lane.handover (ln : Lane) (c : Nat) : Lane :=
  if ln.cst c = csRamp && (ln.chanU c).handPass.isSome then
    let rs := ln.runningLanes
    let pass := (rs.filter (fun l => (ln.chanByte l c).testBit 4)).length
    if 2 ≤ pass ∨ (rs.length = 1 ∧ pass = 1) then ln.chanRun c 1 else ln.chanRetry c
  else ln

/-- DEF flags are compared (R236). -/
def Lane.deficitCompare (ln : Lane) (c : Nat) : Lane :=
  if ln.is (COMM_CSTAT_DEF c) && (ln.chanByte ln.id c).testBit 3 && ln.cst c != csLost then
    let others := ln.runningLanes.filter (fun l => l != ln.id)
    if others.any (fun l => !(ln.chanByte l c).testBit 3) then ln.chanLost c
    else if (ln.chanU c).defAt then ln
    else (ln.setChanU c { ln.chanU c with defAt := true }).logR 0x35 (COMM_CSTAT c) c
  else if ln.is (COMM_CSTAT_DEF c) then ln
  else ln.setChanU c { ln.chanU c with defAt := false }

/-- A ramp limit per frame in Q1.31: 0.001 % of rated per ms, frames in 25 us, rounded down: R231 moves at most so far. -/
def rampLimit (rate frame : Nat) : Int := (rate * frame * 2147483648 / 4000000 : Nat)

/-- The speed ramp of a channel (R231). -/
def rampStep (u s : Int) (acc dec frame : Nat) : Int :=
  let toward (lim : Int) (free : Bool) : Int :=
    if free then s else if u < s then min s (u + lim) else max s (u - lim)
  let speeding := u == 0 || (decide (0 < u) == decide (0 < s) && s != 0 && decide (u.natAbs ≤ s.natAbs))
  if speeding then toward (rampLimit acc frame) (acc == 0)
  else
    let x := toward (rampLimit dec frame) (dec == 0)
    if (0 < u ∧ x < 0) ∨ (u < 0 ∧ 0 < x) then 0 else x

def Lane.speedRamp (ln : Lane) (c : Nat) : Lane :=
  let u := (ln.rd (COMM_SPDR c)).toInt
  let s := (ln.rd (COMM_SPDSP c)).toInt
  ln.wr (COMM_SPDR c) (wordI (rampStep u s (ln.get (COMM_RAMP_ACC c)) (ln.get (COMM_RAMP_DEC c)) (ln.get PACE_LIVE_FR_LIVE)))

/-- The work of a frame start on every channel. -/
def Lane.frameComm (ln : Lane) : Lane :=
  let ln := ln.applyCommCmds
  (List.range 6).foldl (fun ln c =>
    if ln.is (COMM_CHCFG_EN c) then
      ((((((ln.catchAct c).catchEnd c).handover c).deficitCompare c)).speedRamp c)
    else ln.speedRamp c) ln

/-! ### The kernel's period (R213 to R219, R227, R229, R235) -/

/-- Deficit periods are counted from the agreed inputs (R235). -/
def Lane.deficitCount (ln : Lane) (c : Nat) : Lane :=
  let w (k : Nat) : Int := (ln.input (32 * c + k)).toInt
  if !bit (ln.input (32 * c + 8)) 0 then ln
  else
    let dem := w 0
    let idem := w 1
    let ich := w 2
    let tol : Int := ln.get (COMM_FILT_DEFTOL c) * 2147483648 / 100
    let low := decide (992 * (2147483648 : Int) ≤ 1000 * (dem.natAbs : Int)) &&
      decide (idem.sign * ich < (idem.natAbs : Int) - tol)
    if low then ln.countUp (COMM_CSTAT_DEFCNT c) else ln.put (COMM_CSTAT_DEFCNT c) 0

/-- DEF is set (R235). -/
def Lane.setDef (ln : Lane) (c : Nat) : Lane :=
  if ln.is (COMM_CSTAT_DEF c) then ln else (ln.on (COMM_CSTAT_DEF c)).logR 0x34 (COMM_CSTAT c) c

/-- HXF is set, and the voltage evidence decides (R218, R219). -/
def Lane.hallFaultChan (ln : Lane) (c : Nat) (emfOk : Bool) : Lane :=
  let ln := if ln.is (COMM_CSTAT_HXF c) then ln else (ln.on (COMM_CSTAT_HXF c)).logR 0x31 (COMM_CSTAT c) c
  let ln := ln.put (COMM_CSTAT_HUSE c) 0
  if ln.cst c = csRun && (ln.isBrake c || !emfOk) then ln.chanLost c else ln

/-- What the kernel publishes of a channel in ALIGN, RAMP and RUN is taken. -/
def Lane.kernelTake (ln : Lane) (o : KernelObs) : Lane :=
  let c := o.ch.val
  let st := ln.cst c
  if !ln.is (COMM_CHCFG_EN c) || !(st == csAlign || st == csRamp || st == csRun) then ln
  else
    let ln := (ln.putB (COMM_CSTAT_TVALID c) o.tvalid).onIf o.narrow (COMM_CSTAT_NARROW c)
    -- R218: the oldest column against the hall recorded for it
    let ln := match o.hallThen with
      | some h =>
        if o.tvalid && ln.sensored c then
          let n := if o.sConf = h then 0 else (ln.chanU c).hxCount + 1
          let ln := ln.setChanU c { ln.chanU c with hxCount := n }
          if n = 3 then ln.hallFaultChan c o.emfOk else ln
        else ln
      | none => ln
    -- R219: the hall has become invalid in RUN
    let ln :=
      if ln.cst c = csRun && ln.sensored c && !ln.hallOk c then
        if ln.isBrake c || !o.emfOk then ln.chanLost c else ln.put (COMM_CSTAT_HUSE c) 0
      else ln
    -- R227: the ramp has reached THRESH
    let ln :=
      if ln.cst c = csRamp && o.rampReached && (ln.chanU c).handPass.isNone then
        let behind := if (ln.chanU c).fwd then (o.rampSector.val + 5) % 6 else (o.rampSector.val + 1) % 6
        let near := o.sBest == o.rampSector || o.sBest.val == behind
        ln.setChanU c { ln.chanU c with handPass := some (o.tvalid && o.emfOk && near) }
      else ln
    -- R229
    let n := if o.slow && ln.cst c == csRun && !ln.sensored c then (ln.chanU c).slowCount + 1 else 0
    let ln := ln.setChanU c { ln.chanU c with slowCount := min n 16 }
    ln.onIf (n == 16) (COMM_CSTAT_LOWSPD c)

/-! ### Agreed inputs (R209, R308 to R310) -/

/-- Saturate to 32 bits. -/
def satWord (x : Int) : Word := wordI (clampI x (-2147483648) 2147483647)

/-- An input fault of a word (R310): IFLT, its event, and a withdrawal at the second refresh in a row. -/
def Lane.inputFault (ln : Lane) (k : Nat) : Lane :=
  let n := (keyGet ln.comm.faults k).getD 0 + 1
  let ln := { ln with comm := { ln.comm with faults := keyPut ln.comm.faults k n } }
  let ln := (ln.on TALLY_STAT_IFLT).logR 0x50 TALLY_STAT k
  if 2 ≤ n then ln.inputWithdraw (k % 256) else ln

/-- A word is refreshed with its agreed value, or keeps its value with an input fault. -/
def Lane.refresh (bad : List Nat) (ln : Lane) (x : Nat × Word) : Lane :=
  if bad.contains x.1 then ln.inputFault x.1
  else ({ ln with comm := { ln.comm with faults := keyDrop ln.comm.faults x.1 } }).putInput x.1 x.2

/-- Words 2 to 12 of a channel at a PWM period start. -/
def Lane.chanInputs (ln : Lane) (c : Nat) : List (Nat × Word) :=
  let d := vget ln.brdg.ch c .reset
  let m := d.smp
  let h := ln.get (COMM_CHCFG_HSEL c)
  let hu := ln.hallU h
  let sv := d.sampled && m.valid
  let flags := b2n sv + 2 * b2n (ln.is (COMM_CSTAT_NARROW c)) + 4 * b2n (d.sampled && m.demag) + 8 * (m.sector % 8) +
    65536 * (m.at625 % 32768)
  let hall := ln.get (POS_HSTAT_SECTOR h) + 8 * b2n (ln.hallOk c) + 16 * b2n hu.edgeInPeriod +
    32 * b2n (ln.is (POS_HSTAT_DIR h)) + 64 * b2n (ln.is (POS_HSTAT_HFLT h))
  let hspd := satWord (ln.speedResult (8 + h)).1
  let espd := if ln.sens c = 2 then satWord (ln.speedResult (ln.get (COMM_CHCFG_ESEL c))).1 else 0
  [(2, wordI m.ich), (3, wordI m.iu), (4, wordI m.iv), (5, wordI m.iw), (6, wordI m.vf), (7, wordI m.vl),
    (8, BitVec.ofNat 32 flags), (9, BitVec.ofNat 32 hall), (10, hu.lastEdge.extractLsb' 0 32), (11, hspd), (12, espd)].map
    (fun x => (32 * c + x.1, x.2))

/-- The dead time in ns (R275). -/
def Lane.deadNs (ln : Lane) : Nat := (ln.get BRDG_CFG_DT + 1) * 250

/-- A share of the share vector, held in 24ths (R332), in Q1.31. -/
def shareOf (n : Nat) : Word := shareWord n 24

/-- The lane words at a PWM period start; `next` is the next shadow load. -/
def Lane.laneInputs (ln : Lane) (next : LTime) : List (Nat × Word) :=
  let pend := (List.range 6).foldl (fun n c =>
    match ln.comm.cmds.find? (fun k => k.target == c) with
    | some k => n + k.op * 2 ^ (4 * c)
    | none => n) 0
  [(0, ln.agr.vb), (1, shareOf (ln.agr.share.get ln.id)), (2, ln.rd TIME_FRAME), (3, BitVec.ofNat 32 ln.brdg.periodIdx),
    (4, next.extractLsb' 0 32), (5, next.extractLsb' 32 32), (6, BitVec.ofNat 32 ln.deadNs),
    (7, BitVec.ofNat 32 (ln.get PACE_LIVE_PWM_LIVE * 40)), (8, BitVec.ofNat 32 ln.modeNow), (9, BitVec.ofNat 32 pend)].map
    (fun x => (192 + x.1, x.2))

/-- The validity that travels with a word that has an input fault is cleared (R310). -/
def Lane.dropValid (bad : List Nat) (ln : Lane) (c : Nat) : Lane :=
  let is (k : Nat) : Bool := bad.contains (32 * c + k)
  let ln := if [2, 3, 4, 5, 6, 7, 8].any is then
      ln.putInput (32 * c + 8) (ln.input (32 * c + 8) &&& 0xFFFFFFFE) else ln
  let ln := if is 9 then ln.putInput (32 * c + 9) (ln.input (32 * c + 9) &&& 0xFFFFFFF7) else ln
  let unset (ln : Lane) (k : Nat) : Lane :=
    { ln with pub := rfPut ln.pub (POS_SR_STAT k) (setBits (rfGet ln.pub (POS_SR_STAT k)) 17 17 0) }
  let ln := if is 11 then unset ln (8 + ln.get (COMM_CHCFG_HSEL c)) else ln
  if is 12 then unset ln (ln.get (COMM_CHCFG_ESEL c)) else ln

/-- The refresh of a PWM period start. -/
def Lane.refreshPwm (ln : Lane) (bad : List Nat) (next : LTime) : Lane :=
  let ws := ((List.range 6).map ln.chanInputs).foldl (· ++ ·) [] ++ ln.laneInputs next
  let ln := ws.foldl (Lane.refresh bad) ln
  let ln := (List.range 6).foldl (Lane.dropValid bad) ln
  let ln := (List.range 6).foldl (fun ln c =>
    let d := vget ln.brdg.ch c .reset
    let ln := if d.sampled && d.smp.valid then ln.setChanU c { ln.chanU c with sampled := true } else ln
    { ln with brdg := { ln.brdg with ch := vmod ln.brdg.ch c (fun d => { d with sampled := false }) } }) ln
  (List.range 8).foldl (fun ln h => ln.setHall h { ln.hallU h with edgeInPeriod := false }) ln

/-- Words 0 and 1 at a control frame start: a word with an input fault keeps its value. -/
def Lane.refreshFrame (ln : Lane) (bad : List Nat) : Lane :=
  let old := ln
  let ln := ln.takeDemands
  (List.range 6).foldl (fun ln c => [32 * c, 32 * c + 1].foldl (fun ln k =>
    if bad.contains k then (ln.putInput k (old.input k)).inputFault k
    else
      let ln := { ln with comm := { ln.comm with faults := keyDrop ln.comm.faults k } }
      ln.wr (if k = 32 * c then COMM_DEM c else COMM_IDEM c) (ln.input k)) ln) ln

/-- The copies of the configuration registers in words 16 to 31, taken at configuration lock (R209). -/
def Lane.configInputs (ln : Lane) : Lane :=
  (List.range 6).foldl (fun ln c =>
    let rs := [COMM_CHCFG c, COMM_START c, COMM_STI c, COMM_OBS c, COMM_FILT c, COMM_MOT c, COMM_KE c, COMM_RATED c] ++
      (List.range 8).map (fun j => COMM_PA (8 * c + j))
    rs.zipIdx.foldl (fun ln x => ln.putInput (32 * c + 16 + x.2) (ln.rd x.1)) ln) ln

/-- Interrupt source 5 (R237). -/
def Lane.irqComm (ln : Lane) : Bool :=
  let any (f : Nat → Bool) : Bool := (List.range 6).any f
  ln.is COMM_IEN_REJ || (ln.is COMM_IEN_IEVT && any (fun c => ln.is (COMM_CSTAT_EVT c))) ||
  (ln.is COMM_IEN_INAR && any (fun c => ln.is (COMM_CSTAT_NARROW c) || ln.is (COMM_CSTAT_BADC c))) ||
  (ln.is COMM_IEN_FLT && any (fun c => ln.is (COMM_CSTAT_SFLT c) || ln.is (COMM_CSTAT_DEF c) ||
    ln.is (COMM_CSTAT_HXF c) || ln.cst c == csLost))

/-! ### The commands of the table -/

/-- Every 10 ms of SHORT a re-catch begins (R225). -/
def execShortRecatch (l : LaneId) (c : Fin 6) (t : LTime) (s : State) : Host.Outcome State Fault Refusal :=
  onLane s l (fun ln => ln.shortRecatch c t)

/-- 2 s of SHORT have passed (R225). -/
def execShortTimeout (l : LaneId) (c : Fin 6) (s : State) : Host.Outcome State Fault Refusal :=
  onLane s l (fun ln => if ln.cst c = csShort then (ln.on (COMM_CSTAT_SFLT c)).chanOff c else ln)

/-- ALIGNT has elapsed (R226, R227). -/
def execAlignEnd (l : LaneId) (c : Fin 6) (s : State) : Host.Outcome State Fault Refusal :=
  onLane s l (fun ln => if ln.cst c = csAlign then ln.setCst c csRamp else ln)

/-- Sixteen slow periods of a sensorless channel in RUN (R229). -/
def execLowSpeed (l : LaneId) (c : Fin 6) (s : State) : Host.Outcome State Fault Refusal :=
  onLane s l (fun ln => ln.onIf (ln.cst c == csRun && !ln.sensored c) (COMM_CSTAT_LOWSPD c))

/-- Three disagreeing counted columns (R218, R219). -/
def execHallCrossCheckFault (l : LaneId) (c : Fin 6) (emfOk : Bool) (s : State) : Host.Outcome State Fault Refusal :=
  onLane s l (fun ln => ln.hallFaultChan c emfOk)

/-- Eight consecutive deficit periods (R235). -/
def execDriveDeficit (l : LaneId) (c : Fin 6) (s : State) : Host.Outcome State Fault Refusal :=
  onLane s l (fun ln => (ln.put (COMM_CSTAT_DEFCNT c) (max 8 (ln.get (COMM_CSTAT_DEFCNT c)))).setDef c)

/-- COMM_CMD START forward applies (R221). -/
def execStartForward (l : LaneId) (c : Fin 6) (s : State) : Host.Outcome State Fault Refusal :=
  onLane s l (fun ln => ln.applyComm 1 c)

/-- COMM_CMD START reverse applies (R221). -/
def execStartReverse (l : LaneId) (c : Fin 6) (s : State) : Host.Outcome State Fault Refusal :=
  onLane s l (fun ln => ln.applyComm 2 c)

/-- COMM_CMD STOP applies (R221). -/
def execChannelStop (l : LaneId) (c : Fin 6) (s : State) : Host.Outcome State Fault Refusal :=
  onLane s l (fun ln => ln.applyComm 3 c)

/-- COMM_CMD CLEAR applies (R221). -/
def execChannelClear (l : LaneId) (c : Fin 6) (s : State) : Host.Outcome State Fault Refusal :=
  onLane s l (fun ln => ln.applyComm 4 c)

/-- The converters sample the three switch nodes of a channel in CATCH or in a re-catch (R223, R280). -/
def execCatchSample (l : LaneId) (c : Fin 6) (vu vv vw : Int) (t : LTime) (s : State) : Host.Outcome State Fault Refusal :=
  onLane s l (fun ln =>
    let ln := ln.at t
    let u := ln.chanU c
    if ln.cst c = csCatch ∨ (ln.cst c = csShort ∧ u.recatch) then
      let (b, d) := if ln.is (COMM_CHCFG_DIRINV c) then (vw, vv) else (vv, vw)
      ln.setChanU c { u with catching := catchStep u.catching vu b d t }
    else ln)

end Sys2Proof.Machine
end

