-- ==== Sys2Proof/Machine/Bridge.lean ====
section
/-!
DEFINITION. Gate drive, sense cells and bus protection (chapter 9) with what chapter 7 has the bridge die do: the shadow
load, commutation at CT, samples, the hold after withdrawal, bootstrap refresh, short circuits and the chopper.
-/

namespace Sys2Proof.Machine

open Sys2Proof

/-! ### Legs and channels. Leg l is phase l % 3 of channel l / 3; gate output 2l is its high side, 2l + 1 its low side,
36 the chopper's. -/

def Lane.chD (ln : Lane) (c : Nat) : ChanDrive := vget ln.brdg.ch c .reset
def Lane.setChD (ln : Lane) (c : Nat) (d : ChanDrive) : Lane :=
  { ln with brdg := { ln.brdg with ch := vset ln.brdg.ch c d } }
def Lane.legU (ln : Lane) (k : Nat) : LegUnit := vget ln.brdg.leg k .reset
def Lane.setLeg (ln : Lane) (k : Nat) (u : LegUnit) : Lane :=
  { ln with brdg := { ln.brdg with leg := vset ln.brdg.leg k u } }

/-- The leg command of a phase in a set. -/
def CmdSet.leg (s : CmdSet) : Nat → Word
  | 0 => s.u
  | 1 => s.v
  | _ => s.w

/-- Positive, negative and floating phase of a channel in a sector, DIRINV applied (R198, R199). -/
def Lane.chRoles (ln : Lane) (c k : Nat) : Nat × Nat × Nat := roles (ln.is (COMM_CHCFG_DIRINV c)) k

/-- Whether a leg is latched (R285). -/
def Lane.latched (ln : Lane) (k : Nat) : Bool := bit (ln.rd BRDG_SCSTAT) k

/-- Whether a channel has a latched leg. -/
def Lane.anyLatched (ln : Lane) (c : Nat) : Bool := [3 * c, 3 * c + 1, 3 * c + 2].any ln.latched

/-- The commands of the positive and the negative role of a channel's taken set (R204, R230). -/
def Lane.roleWords (ln : Lane) (c : Nat) : Word × Word :=
  let d := ln.chD c
  let r := ln.chRoles c (chanSector d.taken.chan)
  (d.taken.leg r.1, d.taken.leg r.2.1)

/-- The duty a leg command asks for: only PWM has one, and the PWM unit clamps it at 0xFDF4 (R232). -/
def askedDuty (w : Word) : Int := if legMode w = 1 then (min (legDuty w) 0xFDF4 : Nat) else 0

/-- A PWM command with its duty moved (R295). -/
def moveDuty (w : Word) (by_ : Int) : Word :=
  if legMode w = 1 then setBits w 17 2 (clampI (legDuty w + by_) 0 65535).toNat else w

/-- The leg command in force: by the channel's sector, its regen-stop (R294) and the slew limit of R295. -/
def Lane.legEff (ln : Lane) (k : Nat) : Word :=
  let c := k / 3
  let p := k % 3
  let d := ln.chD c
  if d.sector = 6 then d.taken.leg p
  else if d.sector < 6 then
    let r := ln.chRoles c d.sector
    let (wp, wn) := ln.roleWords c
    let by_ := (d.real - (askedDuty wp - askedDuty wn)) / 2
    if p = r.1 then (if d.regen then 2 else moveDuty wp by_)
    else if p = r.2.1 then (if d.regen then 2 else moveDuty wn (-by_))
    else 0
  else 0

/-- What the Stopper's drive lets a transistor do (R349 to R352). -/
def Lane.stopAllows (ln : Lane) (k : Nat) (low : Bool) : Bool :=
  let c := k / 3
  match ln.get (COMM_CHCFG_ROLE c) with
  | 1 => low
  | 2 =>
    let u := vget ln.stop.park c ⟨7, false, true, false⟩
    if u.floating || ln.anyLatched c || decide (5 < u.sector) then false
    else
      let r := ln.chRoles c u.sector
      if k % 3 = r.1 then u.high != low else (k % 3 == r.2.1) && low
  | _ => false

/-- Whether a transistor may conduct now: lock-out, latches and soft turn-offs first, then the Stopper, then the
command (R273, R285, R287, R352, R201). -/
def Lane.mayDrive (ln : Lane) (k : Nat) (low : Bool) : Bool :=
  let u := ln.legU k
  if ln.is BRDG_STAT_UVLO || ln.latched k || u.softHigh || u.softLow then false
  else if ln.brdg.override then ln.stopAllows k low
  else
    match legMode (ln.legEff k) with
    | 0 => false
    | 1 => true
    | 2 => low
    | _ => low && !u.pulseEnded

/-- Gates whose command no longer lets them conduct turn off; a soft turn-off runs on. -/
def Lane.dropGate (ln : Lane) (k : Nat) : Lane :=
  let u := ln.legU k
  let h := u.high && (u.softHigh || ln.mayDrive k false)
  let l := u.low && (u.softLow || ln.mayDrive k true)
  ln.setLeg k { u with high := h, low := l, blankHigh := u.blankHigh && h, blankLow := u.blankLow && l }

def Lane.dropGates (ln : Lane) (c : Nat) : Lane := (ln.dropGate (3 * c)).dropGate (3 * c + 1) |>.dropGate (3 * c + 2)

/-- A transistor turns on where it may: the interlock of R277 keeps it off while the other one is on. -/
def Lane.gateOn (ln : Lane) (k : Nat) (low : Bool) : Lane :=
  let u := ln.legU k
  if !ln.mayDrive k low || (if low then u.high else u.low) then ln
  else if low then ln.setLeg k { u with low := true, blankLow := true }
  else ln.setLeg k { u with high := true, blankHigh := true }

/-- A transistor turns off. -/
def Lane.gateOff (ln : Lane) (k : Nat) (low : Bool) : Lane :=
  let u := ln.legU k
  if low then ln.setLeg k { u with low := false, blankLow := false }
  else ln.setLeg k { u with high := false, blankHigh := false }

/-- The Stopper's pattern on a channel: turn-offs, then turn-ons after the dead time (R350 to R352). -/
def Lane.driveStop (ln : Lane) (c : Nat) : Lane :=
  let ln := ln.dropGates c
  [3 * c, 3 * c + 1, 3 * c + 2].foldl (fun ln k => (ln.gateOn k true).gateOn k false) ln

/-- All 36 gate outputs of the legs turn off. -/
def Lane.legsOff (ln : Lane) : Lane :=
  (List.range 18).foldl (fun ln k => (ln.gateOff k true).gateOff k false) ln

/-- The channels' commands are dropped: FREE until the next release. -/
def Lane.dropCommands (ln : Lane) : Lane :=
  { ln with brdg := { ln.brdg with ch := ln.brdg.ch.map (fun d =>
      { d with ready := none, taken := .reset, sector := 7, commutated := false, regen := false, real := 0 }) } }

/-- The hold of R14 ends at the end of its control frame: all 36 gate outputs turn off; the Stopper's drive stands. A
withdrawal after the share cut holds for one frame more (R331). -/
def Lane.endHold (ln : Lane) : Lane :=
  if ln.rj.holding && !ln.rj.wHolds then { ln with rj := { ln.rj with wHolds := true } }
  else if ln.rj.holding then
    let ln := { ln with rj := { ln.rj with holding := false } }
    let ln := ln.dropCommands
    if ln.brdg.override then ln else ln.legsOff
  else ln

/-! ### The shadow load (R157, R203, R220, R225, R286, R294, R295) -/

/-- A set is consistent (R203). -/
def Lane.consistent (ln : Lane) (c : Nat) (s : CmdSet) : Bool :=
  let k := chanSector s.chan
  let r := ln.chRoles c k
  let active (p : Nat) : Bool := legMode (s.leg p) == 1 || legMode (s.leg p) == 2
  let six := decide (k < 6)
  (!six || (legMode (s.leg r.2.2) == 0 && active r.1 && active r.2.1)) &&
    (!chanNext s.chan || (six && decide (chanCt s.chan * 25 < ln.get PACE_LIVE_PWM_LIVE * 250)))

/-- The set a channel takes: what its state forces, else the set that was released; a bad one is refused (R203). -/
def Lane.takeSet (ln : Lane) (c : Nat) : Lane :=
  let st := ln.cst c
  let d := ln.chD c
  let free := ln.is (COMM_CHCFG_EN c) &&
    (st == csOff || st == csCatch || st == csAgree || st == csLost || (st == csShort && (ln.chanU c).recatch))
  if free || st == csLost then ln.setChD c { d with taken := .reset, ready := none }
  else if ln.is (COMM_CHCFG_EN c) && st == csShort then
    let w := legWord 3 (ln.get (COMM_START_SHW c) * 4096) 0
    ln.setChD c { d with taken := ⟨6, w, w, w⟩, ready := none, started := true }
  else
    match d.ready with
    | none => ln
    | some s =>
      let ln := ln.setChD c { d with ready := none }
      if ln.consistent c s then ln.setChD c { d with ready := none, taken := s, started := true }
      else (ln.on (COMM_CSTAT_BADC c)).logR 0x33 (COMM_CSTAT c) c

/-- Whether a channel runs the regen-stop of R294 in this period. -/
def Lane.regenStop (ln : Lane) (c : Nat) (old : ChanDrive) (wp wn : Word) : Bool :=
  if !ln.is BRDG_STAT_CHF || !decide (chanSector (ln.chD c).taken.chan < 6) || ln.brdg.override then false
  else if old.sampled && old.smp.valid then decide ((askedDuty wp - askedDuty wn) * old.smp.ich < 0)
  else old.regen

/-- The vector duty realised under the slew limit (R295), in units of 2^-16. -/
def Lane.slewDuty (ln : Lane) (c : Nat) (cmd prev : Int) : Int :=
  if ln.is BRDG_STAT_CHF && (ln.get BRDG_RSCFG_STEER).testBit c then
    let step : Int := ln.get BRDG_RSCFG_SLEW * 16
    clampI cmd (prev - step) (prev + step)
  else cmd

/-- The off-time accounts of a leg for the period that begins (R233): near-full periods, refresh periods, the owed
off-time and the high-side time carried. Times in 2^-16 of 6.25 ns. -/
def legPeriod (w : Word) (period dead : Nat) (u : LegUnit) : LegUnit :=
  let u := { u with pulseEnded := false, refresh := false }
  let d := (askedDuty w).toNat
  let off := (65536 - d) * period
  let on_ := d * period
  let least := (64 + 2 * dead) * 65536
  match legMode w with
  | 0 => { u with full := min (u.full + 1) 15 }
  | 1 =>
    if 15 ≤ u.full then { u with refresh := true, owed := u.owed + off }
    else if off < least then { u with owed := u.owed + off, full := u.full + 1 }
    else
      let room := on_ - (dead + 16) * 65536
      let pay := min u.owed room
      let got := on_ - pay + u.carry
      { u with owed := u.owed - pay, carry := if got < (dead + 16) * 65536 then got else 0, full := 0 }
  | 2 => { u with full := 0 }
  | _ => if 64 * 65536 ≤ legDuty w * period then { u with full := 0 } else u

/-- The shadow load of one channel. -/
def Lane.shadowChan (ln : Lane) (c : Nat) : Lane :=
  let ln := if ln.anyLatched c then ln.chanLost c else ln
  let old := ln.chD c
  let (wp0, wn0) := ln.roleWords c
  let ln := ln.takeSet c
  let (wp, wn) := ln.roleWords c
  let d := ln.chD c
  let k := chanSector d.taken.chan
  let moved := decide (k < 6) && k != old.sector
  let ln := ln.setChD c { d with
    sector := k, commutated := false, demag := d.demag || moved,
    regen := ln.regenStop c old wp0 wn0, real := ln.slewDuty c (askedDuty wp - askedDuty wn) old.real }
  let period := ln.get PACE_LIVE_PWM_LIVE * 40
  let dead := (ln.get BRDG_CFG_DT + 1) * 40
  let ln := [3 * c, 3 * c + 1, 3 * c + 2].foldl (fun ln j => ln.setLeg j (legPeriod (ln.legEff j) period dead (ln.legU j))) ln
  ln.dropGates c

/-- The shadow load of a lane; while the bridge die holds, every channel keeps its set (R14, R230). -/
def Lane.shadowLoad (ln : Lane) : Lane :=
  if ln.rj.holding then
    (List.range 18).foldl (fun ln j =>
      ln.setLeg j (legPeriod (ln.legEff j) (ln.get PACE_LIVE_PWM_LIVE * 40) ((ln.get BRDG_CFG_DT + 1) * 40) (ln.legU j))) ln
  else
    let ln := (List.range 6).foldl Lane.shadowChan ln
    ln.putB BRDG_STAT_RSTOP ((List.range 6).any (fun c => (ln.chD c).regen))

/-- The release of a leg command (R157). -/
def Lane.releaseLeg (ln : Lane) (k : Nat) (w : Word) : Lane := ln.setLeg k { ln.legU k with rel := w }

/-- The release of a channel command: it fixes the leg commands released before it (R157). -/
def Lane.releaseChan (ln : Lane) (c : Nat) (w : Word) : Lane :=
  ln.setChD c { ln.chD c with
    ready := some ⟨w, (ln.legU (3 * c)).rel, (ln.legU (3 * c + 1)).rel, (ln.legU (3 * c + 2)).rel⟩ }

/-! ### Commutation within a period (R204, R230) -/

/-- A channel changes its sector within a period: the newly floating leg demagnetises (R206). -/
def Lane.moveSector (ln : Lane) (c k : Nat) : Lane :=
  if (ln.chD c).sector = k then ln else (ln.setChD c { ln.chD c with sector := k, demag := true }).dropGates c

/-- The neighbouring sector that NEXT and DIRN name, once per period. -/
def Lane.commuteAtCt (ln : Lane) (c : Nat) : Lane :=
  let d := ln.chD c
  let held := ln.rj.holding && ln.sensored c
  if chanNext d.taken.chan && !d.commutated && decide (d.sector < 6) && !held && !ln.brdg.override then
    let k := if chanDirn d.taken.chan then (d.sector + 5) % 6 else (d.sector + 1) % 6
    (ln.setChD c { d with commutated := true }).moveSector c k
  else ln

/-- During the hold a sensored channel commutates to the hall sector at each hall edge (R230). -/
def Lane.holdCommute (ln : Lane) (h : Nat) : Lane :=
  if ln.rj.holding && !ln.brdg.override then
    (List.range 6).foldl (fun ln c =>
      if ln.sensored c && ln.get (COMM_CHCFG_HSEL c) == h && decide ((ln.chD c).sector < 6) && ln.is (POS_HSTAT_VALID h) then
        ln.moveSector c (ln.get (POS_HSTAT_SECTOR h))
      else ln) ln
  else ln

/-! ### Samples (R205, R206, R209, R279, R280) -/

/-- A leg's current: plus the sense current of a high side, minus that of a low side, 0 with neither on (R279). -/
def legCurrent (i : Int) : Option Bool → Int
  | some true => i
  | some false => -i
  | none => 0

/-- A sample of a channel. -/
def Lane.takeSample (ln : Lane) (c : Nat) (x : SampleData) : Lane :=
  let d := ln.chD c
  if ln.rj.holding || !chanSmp d.taken.chan || decide (5 < chanSector d.taken.chan) then ln
  else
    let ln := ln.autoZeroChan c x.zero x.holdUv
    if !x.window then ln.setChD c { d with sampled := true, smp := { d.smp with valid := false, demag := false } }
    else if d.demag then
      ln.setChD c { d with sampled := true, smp := { d.smp with valid := false, demag := true, sector := d.sector, at625 := x.at625 } }
    else
      let cur (p : Nat) : Int :=
        match p with
        | 0 => legCurrent x.iu x.highU
        | 1 => legCurrent x.iv x.highV
        | _ => legCurrent x.iw x.highW
      let r := ln.chRoles c d.sector
      let half : Int := ln.get BRDG_VBUS_VBUS * 16384
      ln.setChD c { d with
        sampled := true
        smp := { ich := (cur r.1 - cur r.2.1) / 2, iu := cur 0, iv := cur 1, iw := cur 2, vf := x.node - half, vl := x.line,
                 valid := true, demag := false, sector := d.sector, at625 := x.at625 } }

/-! ### Short-circuit protection (R282 to R289) -/

/-- The detections of a leg within the last second, the newest first. -/
def recentTrips (t : LTime) (l : List LTime) : List LTime := t :: l.filter (fun x => since t x ≤ 1000 * msUnits)

/-- The detected transistor begins its soft turn-off; the other one of the leg is off. -/
def Lane.softOff (ln : Lane) (k : Nat) (low : Bool) : Lane :=
  let u := ln.legU k
  ln.setLeg k
    (if low then { u with softLow := true, high := false, blankHigh := false, blankLow := false }
     else { u with softHigh := true, low := false, blankHigh := false, blankLow := false })

/-- A short is detected on a transistor (R284, R285). -/
def Lane.shortDetected (ln : Lane) (k : Nat) (low hard : Bool) (t : LTime) : Lane :=
  if ln.latched k then ln
  else
    let c := k / 3
    let d := ln.chD c
    let trips := recentTrips t (ln.legU k).trips
    let ln := ln.setLeg k { ln.legU k with trips := trips, toReserve := decide (3 ≤ trips.length) }
    let ln := (ln.put BRDG_SCSTAT_LAT (ln.get BRDG_SCSTAT_LAT ||| 2 ^ k)).on BRDG_STAT_SCEVT
    let ln := ln.softOff k low
    let ln :=
      match d.tripLeg with
      | none =>
        let ln := ln.wr (BRDG_SCREC c) (regReset (BRDG_SCREC c))
        let ln := ((ln.put (BRDG_SCREC_LEG1 c) k).putB (BRDG_SCREC_SIDE1 c) low).putB (BRDG_SCREC_HARD1 c) hard
        let ln := ln.put (BRDG_SCREC_TRIPS c) (min trips.length 7)
        let ln := ln.wr (BRDG_SCTS1 c) (t.extractLsb' 0 32)
        ln.setChD c { ln.chD c with tripLeg := some k }
      | some _ =>
        let ln :=
          if ln.is (BRDG_SCREC_TWO c) then ln
          else
            let ln := ((ln.put (BRDG_SCREC_LEG2 c) k).putB (BRDG_SCREC_SIDE2 c) low).putB (BRDG_SCREC_HARD2 c) hard
            let ln := (ln.on (BRDG_SCREC_TWO c)).wr (BRDG_SCTS2 c) (t.extractLsb' 0 32)
            ln.putB (BRDG_SCREC_TIE c) (ln.rd (BRDG_SCTS1 c) == t.extractLsb' 0 32)
        let ln := ln.setChD c { ln.chD c with sector := 7 }
        [3 * c, 3 * c + 1, 3 * c + 2].foldl (fun ln j =>
          let u := ln.legU j
          if u.softHigh || u.softLow then ln else (ln.gateOff j true).gateOff j false) ln
    ln.logE 0x40 (ln.rd (BRDG_SCREC c)) k (t.extractLsb' 0 32)

/-- The soft turn-off of a leg has ended; with the channel's last one the other legs turn off (R285), or the Stopper's
drive goes on with what is left (R352). -/
def Lane.softEnd (ln : Lane) (k : Nat) : Lane :=
  let c := k / 3
  let u := ln.legU k
  if !u.softHigh && !u.softLow then ln
  else
    let ln := ln.setLeg k { u with softHigh := false, softLow := false, high := false, low := false }
    let busy := [3 * c, 3 * c + 1, 3 * c + 2].any (fun j => (ln.legU j).softHigh || (ln.legU j).softLow)
    if busy then ln
    else
      let ln := ln.setChD c { ln.chD c with tripLeg := none, sector := 7 }
      if ln.brdg.override then ln.driveStop c else ln.dropGates c

/-- One leg named in BRDG_SCCLR; `below` tells whether both its sense currents are below I_TRIP (R288, R289). -/
def Lane.clearLeg (below : BitVec 18) (ln : Lane) (k : Nat) : Lane :=
  let c := k / 3
  if !ln.latched k then ln
  else if (ln.cst c == csOff || ln.cst c == csLost) && below.getLsbD k then
    let ln := ln.put BRDG_SCSTAT_LAT (ln.get BRDG_SCSTAT_LAT - 2 ^ k)
    if (ln.legU k).toReserve then
      let ln := ln.setLeg k { ln.legU k with toReserve := false, trips := [] }
      if ln.nv.stages.getLsbD (2 * k) || ln.nv.stages.getLsbD (2 * k + 1) then ln.stageMissing (2 * k)
      else (ln.stageSwitch (2 * k)).stageSwitch (2 * k + 1)
    else ln
  else ln.on BRDG_STAT_CREJ

/-- A BRDG_SCCLR store is released. -/
def Lane.writeScclr (ln : Lane) (legs below : BitVec 18) : Lane :=
  ((List.range 18).filter legs.getLsbD).foldl (Lane.clearLeg below) ln

/-- The legs whose sense currents the bridge die sees below I_TRIP: a leg with both gates off, no soft turn-off running. -/
def Lane.belowTrip (ln : Lane) : BitVec 18 :=
  (List.range 18).foldl (fun m k =>
    let u := ln.legU k
    if u.high || u.low || u.softHigh || u.softLow then m else m ||| BitVec.ofNat 18 (2 ^ k)) 0

/-! ### Chopper (R290 to R293, R298) -/

/-- A current in mA lies below a tenth of I_exp = VBUS / (CHR x 10 mOhm) (R291). -/
def Lane.lowCurrent (ln : Lane) (ma : Nat) : Bool :=
  decide (ma * 65536 * ln.get BRDG_CHCFG_CHR < ln.get BRDG_VBUS_VBUS * 800000)

/-- VBUS lies below a voltage in 0.1 V. -/
def Lane.vbusBelow (ln : Lane) (dv : Nat) : Bool := decide (ln.get BRDG_VBUS_VBUS * 800 < dv * 65536)

/-- The chopper may switch: enabled, configuration locked, no lock-out, not latched off (R272, R274, R290, R292). -/
def Lane.chopReady (ln : Lane) : Bool :=
  ln.is BRDG_CFG_CHEN && ln.brdg.locked && !ln.is BRDG_STAT_UVLO && !ln.brdg.chopLatched

/-- A chopper fault (R293): the first cause stands until the clear, but SHORT replaces it. -/
def Lane.chopFault (ln : Lane) (cause : Nat) : Lane :=
  if ln.is BRDG_STAT_CHF && cause != 3 then ln
  else ((ln.on BRDG_STAT_CHF).put BRDG_STAT_CHFC cause).logR 0x42 BRDG_STAT 0

/-- A BRDG_CHCLR store is released (R298). -/
def Lane.writeChclr (ln : Lane) (v : Word) (ma : Nat) : Lane :=
  if !bit v 0 then ln
  else
    let m := ln.modeNow
    if (m == modeStandby || m == modeService) && ln.vbusBelow (ln.get BRDG_CHCFG_CHTH - 5 * ln.get BRDG_CHCFG_HYS) &&
        ln.lowCurrent ma then
      let ln := (ln.put BRDG_STAT_CHF 0).put BRDG_STAT_CHFC 0
      { ln with brdg := { ln.brdg with chopLatched := false, chopLow := 0 } }
    else ln.on BRDG_STAT_CREJ

/-! ### Configuration lock and interrupt -/

/-- STEER at configuration lock (R295), and the chopper gate from then on (R274). -/
def Lane.lockBridge (ln : Lane) : Lane :=
  let st := (List.range 6).foldl (fun n c => n + 2 ^ c * b2n (ln.get (COMM_CHCFG_ROLE c) == 1)) 0
  let ln := ln.put BRDG_RSCFG_STEER st
  { ln with brdg := { ln.brdg with locked := true } }

/-- Interrupt source 4 (R299). -/
def Lane.irqBrdg (ln : Lane) : Bool :=
  (ln.is BRDG_IEN_ISC && ln.is BRDG_STAT_SCEVT) || (ln.is BRDG_IEN_IUV && ln.is BRDG_STAT_UVEVT) ||
  (ln.is BRDG_IEN_ICHP && (ln.is BRDG_STAT_CHF || ln.is BRDG_STAT_OVA)) ||
  (ln.is BRDG_IEN_IREJ && (ln.is BRDG_STAT_CREJ || ln.is BRDG_STAT_NORSV))

/-! ### The commands of the table -/

/-- CT of a period with NEXT = 1 (R204, R230). -/
def execCommutationAtCt (l : LaneId) (c : Fin 6) (s : State) : Host.Outcome State Fault Refusal :=
  onLane s l (fun ln => ln.commuteAtCt c)

/-- A channel's converters acquire (R205, R279, R280). -/
def execSample (l : LaneId) (c : Fin 6) (d : SampleData) (t : LTime) (s : State) : Host.Outcome State Fault Refusal :=
  onLane s l (fun ln => (ln.at t).takeSample c d)

/-- The floating node has left the clamping rail by 1.0 V (R206). -/
def execDemagnetisationEnd (l : LaneId) (c : Fin 6) (s : State) : Host.Outcome State Fault Refusal :=
  onLane s l (fun ln => ln.setChD c { ln.chD c with demag := false })

/-- The refresh of a leg (R233): the low side has conducted for 400 ns or more, and the owed off-time is paid. -/
def execBootstrapRefresh (l : LaneId) (leg : Fin 18) (s : State) : Host.Outcome State Fault Refusal :=
  onLane s l (fun ln =>
    let u := ln.legU leg
    if u.refresh then ln.setLeg leg { u with refresh := false, owed := 0, full := 0 } else ln)

/-- A gate output turns on or off at its instant (R276), with blanking (R283) and the edge-time measurement (R417). -/
def execPwmEdge (l : LaneId) (o : Fin 37) (on : Bool) (ns : Nat) (t : LTime) (s : State) : Host.Outcome State Fault Refusal :=
  onLane s l (fun ln =>
    let ln := ln.at t
    let k := o.val / 2
    let low := o.val % 2 == 1
    if o.val = 36 then (if ln.is BRDG_STAT_CHON == on then ln.edgeTime 36 on ns else ln)
    else
      let was := if low then (ln.legU k).low else (ln.legU k).high
      let ln := if on then ln.gateOn k low else ln.gateOff k low
      let is := if low then (ln.legU k).low else (ln.legU k).high
      if was == is then ln else ln.edgeTime o on ns)

/-- The pulse of a LOWP period ends early at SHILIM (R201). -/
def execShortPulseCurrentLimit (l : LaneId) (leg : Fin 18) (s : State) : Host.Outcome State Fault Refusal :=
  onLane s l (fun ln =>
    if legMode (ln.legEff leg) = 3 then (ln.setLeg leg { ln.legU leg with pulseEnded := true }).gateOff leg true else ln)

/-- Blanking of a transistor ends: its trip comparator is unmasked (R283). A current above I_TRIP then starts the 100 ns
filter, whose detection is a command of its own (R284). -/
def execBlankingEnd (l : LaneId) (leg : Fin 18) (low _above : Bool) (t : LTime) (s : State) :
    Host.Outcome State Fault Refusal :=
  onLane s l (fun ln =>
    let ln := ln.at t
    let u := ln.legU leg
    ln.setLeg leg (if low then { u with blankLow := false } else { u with blankHigh := false }))

/-- A short is detected (R284, R285); a trip that is not hard needs an unmasked comparator (R283). -/
def execShortDetected (l : LaneId) (leg : Fin 18) (low hard : Bool) (t : LTime) (s : State) :
    Host.Outcome State Fault Refusal :=
  onLane s l (fun ln =>
    let masked := if low then (ln.legU leg).blankLow else (ln.legU leg).blankHigh
    if masked && !hard then ln else ln.shortDetected leg low hard t)

/-- A soft turn-off has ended (R285). -/
def execSoftTurnOffEnd (l : LaneId) (leg : Fin 18) (s : State) : Host.Outcome State Fault Refusal :=
  onLane s l (fun ln => ln.softEnd leg)

/-- A BRDG_SCCLR store is released (R288). -/
def execBrdgScclr (l : LaneId) (legs below : BitVec 18) (s : State) : Host.Outcome State Fault Refusal :=
  onLane s l (fun ln => ln.writeScclr legs below)

/-- A gate output in need changes to its reserve stage, while both gates of its leg are low (R270, R421). -/
def execReserveStageSwitch (l : LaneId) (o : Fin 37) (s : State) : Host.Outcome State Fault Refusal :=
  onLane s l (fun ln =>
    let u := ln.legU (o.val / 2)
    let low := if o.val = 36 then !ln.is BRDG_STAT_CHON else !(u.high || u.low || u.softHigh || u.softLow)
    if ln.wear.needStage.getLsbD o && low then ln.stageSwitch o else ln)

/-- The bus voltage is converted (R281). -/
def execVbusConversion (l : LaneId) (code : BitVec 16) (t : LTime) (s : State) : Host.Outcome State Fault Refusal :=
  onLane s l (fun ln => (ln.at t).put BRDG_VBUS_VBUS code.toNat)

/-- VBUS has been at or above CHTH for 1 us (R290); an off interval lasts at least 20 us. -/
def execChopperOn (l : LaneId) (t : LTime) (s : State) : Host.Outcome State Fault Refusal :=
  onLane s l (fun ln =>
    let ln := ln.at t
    if ln.chopReady && !ln.is BRDG_STAT_CHON && decide (20 * usUnits ≤ since t ln.brdg.chopSince) then
      { ln with brdg := { ln.brdg with chopSince := t } }.on BRDG_STAT_CHON
    else ln)

/-- VBUS has been below CHTH - HYS for 1 us (R290); an on interval lasts at least 20 us. -/
def execChopperOff (l : LaneId) (t : LTime) (s : State) : Host.Outcome State Fault Refusal :=
  onLane s l (fun ln =>
    let ln := ln.at t
    if ln.is BRDG_STAT_CHON && decide (20 * usUnits ≤ since t ln.brdg.chopSince) then
      { ln with brdg := { ln.brdg with chopSince := t } }.put BRDG_STAT_CHON 0
    else ln)

/-- The chopper's sense current is sampled (R291): at 100 us of low time the cause is LOWI. -/
def execChopperCurrentSample (l : LaneId) (ma : Nat) (s : State) : Host.Outcome State Fault Refusal :=
  onLane s l (fun ln =>
    if !ln.is BRDG_STAT_CHON then ln
    else
      let low := if ln.lowCurrent ma then min (ln.brdg.chopLow + 1) 100 else 0
      let ln := { ln with brdg := { ln.brdg with chopLow := low, chopMa := ma } }
      if low = 100 then ln.chopFault 2 else ln)

/-- VBUS has stayed above CHTH + 4.0 V for 200 us with the chopper on throughout (R292). -/
def execChopperOverTimeout (l : LaneId) (s : State) : Host.Outcome State Fault Refusal :=
  onLane s l (fun ln => if ln.is BRDG_STAT_CHON then ln.chopFault 1 else ln)

/-- The chopper's current has exceeded its limit for 60 ns (R292): it is latched off. -/
def execChopperShort (l : LaneId) (s : State) : Host.Outcome State Fault Refusal :=
  onLane s l (fun ln =>
    if ln.is BRDG_CFG_CHEN && !ln.brdg.chopLatched then
      ({ ln with brdg := { ln.brdg with chopLatched := true } }.put BRDG_STAT_CHON 0).chopFault 3
    else ln)

/-- A BRDG_CHCLR store is released (R298). -/
def execBrdgChclr (l : LaneId) (v : Word) (ma : Nat) (s : State) : Host.Outcome State Fault Refusal :=
  onLane s l (fun ln => ln.writeChclr v ma)

end Sys2Proof.Machine
end

