-- ==== Sys2Proof/Machine/Stopper.lean ====
section
/-!
DEFINITION. The Stopper of a lane (chapter 11): its triggers, safety inputs, heartbeat, reaction, guard test and losses,
with the bridge die's lines that act through it: overvoltage (R297) and the lock-out (R272, R273).
-/

namespace Sys2Proof.Machine

open Sys2Proof

/-! ### The reaction (R349 to R353) -/

/-- The map and inversion that the Stopper took at configuration lock, and the hall sector it reads (R350). -/
def Lane.parkSector (ln : Lane) (c : Nat) : Option Nat :=
  let h := ln.get (COMM_CHCFG_HSEL c)
  let cfg := vget ln.stop.hall h 0
  let st := hallState cfg (ln.hallU h).lines
  if st = 0 ∨ st = 7 then none
  else
    let k := mapSector cfg st
    some (if (ln.get STOP_PCFG_APPLYDIR).testBit c then (k + 3) % 6 else k)

def Lane.parkU (ln : Lane) (c : Nat) : ParkUnit := vget ln.stop.park c ⟨7, false, false, false⟩
def Lane.setPark (ln : Lane) (c : Nat) (u : ParkUnit) : Lane :=
  { ln with stop := { ln.stop with park := vset ln.stop.park c u } }

/-- Channels of a role. -/
def Lane.withRole (ln : Lane) (r : Nat) : List Nat := (List.range 6).filter (fun c => ln.get (COMM_CHCFG_ROLE c) == r)

/-- A chop boundary of a brake channel: the sector is read, and the positive leg's high side turns on (R350). -/
def Lane.chopStart (ln : Lane) (c : Nat) : Lane :=
  let u := ln.parkU c
  let u := match ln.parkSector c with
    | some k => { u with sector := k, high := true, floating := false }
    | none => { u with high := false, floating := true }
  (ln.setPark c u).driveStop c

/-- The Stopper's drive begins, or resumes after the lock-out, on every channel. -/
def Lane.driveAll (ln : Lane) : Lane :=
  let ln := (ln.withRole 2).foldl Lane.chopStart ln
  (List.range 6).foldl Lane.driveStop ln

/-- A reaction latches (R349, R353). -/
def Lane.react (ln : Lane) : Lane :=
  if ln.is STOP_STAT_REACT then ln
  else
    let ln := ln.on STOP_STAT_REACT
    let ln := (ln.putB STOP_STAT_PARKP (!(ln.withRole 2).isEmpty)).putB STOP_STAT_ASHORT (!(ln.withRole 1).isEmpty)
    let ln := { ln with
      brdg := { ln.brdg with override := true }
      stop := { ln.stop with park := Vector.replicate 6 ⟨7, false, false, false⟩ } }
    (ln.permits.driveAll).logR 0x63 STOP_STAT 0

/-- The triggers that a reaction waits out (R353): stop demands, overvoltage, no valid lane. -/
def Lane.triggered (ln : Lane) : Bool :=
  ln.is STOP_STAT_EDEM || ln.is STOP_STAT_GDEM || ln.is STOP_STAT_OVA || ln.is STOP_STAT_NOLANE

/-- A change of the triggers is judged (R341). -/
def Lane.judgeTriggers (ln : Lane) : Lane :=
  if ln.triggered then { ln with stop := { ln.stop with quietSince := none } }.react
  else { ln with stop := { ln.stop with quietSince := some (ln.stop.quietSince.getD ln.lt) } }

/-- A lane's valid line is on (R341): the trigger of no valid lane stands no longer. -/
def Lane.laneValid (ln : Lane) : Lane :=
  if ln.is STOP_STAT_NOLANE then
    let ln := ln.put STOP_STAT_NOLANE 0
    if ln.triggered then ln else { ln with stop := { ln.stop with quietSince := some ln.lt } }
  else ln

/-- A reaction may be released: quiet for 100 ms and both pairs closed (R353). -/
def Lane.reactionOver (ln : Lane) : Bool :=
  (match ln.stop.quietSince with
    | some t => decide (100 * msUnits ≤ since ln.lt t)
    | none => false) && ln.get STOP_IN_FILT == 0xF

/-- The reaction is released: every gate output of the lane is low (R353). -/
def Lane.releaseReaction (ln : Lane) : Lane :=
  let ln := ((ln.put STOP_STAT_REACT 0).put STOP_STAT_PARKP 0).put STOP_STAT_ASHORT 0
  ({ ln with brdg := { ln.brdg with override := false } }.dropCommands.legsOff).permits

/-! ### Safety inputs (R342, R343, R355) -/

/-- Whether both inputs of a pair have settled open, or settled closed. -/
def Lane.pairOpen (ln : Lane) (i : Nat) : Bool × Bool :=
  let settled (k : Nat) : Bool := (ln.get STOP_IN_SETL).testBit k
  let closed (k : Nat) : Bool := (ln.get STOP_IN_FILT).testBit k
  (settled i && settled (i + 1) && !closed i && !closed (i + 1), settled i && settled (i + 1) && closed i && closed (i + 1))

/-- A guard cycle has been completed: GTOK and its count (R355). -/
def Lane.guardCycle (ln : Lane) : Lane := (ln.on STOP_STAT_GTOK).countUp STOP_STAT_GTCNT

/-- A pair after a change of one of its inputs: the clearing of its discrepancy and the guard cycle. -/
def Lane.pairMoved (ln : Lane) (guard : Bool) (t : LTime) : Lane :=
  let f := if guard then STOP_STAT_DISCG else STOP_STAT_DISCE
  let u := if guard then ln.stop.guard else ln.stop.estop
  let put (ln : Lane) (u : PairUnit) : Lane :=
    if guard then { ln with stop := { ln.stop with guard := u } } else { ln with stop := { ln.stop with estop := u } }
  let (bothOpen, bothClosed) := ln.pairOpen (if guard then 2 else 0)
  if bothOpen then
    match u.openSince with
    | some _ => ln
    | none => put ln { bothOpen := true, openSince := some t, clean := !ln.is f, longOpen := false }
  else
    let u := match u.openSince with
      | some t0 => { u with openSince := none, longOpen := decide (100 * msUnits ≤ since t t0) }
      | none => u
    if bothClosed then
      let ln := if u.bothOpen then ln.put f 0 else ln
      let ln := if guard && u.longOpen && u.clean then ln.guardCycle else ln
      put ln .reset
    else put ln u

/-- An input settles open or closed. -/
def Lane.safetyInput (ln : Lane) (i : Nat) (closed : Bool) (t : LTime) : Lane :=
  let set (old : Nat) (b : Bool) : Nat := (if old.testBit i then old - 2 ^ i else old) + 2 ^ i * b2n b
  let ln := (ln.put STOP_IN_FILT (set (ln.get STOP_IN_FILT) closed)).put STOP_IN_RAW (set (ln.get STOP_IN_RAW) closed)
  let ln := ln.put STOP_IN_SETL (set (ln.get STOP_IN_SETL) true)
  let demand (a : Nat) : Bool :=
    [a, a + 1].any (fun k => (ln.get STOP_IN_SETL).testBit k && !(ln.get STOP_IN_FILT).testBit k)
  let ln := (ln.putB STOP_STAT_EDEM (demand 0)).putB STOP_STAT_GDEM (demand 2)
  ((ln.pairMoved (decide (2 ≤ i)) t).judgeTriggers).permits

/-- The inputs of a pair have differed for 50 ms (R343). -/
def Lane.discrepancy (ln : Lane) (guard : Bool) : Lane :=
  let i := if guard then 2 else 0
  let closed (k : Nat) : Bool := (ln.get STOP_IN_FILT).testBit k
  let settled (k : Nat) : Bool := (ln.get STOP_IN_SETL).testBit k
  if settled i && settled (i + 1) && (closed i != closed (i + 1)) then
    let ln := if guard then { ln with stop := { ln.stop with guard := .reset } }
      else { ln with stop := { ln.stop with estop := .reset } }
    (ln.on (if guard then STOP_STAT_DISCG else STOP_STAT_DISCE)).logR 0x60 STOP_STAT (b2n guard)
  else ln

/-! ### Heartbeat (R344, R345) -/

/-- The check runs: lane RUNNING or RAMP, domains 1 and 2 powered. -/
def Lane.heartbeatOn (ln : Lane) : Bool := isRunning ln.lstate && ln.allPhase [0, 1] .on

/-- A challenge goes out. -/
def Lane.challenge (ln : Lane) (t : LTime) : Lane :=
  if ln.heartbeatOn then
    let ln := ln.put STOP_HB_CHAL (Config.lfsrNext (BitVec.ofNat 16 (ln.get STOP_HB_CHAL))).toNat
    let ln := (ln.put STOP_HB_CSEQ ((ln.get STOP_HB_CSEQ + 1) % 256)).on STOP_HB_OUT
    { ln with stop := { ln.stop with chalAt := t } }
  else ln

/-- The answer to a challenge: R in [15:0] and NOT R in [31:16]. -/
def answerOf (c : BitVec 16) : Word :=
  let r := (c.rotateLeft 5) ^^^ 0x3C96
  (~~~r) ++ r

/-- A miss; the second in a row is a heartbeat loss (R345). -/
def Lane.heartbeatMiss (ln : Lane) : Lane :=
  let n := min (ln.get STOP_HB_MISS + 1) 3
  let ln := (ln.put STOP_HB_OUT 0).put STOP_HB_MISS n
  if n < 2 then ln
  else
    let ln := ((ln.on STOP_STAT_HBL).permits).logR 0x61 STOP_STAT 0
    { ln with rj := { ln.rj with demanded := true } }.withdraw 0x03 0x01

/-- An LCTL_HBRESP store is released. -/
def Lane.heartbeatAnswer (ln : Lane) (v : Word) (t : LTime) : Lane :=
  if !ln.is STOP_HB_OUT then ln
  else
    let dt := since t ln.stop.chalAt
    if 20 * usUnits ≤ dt ∧ dt ≤ 800 * usUnits ∧ v = answerOf (BitVec.ofNat 16 (ln.get STOP_HB_CHAL)) then
      (ln.put STOP_HB_OUT 0).put STOP_HB_MISS 0
    else ln.heartbeatMiss

/-! ### Stopper loss (R356) -/

/-- The Stopper opens every switch it still controls; a loss found in STARTTEST keeps the lane from passing it. -/
def Lane.stopperLoss (ln : Lane) (cause : Nat) : Lane :=
  let ln := (ln.on STOP_STAT_SLOSS).put STOP_STAT_SLC cause
  ({ ln with stop := { ln.stop with switches := false } }.permits).logR 0x62 STOP_STAT 0

/-! ### Lock-out and overvoltage (R272, R273, R297) -/

/-- The lock-out engages: every gate output is low, whatever the commands, the hold or the Stopper; the lane withdraws. -/
def Lane.lockOut (ln : Lane) : Lane :=
  if ln.is BRDG_STAT_UVLO then ln
  else
    let ln := ((ln.on BRDG_STAT_UVLO).on BRDG_STAT_UVEVT).put BRDG_STAT_CHON 0
    let legs := ln.brdg.leg.map (fun (u : LegUnit) =>
      { u with high := false, low := false, softHigh := false, softLow := false, blankHigh := false, blankLow := false })
    let chans := ln.brdg.ch.map (fun (d : ChanDrive) => { d with tripLeg := none })
    let ln := { ln with brdg := { ln.brdg with leg := legs, ch := chans } }
    let ln := (ln.logR 0x41 BRDG_STAT 0).withdraw 0x05 0
    { ln with rj := { ln.rj with holding := false } }.dropCommands

/-- The lock-out releases: a standing reaction drives again at once; a lane that waits for it restarts (R551). -/
def Lane.lockOutOver (ln : Lane) : Lane :=
  let ln := ln.put BRDG_STAT_UVLO 0
  let ln := if ln.brdg.override then ln.driveAll else ln
  if ln.rj.restartAtRelease then ln.restart else ln

/-! ### Halls -/

/-- A hall transition moves the park path's sector; state 0 or 7 floats the channel for that chop (R350). -/
def Lane.parkHall (ln : Lane) (h : Nat) : Lane :=
  if ln.brdg.override && ln.is STOP_STAT_PARKP then
    ((ln.withRole 2).filter (fun c => ln.get (COMM_CHCFG_HSEL c) == h)).foldl (fun ln c =>
      let u := ln.parkU c
      let u := match ln.parkSector c with
        | some k => if u.floating then u else { u with sector := k }
        | none => { u with floating := true }
      (ln.setPark c u).driveStop c) ln
  else ln

/-- The maps and inversions of the hall inputs, at configuration lock (R350). -/
def Lane.lockStopper (ln : Lane) : Lane :=
  { ln with stop := { ln.stop with hall := Vector.ofFn (fun h : Fin 8 => ln.rd (POS_HCFG h)) } }

/-! ### The commands of the table -/

/-- The lines of a hall triplet change: the hall unit counts (R183 to R185), a held channel commutates (R230), and the
park path follows (R350). -/
def execHallTransition (l : LaneId) (h : Fin 8) (lines : BitVec 3) (t : LTime) (s : State) :
    Host.Outcome State Fault Refusal :=
  onLane s l (fun ln => (((((ln.at t).hallLines h lines t)).holdCommute h).parkHall h))

/-- x_VGD falls below 8.5 V (R272, R273). -/
def execLockOutEngage (l : LaneId) (t : LTime) (s : State) : Host.Outcome State Fault Refusal :=
  onLane s l (fun ln => (ln.at t).lockOut)

/-- x_VGD rises above 9.2 V (R272, R273). -/
def execLockOutRelease (l : LaneId) (t : LTime) (s : State) : Host.Outcome State Fault Refusal :=
  onLane s l (fun ln => (ln.at t).lockOutOver)

/-- VBUS has been at or above OVABS for 2 us (R297). -/
def execOvervoltageLine (l : LaneId) (t : LTime) (s : State) : Host.Outcome State Fault Refusal :=
  onLane s l (fun ln => (((ln.at t).on BRDG_STAT_OVA).on STOP_STAT_OVA).judgeTriggers)

/-- VBUS has been below OVABS - 2.0 V for 1 ms (R297). -/
def execOvervoltageClear (l : LaneId) (s : State) : Host.Outcome State Fault Refusal :=
  onLane s l (fun ln => ((ln.put BRDG_STAT_OVA 0).put STOP_STAT_OVA 0).judgeTriggers)

/-- A safety input settles open or closed (R342, R343, R355). -/
def execSafetyInputFiltered (l : LaneId) (inp : Fin 4) (closed : Bool) (t : LTime) (s : State) :
    Host.Outcome State Fault Refusal :=
  onLane s l (fun ln => (ln.at t).safetyInput inp closed t)

/-- A pair's inputs have differed for 50 ms (R343). -/
def execDiscrepancy (l : LaneId) (guard : Bool) (s : State) : Host.Outcome State Fault Refusal :=
  onLane s l (fun ln => ln.discrepancy guard)

/-- The 1 ms challenge (R344). -/
def execChallenge (l : LaneId) (t : LTime) (s : State) : Host.Outcome State Fault Refusal :=
  onLane s l (fun ln => (ln.at t).challenge t)

/-- An LCTL_HBRESP store is released (R344). -/
def execHeartbeatResponse (l : LaneId) (v : Word) (t : LTime) (s : State) : Host.Outcome State Fault Refusal :=
  onLane s l (fun ln => (ln.at t).heartbeatAnswer v t)

/-- No answer by 800 us (R344, R345). -/
def execChallengeMiss (l : LaneId) (s : State) : Host.Outcome State Fault Refusal :=
  onLane s l (fun ln => if ln.is STOP_HB_OUT then ln.heartbeatMiss else ln)

/-- No lane's section-output inputs have been valid for 1 ms while the trigger is armed (R341, R348, R362). -/
def execNoValidLane (l : LaneId) (s : State) : Host.Outcome State Fault Refusal :=
  onLane s l (fun ln =>
    if ln.is STOP_STAT_ARMD then ((ln.on STOP_STAT_NOLANE).on LCTL_FSET_PARKD).judgeTriggers else ln)

/-- A boundary of the park path's chop timer (R350). -/
def execChopBoundary (l : LaneId) (c : Fin 6) (s : State) : Host.Outcome State Fault Refusal :=
  onLane s l (fun ln =>
    if ln.is STOP_STAT_PARKP && ln.get (COMM_CHCFG_ROLE c) == 2 then ln.chopStart c else ln)

/-- The chop's current limit or its 376th ring cycle: the positive leg's low side conducts for the rest (R350). -/
def execChopEnd (l : LaneId) (c : Fin 6) (s : State) : Host.Outcome State Fault Refusal :=
  onLane s l (fun ln =>
    if ln.is STOP_STAT_PARKP && ln.get (COMM_CHCFG_ROLE c) == 2 then
      (ln.setPark c { ln.parkU c with high := false }).driveStop c
    else ln)

/-- APPLYT has passed since the reaction began: the limit is HOLDI (R350). -/
def execApplyTimeEnd (l : LaneId) (s : State) : Host.Outcome State Fault Refusal :=
  onLane s l (fun ln =>
    if ln.is STOP_STAT_PARKP then
      { ln with stop := { ln.stop with park := ln.stop.park.map (fun u => { u with holdLimit := true }) } }
    else ln)

/-- A Stopper loss outside the output switch test (R356). -/
def execStopperLoss (l : LaneId) (cause : StopperCause) (s : State) : Host.Outcome State Fault Refusal :=
  onLane s l (fun ln => ln.stopperLoss (match cause with | .halves => 1 | .readback => 2))

/-- An LCTL_GTACK store is released (R355). -/
def execLctlGtack (l : LaneId) (v : Word) (s : State) : Host.Outcome State Fault Refusal :=
  onLane s l (fun ln => if bit v 0 then { ln with mode := { ln.mode with gtack := true } } else ln)

end Sys2Proof.Machine
end

