-- ==== Sys2Proof/Machine/Agreement.lean ====
section
/-!
DEFINITION. Agreement across lanes (chapter 10, R311 to R328, R335, R336, R338, R339): the faults and the entry that a
lane reports (R357, R358, R366), splice links, offsets, packets, the frame tally and its vote, commands, the contributions
of the agreement point, state packets, the history and the comparator self-check.
-/

namespace Sys2Proof.Machine

open Sys2Proof

/-! ### Standing faults and the lane's entry (R357, R358, R366) -/

/-- A link end. -/
def upF : Side → Field
  | .next => SPLC_STAT_UPN | .prev => SPLC_STAT_UPP

def otherSide : Side → Side
  | .next => .prev | .prev => .next

/-- The end of this lane that faces another lane. -/
def sideOf (me src : LaneId) : Side := if me.next = src then .next else .prev

/-- The lanes that count as running in the vectors in force and of which no withdrawal is known. -/
def Lane.voters (ln : Lane) : List LaneId :=
  ln.runningLanes.filter (fun l => !ln.agr.gone.contains l && !ln.agr.goneLate.contains l)

/-- Whether a lane may count as one end of a lost link: powered, out of INIT, its communications domain on. -/
def Lane.linkEnd (ln : Lane) (l : LaneId) : Bool :=
  let e := ln.agr.vec.get l
  e.mode != modeInit && e.mode != modeSleep && e.mode != modeShutdown

/-- Lost splice links that this lane counts: as the lower-lettered end (R357). -/
def Lane.linkLosses (ln : Lane) : Nat :=
  if ln.locked && ln.domOn 5 then
    (([Side.next, Side.prev].filter (fun sd =>
      let o := ln.id.at sd
      !ln.is (upF sd) && decide (ln.id.idx < o.idx) && ln.linkEnd o))).length
  else 0

/-- Sensor losses of this lane. A quantity without agreement at three frames in a row is counted by the lowest-lettered
running lane, so that it counts once (log 17). -/
def Lane.sensorLosses (ln : Lane) : Nat :=
  let runs := (List.range 6).filter (fun c => ln.is (COMM_CHCFG_EN c) && ln.cst c == csRun)
  let halls := (List.range 8).filter (fun h =>
    ln.is (POS_HSTAT_HFLT h) && runs.any (fun c => ln.sensored c && ln.get (COMM_CHCFG_HSEL c) == h))
  let incs := (List.range 8).filter (fun n =>
    ln.is (POS_ISTAT_CFLT n) && runs.any (fun c => ln.sens c == 2 && ln.get (COMM_CHCFG_ESEL c) == n))
  let ssis := (List.range 2).filter (fun m => ln.is (POS_SCFG_EN m) && ln.is (POS_SS_STAT_SFLT m))
  let noAgr := if ln.runningLanes.head? = some ln.id then
    (ln.agr.noAgr.filter (fun x => decide (100 ≤ x.1) && decide (3 ≤ x.2))).length else 0
  halls.length + incs.length + ssis.length + b2n (ln.is STOP_STAT_DISCE) + b2n (ln.is STOP_STAT_DISCG) +
    ln.comm.faults.length + noAgr

/-- The standing faults of this lane (R357). -/
def Lane.faultSet (ln : Lane) : FaultSet :=
  let feed := if ln.pwr.gone1 || ln.pwr.gone2 then 1 else 0
  let wind := ((List.range 6).filter (fun c => (ln.chanU c).windLoss)).length
  let sens := ln.sensorLosses
  let net := ln.linkLosses + b2n (ln.is LAY_STAT_NLOSS)
  let chop := b2n (ln.is BRDG_STAT_CHF)
  let stop := b2n (ln.is STOP_STAT_SLOSS)
  let ns := [feed, wind, sens, net, chop, stop]
  let cls := (ns.zipIdx.map (fun x => if x.1 = 0 then 0 else 2 ^ x.2)).foldl (· + ·) 0
  ⟨BitVec.ofNat 6 cls, ns.foldl (· + ·) 0⟩

/-- The lane's own entry (R324, R358, R366, R413, R510). -/
def Lane.ownEntry (ln : Lane) : LaneEntry :=
  { lstate := ln.lstate, mode := ln.modeNow, react := ln.is STOP_STAT_REACT, gtok := ln.is STOP_STAT_GTOK,
    gtack := ln.mode.gtack, checks := ln.mode.checks, eolq := ln.is WEAR_STAT_EOLQ, faults := ln.faultSet,
    linkLoss := ln.linkLosses != 0, ran := (ln.agr.vec.get ln.id).ran, trial := ln.nv.boot.trial, level := ln.upd.level }

/-! ### Sending -/

/-- Whether the lane takes part in agreement: released from INIT with its communications domain on. -/
def Lane.talks (ln : Lane) : Bool := ln.locked && ln.domOn 5

def Lane.clearTx (ln : Lane) : Lane := { ln with agr := { ln.agr with tx := [] } }

/-- A packet goes out on both links (R313). -/
def Lane.send (ln : Lane) (b : Payload) : Lane :=
  if ln.talks then
    let p : Packet := ⟨ln.id, ln.frame16, ln.lt, true, none, b⟩
    { ln with agr := { ln.agr with tx := ln.agr.tx ++ [(.next, p), (.prev, p)] } }
  else ln

/-! ### The frame schedule (R320, R550) -/

/-- The vectors in force show a network loss standing for a splice link: the relay schedule (R550). -/
def Lane.relaySchedule (ln : Lane) : Bool := ln.agr.vec.list.any (fun e => e.linkLoss)

/-- Vote cut and agreement point before S, and the matching time of a command, in lane-time units. -/
def Lane.cutLead (ln : Lane) : Nat := if ln.relaySchedule then 22 * usUnits else 16 * usUnits
def Lane.pointLead (ln : Lane) : Nat := if ln.relaySchedule then 140800 else 12 * usUnits
def Lane.matchUnits (ln : Lane) : Nat := if ln.relaySchedule then 242240 else 229440

/-- The start S of the next control frame less a lead. -/
def Lane.beforeFrame (ln : Lane) (lead : Nat) : LTime := ln.nextFrame - BitVec.ofNat 64 lead

/-! ### Commands (R325, R326, R464) -/

/-- An unmatched command: UNMCMD and its event (R326). -/
def Lane.unmatched (ln : Lane) : Lane := (ln.on TALLY_STAT_UNMCMD).logR 0x52 TALLY_STAT 0

/-- An agreed command enters the queue of R464. -/
def Lane.queueCommand (ln : Lane) (data : List Byte) : Lane :=
  if 8 ≤ ln.lay.cq.length then (ln.on LAY_STAT_CQOVF).unmatched
  else
    let seq := ln.lay.cqSeq + 1
    let ln := { ln with lay := { ln.lay with cq := ln.lay.cq ++ [LayEntry.mk seq data], cqSeq := seq } }
    ln.put LAY_CQSTAT_COUNT ln.lay.cq.length

/-- The absolute distance of two lane times. -/
def timeGap (a b : LTime) : Nat := min (a - b).toNat (b - a).toNat

/-- A command content was agreed within the last 10 ms. -/
def Lane.agreedRecently (ln : Lane) (data : List Byte) (t : LTime) : Bool :=
  ln.agr.agreed.any (fun k => k.data == data && decide (timeGap t k.first ≤ 10 * msUnits))

/-- A content that two running lanes received within 25 us of each other, or the only running lane received, is agreed
(R325). -/
def Lane.tryCommand (ln : Lane) (data : List Byte) (t : LTime) : Lane :=
  let rs := ln.voters
  let cs := ln.agr.copies.filter (fun k => k.data == data && rs.contains k.src)
  let pair := cs.find? (fun a => cs.any (fun b => b.src != a.src && decide (timeGap a.rx b.rx ≤ 25 * usUnits)))
  let alone := match rs with
    | [_] => cs.head?
    | _ => none
  match (match pair with | some k => some k | none => alone) with
  | none => ln
  | some k =>
    let near := cs.filter (fun b => decide (timeGap k.rx b.rx ≤ 25 * usUnits))
    let first := near.foldl (fun m b => if timeLe m b.rx then m else b.rx) k.rx
    let rest := ln.agr.copies.filter (fun b => b.data != data)
    let cmd : AgreedCmd := ⟨first, data⟩
    let recent := ln.agr.agreed.filter (fun b => decide (timeGap t b.first ≤ 10 * msUnits))
    let full := decide (8 ≤ ln.lay.cq.length)
    let fresh := if full then ln.agr.frameCmds else ln.agr.frameCmds ++ [cmd]
    let ln := { ln with agr := { ln.agr with copies := rest, agreed := recent ++ [cmd], frameCmds := fresh } }
    ln.queueCommand data

/-- A lane's receipt of a command becomes known here. -/
def Lane.noteCommand (ln : Lane) (src : LaneId) (rx : LTime) (data : List Byte) (t : LTime) : Lane :=
  if ln.agreedRecently data rx || ln.agr.copies.any (fun k => k.src == src && k.data == data) then ln
  else
    ({ ln with agr := { ln.agr with copies := ln.agr.copies ++ [CmdCopy.mk src rx data] } }).tryCommand data t

/-- This lane has received a command: its C packet goes out and the command is matched (R325, R463, R480). -/
def Lane.ownCommand (ln : Lane) (data : List Byte) (t : LTime) : Lane :=
  ((ln.clearTx).send (.c t data)).noteCommand ln.id t data t

/-- Commands without a matching copy in time are discarded (R326). -/
def Lane.dropUnmatched (ln : Lane) (t : LTime) : Lane :=
  let old := ln.agr.copies.filter (fun k => timeLe (later k.rx ln.matchUnits) t)
  if old.isEmpty then ln
  else
    ({ ln with agr := { ln.agr with copies := ln.agr.copies.filter (fun k => !timeLe (later k.rx ln.matchUnits) t) } }).unmatched

/-! ### Withdrawals and demands (R315, R316, R331) -/

/-- The withdrawal of another lane is registered: before the share cut it takes effect at S, after it one frame later. -/
def Lane.registerGone (ln : Lane) (l : LaneId) : Lane :=
  let a := ln.agr
  let st := (a.vec.get l).lstate
  let moving := isRunning st || st == lsResync || st == lsShadow
  let a := { a with demands := a.demands.filter (fun d => d.2 != l) }
  if !moving || a.gone.contains l || a.goneLate.contains l then { ln with agr := a }
  else if a.cutPassed then { ln with agr := { a with goneLate := l :: a.goneLate } }
  else { ln with agr := { a with gone := l :: a.gone } }

/-- A demand for a lane's withdrawal stands; when both others demand this lane, its bridge die is held and it withdraws
(R316). -/
def Lane.noteDemand (ln : Lane) (src of : LaneId) : Lane :=
  let a := ln.agr
  let ln := if a.demands.contains (src, of) then ln else { ln with agr := { a with demands := a.demands ++ [(src, of)] } }
  if of = ln.id && ln.agr.demands.contains (ln.id.next, ln.id) && ln.agr.demands.contains (ln.id.prev, ln.id) then
    let st := ln.lstate
    let ln := { ln with rj := { ln.rj with demanded := true }, agr := { ln.agr with demands := [] } }
    if isRunning st || st == lsResync || st == lsShadow then ln.withdraw 0x03 0x01 else ln
  else ln

/-- No link joins the lane to another lane that counts as running (R314). -/
def Lane.judgeLinks (ln : Lane) : Lane :=
  let st := ln.lstate
  let active := isRunning st || st == lsResync || st == lsShadow
  if !ln.is SPLC_STAT_UPN && !ln.is SPLC_STAT_UPP && active && ln.voters.any (fun l => l != ln.id) then ln.withdraw 0x09 0
  else ln

/-- A link is lost (R311). -/
def Lane.linkLost (ln : Lane) (sd : Side) : Lane :=
  if ln.is (upF sd) then ((ln.put (upF sd) 0).on SPLC_STAT_LINKEV).judgeLinks else ln

/-- A link is restored. -/
def Lane.linkUp (ln : Lane) (sd : Side) : Lane :=
  if ln.is (upF sd) then ln
  else
    let ln := (ln.on (upF sd)).on SPLC_STAT_LINKEV
    match sd with
    | .next => { ln with rj := { ln.rj with crcRunN := 0 } }
    | .prev => { ln with rj := { ln.rj with crcRunP := 0 } }

/-! ### The frame tally and the vote (R327, R328) -/

/-- The mode that the H half folds: that of the running lanes, also in a lane that is not running (log 18). -/
def Lane.tallyMode (ln : Lane) : Nat :=
  if isRunning ln.lstate then ln.modeNow
  else match ln.runningLanes.head? with
    | some l => (ln.agr.vec.get l).mode
    | none => ln.modeNow

/-- An entry as one number. -/
def entryCode (e : LaneEntry) : Nat :=
  let bs := [e.react, e.gtok, e.gtack, e.checks, e.eolq, e.linkLoss, e.ran, e.trial]
  let flags := (bs.zipIdx.map (fun x => b2n x.1 * 2 ^ x.2)).foldl (· + ·) 0
  e.lstate + 16 * (e.mode + 16 * (flags + 256 * (e.faults.cls.toNat + 64 * (e.level + 256 * e.faults.count))))

/-- A byte string as one number, its length above it. -/
def bytesCode (l : List Byte) : Nat := l.foldl (fun n b => n * 256 + b.toNat) l.length

/-- The commands whose first receipt and matching time fall before the vote cut (R327). -/
def Lane.dueCmds (ln : Lane) (cut : LTime) : List AgreedCmd :=
  ln.agr.frameCmds.filter (fun k => timeLe (later k.first ln.matchUnits) cut)

/-- The quantities of the H half, in order. -/
def Lane.hItems (ln : Lane) (cut : LTime) : List Nat :=
  let a := ln.agr
  [(ln.rd TIME_FRAME).toNat, (ln.rd PACE_LIVE).toNat, ln.tallyMode] ++ a.vec.list.map entryCode ++ a.share.list ++
    a.chan.toList.map (fun w => w.toNat) ++ [a.vb.toNat + 4294967296 * b2n a.vbValid] ++
    (List.range 32).map (fun k => (ln.rd (TALLY_SQ k)).toNat) ++ [(ln.rd TALLY_SQV).toNat] ++
    a.caught.toList.map (fun w => w.toNat) ++ a.xang.toList.map (fun w => w.toNat) ++
    (ln.dueCmds cut).map (fun k => bytesCode k.data) ++ (List.range 8).map (fun k => (ln.rd (TALLY_DIG k)).toNat) ++
    [(Config.stateDigest ln.rj.mem).toNat]

/-- Whether a slot is shared: enabled and not local (R240). -/
def sharedSlot (regs : RegFile) (i : Nat) : Bool := fld regs (LOOP_CFG_EN i) == 1 && fld regs (LOOP_CFG_LOCAL i) == 0

/-- The quantities of the L half: the u of shared slots, and the outputs of shared groups. -/
def Lane.lItems (ln : Lane) : List Nat :=
  let regs := ln.cregs.p
  let lc := ln.loop.p
  ((List.range 24).filter (sharedSlot regs)).map (fun i => (wordI (vget lc.slot i .reset).u).toNat) ++
    ((List.range 8).filter (fun g => (groupMembers regs g).any (sharedSlot regs))).map (fun g => (wordI (vget lc.gout g 0)).toNat)

/-- One half: quantities folded in order (log 9). -/
def foldHalf (l : List Nat) : BitVec 64 := l.zipIdx.foldl (fun c x => tallyFold c (Config.frameItem x.2 x.1)) tallyStart

/-- The frame tally at the cut: H above L (R327). -/
def Lane.frameTally (ln : Lane) (cut : LTime) : BitVec 128 := foldHalf (ln.hItems cut) ++ foldHalf ln.lItems

/-- The H half of a tally. -/
def halfH (t : BitVec 128) : BitVec 64 := t.extractLsb' 64 64

/-- Whether the vote has no outcome: a running lane is in SAFESTOP or SHUTDOWN, or this lane's sleep or its rollback
stands (R369, R379, R382, R383). -/
def Lane.noOutcome (ln : Lane) : Bool :=
  let bad (m : Nat) : Bool := m == modeSafestop || m == modeShutdown
  let seen (l : LaneId) : Bool :=
    bad (ln.agr.vec.get l).mode || (match ln.agr.v.get l with | some b => bad b.entry.mode | none => false)
  ln.rj.noVote != 0 || bad ln.modeNow || ln.runningLanes.any seen || ln.mode.sleep != .none || ln.mode.shut != .none

/-- The lane in SHADOW, if one is. -/
def Lane.shadowLane (ln : Lane) : Option LaneId :=
  LaneId.all.find? (fun l => (ln.agr.vec.get l).lstate == lsShadow && !ln.agr.gone.contains l && !ln.agr.goneLate.contains l)

/-- The odd lane of three tallies, and whether no two agree. -/
def oddOf : List (LaneId × BitVec 128) → Option LaneId × Bool
  | [a, b, c] =>
    if a.2 = b.2 then (if b.2 = c.2 then (none, false) else (some c.1, false))
    else if a.2 = c.2 then (some b.1, false)
    else if b.2 = c.2 then (some a.1, false)
    else (none, true)
  | [a, b] => (none, a.2 != b.2)
  | _ => (none, false)

/-- LIMP is requested for the next frame start (R322, R328). -/
def Lane.askLimp (ln : Lane) : Lane := { ln with agr := { ln.agr with limpReq := true } }.on TALLY_STAT_LIMPRQ

/-- The vote (R328); one running lane alone has none. -/
def Lane.vote (ln : Lane) : Lane :=
  let ln := { ln with agr := { ln.agr with voted := true, shadowOk := none } }
  if ln.noOutcome || decide (ln.voters.length < 2) then ln
  else
    let vs := ln.voters.filterMap (fun l => (ln.agr.v.get l).map (fun b => (l, b.tally)))
    let (odd, noMaj) := oddOf vs
    let shadow := ln.shadowLane.map (fun l =>
      match ln.agr.v.get l with
      | some b => vs.length == 2 && vs.all (fun x => halfH x.2 == halfH b.tally)
      | none => false)
    let pres := (vs.map (fun x => 2 ^ x.1.idx)).foldl (· + ·) 0
    let oc := match odd with | some l => l.code | none => 0
    let rest := oc + 4 * b2n noMaj + 8 * pres + 64 * b2n (shadow.getD false)
    let tal (k : Nat) : Word := ln.rj.tally.extractLsb' (32 * k) 32
    let ln := ln.publish TALLY_VSTAT rest ((List.range 4).map (fun k => (TALLY_VTAL k, tal k)))
    let ln := { ln with agr := { ln.agr with shadowOk := shadow } }
    let runs := isRunning ln.lstate
    let ln := if noMaj && runs then (ln.logR 0x53 TALLY_STAT 0).askLimp else ln
    match odd with
    | none => ln
    | some l =>
      if l = ln.id then (if runs then ln.withdraw 0x03 0x00 else ln)
      else if runs then ln.noteDemand ln.id l
      else ln

/-- The V round is complete when the packet of every running lane, and of a lane in SHADOW, is held (R313, R314). -/
def Lane.tryVote (ln : Lane) : Lane :=
  let held (l : LaneId) : Bool := (ln.agr.v.get l).isSome
  let needed := ln.voters ++ ln.shadowLane.toList
  if !ln.agr.voted && held ln.id && needed.all held then ln.vote else ln

/-- Offsets above 100 ns at three vote cuts in a row withdraw the lane (R318). -/
def Lane.judgeOffsets (ln : Lane) : Lane :=
  let ns := ln.voters.filter (fun l => l != ln.id)
  let big (l : LaneId) : Bool := match ln.rj.offs.get l with
    | some o => decide (800 < o.natAbs)
    | none => false
  let ln := ln.onIf (ns.any big) SPLC_STAT_ALEV
  let st := ln.lstate
  if !ns.isEmpty && ns.all big && (isRunning st || st == lsResync || st == lsShadow) then
    let n := ln.rj.offBad + 1
    let ln := { ln with rj := { ln.rj with offBad := n } }
    if 3 ≤ n then ln.withdraw 0x08 0 else ln
  else { ln with rj := { ln.rj with offBad := 0 } }

/-- The vote cut (R320): the lane's V packet goes out on both links. -/
def Lane.voteCut (ln : Lane) : Lane :=
  if !ln.talks then ln
  else
    let cut := ln.beforeFrame ln.cutLead
    let ln := (ln.at cut).judgeOffsets
    let ln := { ln with rj := { ln.rj with tally := ln.frameTally cut } }
    let b : VBody :=
      { tally := ln.rj.tally, frame := ln.rd TIME_FRAME, fphase := ln.rd TIME_FPHASE, entry := ln.ownEntry,
        shares := ln.agr.share, paceLive := ln.rd PACE_LIVE,
        demand := (ln.agr.demands.filter (fun d => d.1 == ln.id)).map (fun d => d.2) }
    let ln := { ln with agr := { ln.agr with v := ln.agr.v.set ln.id (some b) } }
    ((ln.clearTx).send (.v b)).tryVote

/-! ### The agreement point (R320, R323) -/

/-- A lane's contribution to shared word `k` (R323): its value and whether it is valid. A source with an input fault is
not valid (R310); its place among the faults is 224 + k. -/
def Lane.sqOwn (ln : Lane) (k : Nat) : Word × Bool :=
  let r : Int × Bool :=
    match ln.get (TALLY_SQSRC_CLASS k) with
    | 0x2 | 0x7 | 0x8 => readSource ln ln.loop.p ln.cregs.p 0 ((ln.rd (TALLY_SQSRC k)).toNat % 65536)
    | 0xC => ((ln.rd (TALLY_SQIN k)).toInt, bit (ln.rd TALLY_SQINV) k)
    | _ => (0, false)
  (wordI r.1, r.2 && (keyGet ln.comm.faults (224 + k)).isNone)

/-- The channel's part of Q0: STATE, DEF and handover pass as they stand, the catch result of the present START and the
observer angle extrapolated to S, a free value where it is published (log 16). -/
def Lane.chanQ (ln : Lane) (c : Nat) : ChanQ × Lane :=
  let w := (ln.chD c).taken.chan
  let st := ln.cst c
  let u := ln.chanU c
  let has := ln.is (COMM_CHCFG_EN c) && st == csRun && chanAvalid w
  let (angle, ln) : Option (BitVec 16) × Lane :=
    if has then let d := ln.draw; (some (d.1.extractLsb' 0 16), d.2) else (none, ln)
  let got := if st == csAgree || st == csShort then u.rawCatch else none
  (⟨st, ln.is (COMM_CSTAT_DEF c), u.handPass.getD false, angle, got⟩, ln)

/-- Values for the next frame are captured and the rounds Q0 to Q3 start. -/
def Lane.agreementPoint (ln : Lane) : Lane :=
  if !ln.talks then ln
  else
    let ln := ln.at (ln.beforeFrame ln.pointLead)
    let ns := ln.get LAY_STAT_NSTATE
    let corr := if ns = 1 ∨ ns = 3 then some ln.lay.nofs else none
    let (chs, ln) := (List.range 6).foldl (fun (a : List ChanQ × Lane) c => let r := a.2.chanQ c; (a.1 ++ [r.1], r.2)) ([], ln)
    let q0 : Q0Body := ⟨some (BitVec.ofNat 16 (ln.get BRDG_VBUS_VBUS)), corr, chs⟩
    let ws := (List.range 32).map (fun k => (k, ln.sqOwn k))
    let words := ws.map (fun x => (x.1, x.2.1))
    let valid := (ws.map (fun x => b2n x.2.2 * 2 ^ x.1)).foldl (· + ·) 0
    let part (lo n : Nat) : List Word × Word :=
      ((words.drop lo).take n |>.map (fun x => x.2), BitVec.ofNat 32 (valid / 2 ^ lo % 2 ^ n))
    let a := ln.agr
    let ln := { ln with agr := { a with
      q0 := a.q0.set ln.id (some q0), sqw := a.sqw.set ln.id words, sqv := a.sqv.set ln.id (BitVec.ofNat 32 valid),
      layCorr := corr } }
    let ln := (ln.clearTx).send (.q0 q0)
    let p1 := part 0 11
    let p2 := part 11 11
    let p3 := part 22 10
    ((ln.send (.q 0 p1.1 p1.2)).send (.q 1 p2.1 p2.2)).send (.q 2 p3.1 p3.2)

/-! ### Receiving (R311 to R317) -/

/-- The correction that leads lane time to the median of itself and its running neighbours (R317). -/
def slewTo : List Int → Int
  | [a] => -(a / 2)
  | [a, b] => -(clampI 0 (min a b) (max a b))
  | _ => 0

/-- The offset to the sender of a direct packet that pairs with one of ours (R317), rounded down. -/
def offsetOf (p : Packet) (mine : LTime × LTime) (t : LTime) : Int := ((t - p.sent).toInt - (mine.2 - mine.1).toInt) / 2

/-- A new offset is published, and lane time slews (R317). -/
def Lane.takeOffset (ln : Lane) (p : Packet) (t : LTime) : Lane :=
  match p.pair with
  | none => ln
  | some m =>
    let o := offsetOf p m t
    let ln := { ln with rj := { ln.rj with offs := ln.rj.offs.set p.src (some o) } }
    let ln := ln.wr (if ln.id.next = p.src then SPLC_OFFN else SPLC_OFFP) (wordI o)
    let ns := ln.voters.filter (fun l => l != ln.id)
    let os := ns.map (fun l => ln.rj.offs.get l)
    let ln := ln.putB SPLC_STAT_ALIGN (!ns.isEmpty && os.all (fun x => match x with | some v => decide (v.natAbs ≤ 160) | none => false))
    { ln with rj := { ln.rj with slew := slewTo (os.filterMap (fun x => x)) } }

/-- The words of packet Q1, Q2 or Q3 from a word on. -/
def qBase : Fin 3 → Nat
  | 0 => 0 | 1 => 11 | 2 => 22

/-- Keep the words that a packet carries. -/
def putWords (l : List (Nat × Word)) (base : Nat) (ws : List Word) : List (Nat × Word) :=
  (ws.zipIdx).foldl (fun l x => keyPut l (base + x.2) x.1) l

/-- A packet's content is taken. -/
def Lane.takePacket (ln : Lane) (p : Packet) (relayed : Bool) (t : LTime) : Lane :=
  let a := ln.agr
  let src := p.src
  match p.body with
  | .v b =>
    let have' := (a.v.get src).isSome
    if have' && (relayed || !a.vRelay.get src) then ln
    else
      let ln := { ln with agr := { a with v := a.v.set src (some b), vRelay := a.vRelay.set src relayed } }
      let ln := ln.putB SPLC_STAT_RELAY (ln.agr.vRelay.list.any (fun x => x))
      let ln := b.demand.foldl (fun ln d => ln.noteDemand src d) ln
      ln.tryVote
  | .q0 b => if (a.q0.get src).isSome && relayed then ln else { ln with agr := { a with q0 := a.q0.set src (some b) } }
  | .q k ws valid =>
    let base := qBase k
    let n := if k = 2 then 10 else 11
    if (keyGet (a.sqw.get src) base).isSome && relayed then ln
    else
      let m : Word := BitVec.ofNat 32 ((2 ^ n - 1) * 2 ^ base)
      let v := (a.sqv.get src &&& ~~~m) ||| ((valid <<< base) &&& m)
      { ln with agr := { a with sqw := a.sqw.set src (putWords (a.sqw.get src) base ws), sqv := a.sqv.set src v } }
  | .c rx data => ln.noteCommand src rx data t
  | .l k outs => { ln with agr := { a with loopOut := a.loopOut.set src (putWords (a.loopOut.get src) (12 * k.val) outs) } }

/-- An agreement packet arrives on a link (R312 to R314). -/
def Lane.packet (ln : Lane) (sd : Side) (relayed : Bool) (p : Packet) (t : LTime) : Lane :=
  let ln := (ln.at t).clearTx
  if !ln.talks || !ln.is (upF sd) then ln
  else if !p.crcOk then
    let n := (match sd with | .next => ln.rj.crcRunN | .prev => ln.rj.crcRunP) + 1
    let ln := match sd with
      | .next => { ln with rj := { ln.rj with crcRunN := n } }.countUp SPLC_STAT_CRCN
      | .prev => { ln with rj := { ln.rj with crcRunP := n } }.countUp SPLC_STAT_CRCP
    if 4 ≤ n then ln.linkLost sd else ln
  else
    let ln := match sd with
      | .next => { ln with rj := { ln.rj with crcRunN := 0 } }
      | .prev => { ln with rj := { ln.rj with crcRunP := 0 } }
    if p.src = ln.id then ln
    else
      let ln := { ln with
        agr := { ln.agr with tx := ln.agr.tx ++ [(otherSide sd, p)] }
        rj := { ln.rj with heard := ln.rj.heard.set p.src (some t) } }
      let ln := if relayed then ln else ln.takeOffset p t
      ln.takePacket p relayed t

/-- The V round ends: lanes whose packet is missing are registered as withdrawn and demanded (R315, R316). -/
def Lane.roundEnd (ln : Lane) : Lane :=
  if !ln.talks || ln.agr.voted || (ln.agr.v.get ln.id).isNone then ln
  else
    let late := ln.voters.filter (fun l => l != ln.id && (ln.agr.v.get l).isNone)
    let ln := late.foldl (fun ln l =>
      let ln := ln.registerGone l
      if isRunning ln.lstate then ln.noteDemand ln.id l else ln) ln
    ln.vote

/-! ### State packets (R335) and the agreed-state memory -/

/-- Z in blocks of 256 bytes. -/
def Lane.zBlocks (ln : Lane) : Nat := ln.get TALLY_AGCFG_SIZE * 4

/-- Z in words. -/
def Lane.zWords (ln : Lane) : Nat := ln.get TALLY_AGCFG_SIZE * 256

/-- A word of the agreed-state memory. -/
def Lane.agWord (ln : Lane) (k : Nat) : Word := sparseGet (fun _ => 0) ln.rj.mem k

def Lane.setAgWord (ln : Lane) (k : Nat) (v : Word) : Lane :=
  { ln with rj := { ln.rj with mem := sparsePut (fun _ => 0) ln.rj.mem k v } }

/-- A block of agreed state has passed its check: it becomes readable. -/
def Lane.takeBlock (ln : Lane) (sd : Side) (blk : Nat) (data : List Word) (crcOk : Bool) : Lane :=
  if ln.lstate == lsResync && ln.is (upF sd) && crcOk && decide (blk < ln.zBlocks) && !ln.rj.blocks.contains blk then
    let ln := ((List.range 64).foldl (fun (ln : Lane) i => ln.setAgWord (64 * blk + i) (data.getD i 0)) ln)
    let ln := { ln with rj := { ln.rj with blocks := blk :: ln.rj.blocks } }
    let ln := ln.put SPLC_XFER_BLK ln.rj.blocks.length
    if ln.rj.blocks.length = ln.zBlocks then (ln.put SPLC_STAT_XFER 0).on SPLC_STAT_XFEV else ln
  else ln

/-- An access of TALLY_AGDATA: the word, the index one on; beyond Z nothing is there (R335). -/
def Lane.agAccess (ln : Lane) (w : Option Word) : Word × Lane :=
  let k := ln.get TALLY_AGIDX_IDX
  if ln.zWords ≤ k then (0, ln)
  else
    let v := ln.agWord k
    let ln := match w with
      | some x => ln.setAgWord k x
      | none => ln
    (v, ln.put TALLY_AGIDX_IDX ((k + 1) % 16384))

/-! ### History (R336) -/

/-- The nine words of an agreed command: its length, then its content. -/
def cmdWords (k : AgreedCmd) : List Word :=
  BitVec.ofNat 32 k.data.length :: (List.range 8).map (fun i => bytesWord ((k.data.drop (4 * i)).take 4))

/-- The words of a history record. -/
def histWords (h : HistRec) : List Word :=
  [h.frame, h.vb, h.sqv] ++ h.sq ++ h.caught ++ h.xang ++ h.chan ++ [BitVec.ofNat 32 h.cmds.length] ++
    (h.cmds.map cmdWords).flatten

/-- A read of TALLY_HDATA: the word named by TALLY_HIDX, the word index one on. -/
def Lane.readHistory (ln : Lane) : Word × Lane :=
  let w := ln.get TALLY_HIDX_WORD
  let v := match ln.agr.history[ln.get TALLY_HIDX_FR]? with
    | some h => (histWords h).getD w 0
    | none => 0
  (v, ln.put TALLY_HIDX_WORD ((w + 1) % 256))

/-! ### Comparator self-check (R338, R378) -/

/-- Self-check and output switch test have both passed: the STARTTEST checks have passed. -/
def Lane.passChecks (ln : Lane) : Lane :=
  if ln.mode.selfCheck && ln.stop.testPassed && !ln.mode.checks then
    { ln with mode := { ln.mode with checks := true }, rj := { ln.rj with checksAt := ln.lt } }
  else ln

/-- The self-check completes. -/
def Lane.selfChecked (ln : Lane) (miss : Byte) : Lane :=
  let ok := decide (miss = 0)
  let starting := ln.locked && ln.modeNow == modeStarttest && !ln.mode.selfCheck && !ln.rj.checking
  if !starting && !ln.rj.checking then ln
  else
    let ln := ln.publish TALLY_SCK (b2n ok + 2 * miss.toNat) []
    if ln.rj.checking then
      let ln := { ln with rj := { ln.rj with checking := false } }
      if ok then
        ({ ln with rj := { ln.rj with restarted := true } }.restartEngines).on TALLY_STAT_RESYNC
      else
        let ln := { ln with rj := ln.rj.endAttempt }
        ln.stopEngines.becomeBarred
    else if ok then ({ ln with mode := { ln.mode with selfCheck := true } }).passChecks
    else ln.holdInit

/-! ### Interrupts (R339) -/

/-- Interrupt source 2. -/
def Lane.irqVote (ln : Lane) : Bool :=
  (ln.is TALLY_IEN_IVOTE && ln.ready TALLY_VSTAT) ||
    (ln.is TALLY_IEN_IFLT && (ln.is TALLY_STAT_IFLT || ln.is TALLY_STAT_NOAGR || ln.is TALLY_STAT_UNMCMD))

/-- Interrupt source 3. -/
def Lane.irqSplice (ln : Lane) : Bool :=
  (ln.is SPLC_IEN_ILINK && ln.is SPLC_STAT_LINKEV) || (ln.is SPLC_IEN_IALIGN && ln.is SPLC_STAT_ALEV) ||
    (ln.is SPLC_IEN_IXFER && ln.is SPLC_STAT_XFEV)

/-! ### The commands of the table -/

/-- A splice link is lost (R311). -/
def execSpliceLinkLost (l : LaneId) (sd : Side) (s : State) : Host.Outcome State Fault Refusal :=
  onLane s l (fun ln => ln.linkLost sd)

/-- A splice link is restored (R311). -/
def execSpliceLinkRestored (l : LaneId) (sd : Side) (s : State) : Host.Outcome State Fault Refusal :=
  onLane s l (fun ln => ln.linkUp sd)

/-- An agreement packet arrives (R312 to R317, R325, R328). -/
def execAgreementPacketReceived (l : LaneId) (sd : Side) (relayed : Bool) (p : Packet) (t : LTime) (s : State) :
    Host.Outcome State Fault Refusal :=
  onLane s l (fun ln => ln.packet sd relayed p t)

/-- The V round ends with a packet missing (R315, R316). -/
def execRoundTimeout (l : LaneId) (s : State) : Host.Outcome State Fault Refusal :=
  onLane s l (fun ln => ln.roundEnd)

/-- A block of agreed state arrives (R335). -/
def execStatePacketReceived (l : LaneId) (sd : Side) (blk : Byte) (data : List Word) (crcOk : Bool) (s : State) :
    Host.Outcome State Fault Refusal :=
  onLane s l (fun ln => ln.takeBlock sd blk.toNat data crcOk)

/-- A withdrawal code arrives (R315). -/
def execWithdrawalCodeReceived (l src : LaneId) (s : State) : Host.Outcome State Fault Refusal :=
  onLane s l (fun ln => if src = ln.id || !ln.talks then ln else (ln.registerGone src).tryVote)

/-- A withdrawal demand for this lane arrives (R316). -/
def execWithdrawalDemandReceived (l src : LaneId) (s : State) : Host.Outcome State Fault Refusal :=
  onLane s l (fun ln => if src = ln.id then ln else ln.noteDemand src ln.id)

/-- The vote cut (R318, R320). -/
def execVoteCut (l : LaneId) (s : State) : Host.Outcome State Fault Refusal :=
  onLane s l (fun ln => ln.voteCut)

/-- The agreement point (R320, R323). -/
def execAgreementPoint (l : LaneId) (s : State) : Host.Outcome State Fault Refusal :=
  onLane s l (fun ln => ln.agreementPoint)

/-- The share cut (R320, R331). -/
def execShareCut (l : LaneId) (s : State) : Host.Outcome State Fault Refusal :=
  onLane s l (fun ln =>
    let ln := ln.at (ln.beforeFrame 800)
    { ln with agr := { ln.agr with cutPassed := true } })

/-- The matching time of a command has passed (R326). -/
def execUnmatchedCommand (l : LaneId) (t : LTime) (s : State) : Host.Outcome State Fault Refusal :=
  onLane s l (fun ln => (ln.at t).dropUnmatched t)

/-- The comparator self-check completes (R338, R378). -/
def execComparatorSelfCheckDone (l : LaneId) (miss : Byte) (s : State) : Host.Outcome State Fault Refusal :=
  onLane s l (fun ln => ln.selfChecked miss)

/-- TALLY_VSTAT is read: it latches the vote (R328). -/
def execTallyVstatRead (l : LaneId) (s : State) : Host.Outcome State Fault Refusal :=
  readLane s l (fun ln => ln.latch TALLY_VSTAT ((List.range 4).map TALLY_VTAL))

/-- TALLY_SCK is read: it latches the self-check (R338). -/
def execTallySckRead (l : LaneId) (s : State) : Host.Outcome State Fault Refusal :=
  readLane s l (fun ln => ln.latch TALLY_SCK [])

/-- TALLY_AGDATA is read or written (R335). -/
def execTallyAgdataAccess (l : LaneId) (wr : Option Word) (s : State) : Host.Outcome State Fault Refusal :=
  match wr with
  | none => readLane s l (fun ln => ln.agAccess none)
  | some v => onLane s l (fun ln => (ln.agAccess (some v)).2)

/-- TALLY_HDATA is read (R336). -/
def execTallyHdataRead (l : LaneId) (s : State) : Host.Outcome State Fault Refusal :=
  readLane s l (fun ln => ln.readHistory)

end Sys2Proof.Machine
end

