-- ==== Sys2Proof/Machine/Mem.lean ====
section
/-!
DEFINITION. Memory integrity and repair (chapter 13): protected words and their errors (R388 to R399), the check-bit test
mode (R397), field repair (R400, R401) and the store die's block map (R402 to R406, R420).
-/

namespace Sys2Proof.Machine

open Sys2Proof

/-! ### Protected memories (R388) -/

/-- The words of memory m. -/
def memWords (m : Nat) : Nat := if m < 2 then 524288 else if m < 4 then 262144 else if m < 6 then 32768 else 65536

/-- The macros of memory m. -/
def memMacros (m : Nat) : Nat := if m < 2 then 16 else if m < 4 then 8 else if m < 6 then 1 else 2

/-- Spare columns of a macro of memory m. -/
def memColumns (m : Nat) : Nat := if m = 8 then 0 else 6

/-- Macro, row and word slot of a word index. -/
def macroOf (wadr : Nat) : Nat := wadr / 32768
def rowOf (wadr : Nat) : Nat := wadr % 32768 / 64
def slotOf (wadr : Nat) : Nat := wadr % 64

/-- An SRAM by its number; MRAM is not one. -/
def Lane.sram (ln : Lane) (m : Nat) : Sram :=
  match m with
  | 0 => ln.helm.c.p.code
  | 1 => ln.helm.c.s.code
  | 2 => ln.helm.c.p.data
  | 3 => ln.helm.c.s.data
  | 4 => ln.drv.c.p.prog
  | 5 => ln.drv.c.s.prog
  | 6 => ln.drv.c.p.data
  | 7 => ln.drv.c.s.data
  | _ => .empty

/-- Replace an SRAM. -/
def Lane.setSram (ln : Lane) (m : Nat) (s : Sram) : Lane :=
  let h := ln.helm
  let d := ln.drv
  match m with
  | 0 => { ln with helm := { h with c := { h.c with p := { h.c.p with code := s } } } }
  | 1 => { ln with helm := { h with c := { h.c with s := { h.c.s with code := s } } } }
  | 2 => { ln with helm := { h with c := { h.c with p := { h.c.p with data := s } } } }
  | 3 => { ln with helm := { h with c := { h.c with s := { h.c.s with data := s } } } }
  | 4 => { ln with drv := { d with c := { d.c with p := { d.c.p with prog := s } } } }
  | 5 => { ln with drv := { d with c := { d.c with s := { d.c.s with prog := s } } } }
  | 6 => { ln with drv := { d with c := { d.c with p := { d.c.p with data := s } } } }
  | 7 => { ln with drv := { d with c := { d.c with s := { d.c.s with data := s } } } }
  | _ => ln

/-- The wrong stored bits of a memory, by word. -/
def Lane.flips (ln : Lane) (m : Nat) : List (Nat × BitVec 39) := if m = 8 then ln.nv.mramFlips else (ln.sram m).flips

def Lane.setFlips (ln : Lane) (m : Nat) (f : List (Nat × BitVec 39)) : Lane :=
  if m = 8 then { ln with nv := { ln.nv with mramFlips := f } } else ln.setSram m { ln.sram m with flips := f }

/-- The wrong bits of one word. -/
def Lane.flipAt (ln : Lane) (m wadr : Nat) : BitVec 39 := sparseGet (fun _ => 0) (ln.flips m) wadr

def Lane.setFlip (ln : Lane) (m wadr : Nat) (x : BitVec 39) : Lane :=
  ln.setFlips m (sparsePut (fun _ => 0) (ln.flips m) wadr x)

/-- The positions of the wrong bits. -/
def errBits (x : BitVec 39) : List Nat := (List.range 39).filter x.getLsbD

/-! ### Correctable and uncorrectable errors (R394 to R396, R399) -/

/-- Test mode is on for memory m (R397). -/
def Lane.testMem (ln : Lane) (m : Nat) : Bool :=
  ln.is MEM_CBTEST_EN && (if ln.is MEM_CBTEST_SEL then m == 6 || m == 7 else m == 2 || m == 3)

/-- The table of memory m. -/
def Lane.ceTable (ln : Lane) (m : Nat) : List CeEntry := vget ln.mem.tables m []

def Lane.setCeTable (ln : Lane) (m : Nat) (t : List CeEntry) : Lane :=
  { ln with mem := { ln.mem with tables := vset ln.mem.tables m t } }

/-- An address is marked hard: flag, event bit and pending-repair list of 32 entries (R399). -/
def Lane.markHard (ln : Lane) (m wadr bit : Nat) : Lane :=
  let ln := (ln.setCeTable m ((ln.ceTable m).map (fun e => if e.wadr = wadr then { e with hard := true } else e))).on
    MEM_STAT_HARD
  let x : RepairEnt := ⟨m, wadr, bit⟩
  if ln.nv.repairs.any (fun r => r.m == m && r.wadr == wadr) || decide (32 ≤ ln.nv.repairs.length) then ln
  else ({ ln with nv := { ln.nv with repairs := ln.nv.repairs ++ [x] } }).showNv

/-- The entry that a full table gives up: the oldest of the lowest count among those not HARD (R395). -/
def victim (t : List CeEntry) : Option CeEntry :=
  t.foldl (fun (b : Option CeEntry) e =>
    if e.hard then b
    else match b with
      | none => some e
      | some x => if e.cnt < x.cnt then some e else some x) none

/-- A new address enters the table, or falls outside it (R395). -/
def Lane.newCe (ln : Lane) (m : Nat) (e : CeEntry) : Lane :=
  let t := ln.ceTable m
  if t.length < 16 then ln.setCeTable m (t ++ [e])
  else match victim t with
    | some x => ln.setCeTable m (t.filter (fun y => y.wadr != x.wadr) ++ [e])
    | none => ln.on MEM_STAT_OVF

/-- A correctable error counts for its address, and its write-back is queued (R394, R395). -/
def Lane.noteCe (ln : Lane) (m wadr bit : Nat) : Lane :=
  let wb : WriteBack := ⟨m, wadr⟩
  if ln.mem.wback.contains wb then ln
  else
    let ln := (ln.on MEM_STAT_CE).countUp (MEM_CECNT_CECNT m)
    let ln := { ln with mem := { ln.mem with wback := ln.mem.wback ++ [wb] } }
    let test := ln.testMem m
    match (ln.ceTable m).find? (fun e => e.wadr == wadr) with
    | none => ln.newCe m ⟨wadr, bit, 1, false, test⟩
    | some e =>
      let e' := { e with cnt := min (e.cnt + 1) 7, test := e.test || test }
      let ln := ln.setCeTable m ((ln.ceTable m).map (fun x => if x.wadr = wadr then e' else x))
      if 3 ≤ e'.cnt && !e'.test && !e.hard then ln.markHard m wadr bit else ln

/-- An uncorrectable MRAM word reads as invalid to its user (R396, R411, R428). -/
def Lane.mramBad (ln : Lane) (wadr : Nat) : Lane :=
  let u := Config.mramUse wadr
  if u < 4096 then
    if ln.nv.badSlots.contains u then ln else { ln with nv := { ln.nv with badSlots := u :: ln.nv.badSlots } }
  else if u = 4096 then { ln with nv := { ln.nv with baseBad := ln.nv.baseBad ||| 1 } }
  else if u = 4097 then { ln with nv := { ln.nv with baseBad := ln.nv.baseBad ||| 2 } }
  else ln

/-- What an access finds in a word (R388): the word, as it stands or corrected at a bit, or nothing. -/
inductive MemRead where
  | clean (w : Word)
  | fixed (w : Word) (bit : Nat)
  | bad
  deriving DecidableEq, Repr

/-- A word of an SRAM with its wrong bits. Three and more wrong bits are outside the code: what comes of them is a free
value (log 6). -/
def Lane.readMem (ln : Lane) (m wadr : Nat) : MemRead :=
  let w := wordAt (ln.sram m).bytes (4 * wadr)
  match errBits (ln.flipAt m wadr) with
  | [] => .clean w
  | [b] => .fixed w b
  | [_, _] => .bad
  | _ => match Config.multiBit ln.free with
    | some x => .clean x
    | none => .bad

/-- A demand access: corrected data with the error counted, or none where it is uncorrectable (R394, R396). -/
def Lane.loadMem (ln : Lane) (m wadr : Nat) : Option Word × Lane :=
  let many := decide (2 < (errBits (ln.flipAt m wadr)).length)
  let ln' := if many then { ln with free := ln.free + 1 } else ln
  match ln.readMem m wadr with
  | .clean w => (some w, ln')
  | .fixed w b => (some w, ln'.noteCe m wadr b)
  | .bad => (none, ln'.noteUe m wadr)

/-- A word has been written with its own check bits: its errors are gone, and so is a write-back that waits (R393). -/
def Lane.memWritten (ln : Lane) (m wadr : Nat) : Lane :=
  let ln := if ln.flipAt m wadr = 0 then ln else ln.setFlip m wadr 0
  if ln.mem.wback.isEmpty then ln
  else { ln with mem := { ln.mem with wback := ln.mem.wback.filter (fun x => x != ⟨m, wadr⟩) } }

/-- A store of bytes into one word of an SRAM; in test mode a whole word takes the check bits of MEM_CBTEST (R397). -/
def Lane.storeMem (ln : Lane) (m wadr : Nat) (v : Word) (be : BitVec 4) : Lane :=
  let s := ln.sram m
  let ln := (ln.setSram m { s with bytes := putWord s.bytes (4 * wadr) v be }).memWritten m wadr
  if be = 0xF && ln.testMem m then
    let x : BitVec 7 := Config.checkBits v ^^^ BitVec.ofNat 7 (ln.get MEM_CBTEST_CB)
    if x = 0 then ln else ln.setFlip m wadr (x ++ (0 : Word))
  else ln

/-- A load in test mode latches the stored check bits (R397). -/
def Lane.latchCb (ln : Lane) (m wadr : Nat) : Lane :=
  if ln.testMem m then
    let w := wordAt (ln.sram m).bytes (4 * wadr)
    ln.put MEM_CBTEST_CBRD (Config.checkBits w ^^^ (ln.flipAt m wadr).extractLsb' 32 7).toNat
  else ln

/-! ### Scrub (R392, R393, R396) -/

/-- The scrub engine reads a word, in which `upset` more bits have turned. -/
def Lane.scrub (ln : Lane) (m wadr : Nat) (upset : BitVec 39) : Lane :=
  if memWords m ≤ wadr || ln.testMem m then ln
  else
    let x := ln.flipAt m wadr ^^^ upset
    let ln := if upset = 0 then ln else ln.setFlip m wadr x
    let found (ln : Lane) : Lane := if m = 8 then (ln.noteUe m wadr).mramBad wadr else ln.noteUe m wadr
    match errBits x with
    | [] => ln
    | [b] => ln.noteCe m wadr b
    | [_, _] => found ln
    | b :: _ =>
      match Config.multiBit ln.free with
      | some _ => { ln with free := ln.free + 1 }.noteCe m wadr b
      | none => found { ln with free := ln.free + 1 }

/-- The oldest corrective write-back is performed. -/
def Lane.writeBack (ln : Lane) : Lane :=
  match ln.mem.wback with
  | [] => ln
  | x :: rest => ({ ln with mem := { ln.mem with wback := rest } }).setFlip x.m x.wadr 0

/-! ### Test mode (R397, R398) -/

/-- A released MEM_CBTEST store: EN stands only in SERVICE. -/
def Lane.writeCbtest (ln : Lane) (v : Word) : Lane :=
  let ln := (ln.put MEM_CBTEST_SEL (bits v 1 1)).put MEM_CBTEST_CB (bits v 8 2)
  ln.putB MEM_CBTEST_EN (bit v 0 && ln.modeNow == modeService)

/-- A write of MEM_CBGEN: the register then reads the check bits of the word. -/
def Lane.writeCbgen (ln : Lane) (v : Word) : Lane := ln.wr MEM_CBGEN ((Config.checkBits v).setWidth 32)

/-! ### What the selector shows -/

/-- The field fuse entries of a macro. -/
def macroFuses (l : List FuseEnt) (m mac : Nat) : List FuseEnt := l.filter (fun f => f.m == m && f.mac == mac)

/-- MEM_FUSEm for the selected macro; a MACRO beyond the memory reads 0. -/
def Lane.fuseWord (ln : Lane) (m : Nat) : Word :=
  let mac := ln.get MEM_CEIDX_MACRO
  if memMacros m ≤ mac then 0
  else
    let fs := macroFuses ln.nv.fuses m mac
    let cols := (fs.filter (fun f => f.column)).length
    BitVec.ofNat 32 (fs.length + 16 * (6 - (fs.length - cols)) + 256 * (memColumns m - cols))

/-- MEM_CEENT: the selected entry. -/
def Lane.ceentWord (ln : Lane) : Word :=
  match (ln.ceTable (ln.get MEM_CEIDX_M))[ln.get MEM_CEIDX_ENT]? with
  | some e => BitVec.ofNat 32 (e.wadr % 1048576 + 1048576 * e.bit + 2 ^ 26 * e.cnt + 2 ^ 29 * b2n e.hard + 2 ^ 30 * b2n e.test + 2 ^ 31)
  | none => 0

/-! ### Field repair (R400, R401) -/

/-- Whether a fuse entry covers an address. -/
def FuseEnt.covers (f : FuseEnt) (r : RepairEnt) : Bool :=
  f.m == r.m && f.mac == macroOf r.wadr &&
    (if f.column then f.slot == slotOf r.wadr && f.bit == r.bit else f.row == rowOf r.wadr)

/-- One pending address: a spare column when another hard address of the macro fails at the same bit and slot, else a
spare row; NOSPARE where no entry or no spare is free. -/
def Lane.repair (ln : Lane) (r : RepairEnt) : Lane :=
  if ln.nv.fuses.any (fun f => f.covers r) then ln
  else
    let mac := macroOf r.wadr
    let column := ln.nv.repairs.any (fun o =>
      o.m == r.m && macroOf o.wadr == mac && o.wadr != r.wadr && o.bit == r.bit && slotOf o.wadr == slotOf r.wadr)
    let fs := macroFuses ln.nv.fuses r.m mac
    let used := (fs.filter (fun f => f.column == column)).length
    if 8 ≤ fs.length || decide ((if column then memColumns r.m else 6) ≤ used) then ln.on MEM_STAT_NOSPARE
    else
      let f : FuseEnt := ⟨r.m, mac, column, if column then 0 else rowOf r.wadr, if column then slotOf r.wadr else 0,
        if column then r.bit else 0⟩
      { ln with nv := { ln.nv with fuses := ln.nv.fuses ++ [f] } }

/-- The repairs of one shutdown, in list order; the list holds at most 32. -/
def Lane.repairAll (ln : Lane) : Lane := ln.nv.repairs.foldl Lane.repair ln

/-- The repair map is applied: repaired addresses leave the list (R390, R401). -/
def Lane.applyRepairs (ln : Lane) : Lane :=
  let rest := ln.nv.repairs.filter (fun r => !ln.nv.fuses.any (fun f => f.covers r))
  ({ ln with nv := { ln.nv with repairs := rest } }).showNv

/-! ### The store die (R402 to R406, R420) -/

/-- The physical block of a logical one. -/
def StoreMap.phys (s : StoreMap) (blk : Nat) : Nat := (keyGet s.moved blk).getD (blk + 34)

def Lane.setMap (ln : Lane) (s : StoreMap) : Lane := ({ ln with nv := { ln.nv with map := s } }).showNv

/-- A block fails: its live sectors move to a free reserve, and it is retired; without a reserve it stays mapped (R403,
R406). -/
def Lane.retire (ln : Lane) (blk : Nat) : Lane :=
  let s := ln.nv.map
  match s.free with
  | [] => (ln.on MEM_SDSTAT_NORES).setMap { s with failed := if s.failed.contains blk then s.failed else blk :: s.failed }
  | r :: rest =>
    (ln.on MEM_SDSTAT_REFR).setMap { s with
      moved := keyPut s.moved blk r, free := rest, retired := s.phys blk :: s.retired, seq := s.seq + 1 }

/-- A sector program is verified (R403); a block that has failed with no reserve takes none (R406). -/
def Lane.programSector (ln : Lane) (blk sec : Nat) (crc : Word) (ok : Bool) : Lane :=
  if ln.nv.map.failed.contains blk then ln
  else
    let ln := if ok then ln else ln.retire blk
    let s := ln.nv.map
    if s.failed.contains blk then ln
    else ln.setMap { s with crc := keyPut s.crc (16 * blk + sec) crc, seq := s.seq + 1 }

/-- An erase ends (R403). -/
def Lane.eraseDone (ln : Lane) (blk : Nat) (ok : Bool) : Lane :=
  if ln.nv.map.failed.contains blk then ln
  else
    let ln := if ok then ln else ln.retire blk
    let s := ln.nv.map
    if s.failed.contains blk then ln
    else ln.setMap { s with crc := s.crc.filter (fun x => x.1 / 16 != blk), seq := s.seq + 1 }

/-- A block is marked for refresh. -/
def Lane.markRefresh (ln : Lane) (blk : Nat) : Lane :=
  let s := ln.nv.map
  if s.refresh.contains blk then ln else ln.setMap { s with refresh := s.refresh ++ [blk] }

/-- A sector read fails its check three times, or passes on a repeat (R404). -/
def Lane.sectorRead (ln : Lane) (blk failed : Nat) : Lane :=
  if 3 ≤ failed then ln.on MEM_SDSTAT_SECF else if failed = 0 then ln else ln.markRefresh blk

/-- The modes in which the store die refreshes and reads margins (R405, R420). -/
def Lane.storeMode (ln : Lane) : Bool :=
  let m := ln.modeNow
  m == modeStandby || m == modeService || m == modeShutdown

/-- A marked block is refreshed: its content moves to a reserve, and the old block is erased (R405, R406). -/
def Lane.refreshBlock (ln : Lane) (blk : Nat) (eraseOk : Bool) : Lane :=
  let s := ln.nv.map
  if !ln.storeMode || ln.upd.session.isSome || !s.refresh.contains blk then ln
  else match s.free with
    | [] => ln.on MEM_SDSTAT_NORES
    | r :: rest =>
      let old := s.phys blk
      (ln.on MEM_SDSTAT_REFR).setMap { s with
        moved := keyPut s.moved blk r
        free := if eraseOk then rest ++ [old] else rest
        retired := if eraseOk then s.retired else old :: s.retired
        refresh := s.refresh.filter (· != blk)
        seq := s.seq + 1 }

/-- A block's retention margin is read; below half its factory margin it is due for a refresh (R420). -/
def Lane.retention (ln : Lane) (blk margin : Nat) : Lane :=
  if ln.storeMode && ln.nv.map.crc.any (fun x => x.1 / 16 == blk) &&
    decide (2 * margin < Config.factoryMargin ln.id blk) then ln.markRefresh blk
  else ln

/-- Interrupt source 16 (R407). -/
def Lane.irqMem (ln : Lane) : Bool :=
  (ln.is MEM_IEN_ICE && (ln.is MEM_STAT_CE || ln.is MEM_STAT_OVF)) ||
    (ln.is MEM_IEN_IHARD && (ln.is MEM_STAT_HARD || ln.is MEM_STAT_NOSPARE)) || (ln.is MEM_IEN_IUE && ln.is MEM_STAT_UE) ||
    (ln.is MEM_IEN_ISD && (ln.is MEM_SDSTAT_SECF || ln.is MEM_SDSTAT_NORES || ln.is MEM_SDSTAT_REFR))

/-! ### The commands of the table -/

/-- A scrub engine reads a word (R392, R395, R396). -/
def execScrubRead (l : LaneId) (m : Fin 9) (wadr : BitVec 20) (upset : BitVec 39) (s : State) :
    Host.Outcome State Fault Refusal :=
  onLane s l (fun ln => if ln.locked then ln.scrub m wadr.toNat upset else ln)

/-- The oldest corrective write-back is performed (R393, R394). -/
def execCorrectiveWriteBack (l : LaneId) (s : State) : Host.Outcome State Fault Refusal :=
  onLane s l (fun ln => ln.writeBack)

/-- An MEM_CBTEST store is released (R397). -/
def execMemCbtest (l : LaneId) (v : Word) (s : State) : Host.Outcome State Fault Refusal :=
  onLane s l (fun ln => ln.writeCbtest v)

/-- MEM_CBGEN is written (R388). -/
def execMemCbgen (l : LaneId) (v : Word) (s : State) : Host.Outcome State Fault Refusal :=
  onLane s l (fun ln => ln.writeCbgen v)

/-- A sector program ends with its verification (R403). -/
def execSectorProgram (l : LaneId) (blk : Fin 478) (sec : Fin 16) (crc : Word) (ok : Bool) (s : State) :
    Host.Outcome State Fault Refusal :=
  onLane s l (fun ln => ln.programSector blk sec crc ok)

/-- An erase ends (R403). -/
def execEraseDone (l : LaneId) (blk : Fin 478) (ok : Bool) (s : State) : Host.Outcome State Fault Refusal :=
  onLane s l (fun ln => ln.eraseDone blk ok)

/-- A sector is read and checked (R404). -/
def execSectorReadCheck (l : LaneId) (blk : Fin 478) (_sec : Fin 16) (r : SectorRead) (s : State) :
    Host.Outcome State Fault Refusal :=
  onLane s l (fun ln => ln.sectorRead blk r.failed)

/-- A marked block is refreshed (R405). -/
def execBlockRefresh (l : LaneId) (blk : Fin 478) (eraseOk : Bool) (s : State) : Host.Outcome State Fault Refusal :=
  onLane s l (fun ln => ln.refreshBlock blk eraseOk)

/-- A block's retention margin is read (R420). -/
def execRetentionRead (l : LaneId) (blk : Fin 478) (margin : Nat) (s : State) : Host.Outcome State Fault Refusal :=
  onLane s l (fun ln => ln.retention blk margin)

end Sys2Proof.Machine
end

