-- ==== Sys2Proof/Machine/Images.lean ====
section
/-!
DEFINITION. Images and the boot record (chapter 18): the image format and its verification (R502 to R504), what the
loader loads and refuses (R377, R512, R513), sessions and activation (R507, R511, R514 to R516).
-/

namespace Sys2Proof.Machine

open Sys2Proof

/-! ### Image format (R502 to R504) -/

/-- A little-endian number of n bytes at an offset. -/
def leAt (l : List Byte) (off n : Nat) : Nat := ((l.drop off).take n).foldr (fun b a => b.toNat + 256 * a) 0

/-- A block's CRC matches: 4,092 bytes of content, then their CRC-32C. -/
def blockOk (b : List Byte) : Bool := b.length == 4096 && crc32c (b.take 4092) == bytesWord (b.drop 4092)

/-- The header block. -/
def ImageStore.header (im : ImageStore) : List Byte := (keyGet im.blocks 0).getD []

/-- The length n in blocks. -/
def ImageStore.n (im : ImageStore) : Nat := leAt im.header 12 2

/-- The content bytes of blocks 1 to n - 1. -/
def ImageStore.content (im : ImageStore) : List Byte :=
  ((List.range (im.n - 1)).map (fun k => ((keyGet im.blocks (k + 1)).getD []).take 4092)).flatten

/-- Every block of the image is there with its CRC. -/
def ImageStore.crcOk (im : ImageStore) : Bool :=
  decide (1 ≤ im.n) && (List.range im.n).all (fun k => match keyGet im.blocks k with | some b => blockOk b | none => false)

/-- The digest of R504. -/
def ImageStore.digest (im : ImageStore) : BitVec 256 :=
  let h := im.header
  Config.sm3 (Config.sm2Za ((h.drop 40).take 16) ((h.drop 56).take 64) ++ h.take 120 ++ (h.drop 184).take 3908 ++ im.content)

/-- The unrevoked key slot whose hash is that of the image's public key (R504, R505). -/
def ImageStore.keySlot (im : ImageStore) (keys : Vector KeySlot 4) : Option Nat :=
  (List.range 4).find? (fun k =>
    let s := vget keys k ⟨0, false, false⟩
    s.prog && !s.revoked && s.hash == Config.sm3 ((im.header.drop 56).take 64))

/-- Bytes that are reserved are 0. -/
def zeroBytes (l : List Byte) (off n : Nat) : Bool := ((l.drop off).take n).all (fun b => b == 0)

/-- Every field of R502 and R503 is in range for a kind of image. -/
def ImageStore.fieldsOk (im : ImageStore) (kind : Nat) : Bool :=
  let h := im.header
  let n := im.n
  let payload := 4092 * (n - 1)
  let hc := leAt h 16 4
  let dp := leAt h 20 4
  let dd := leAt h 24 4
  leAt h 0 4 == 0x494B444C && leAt h 4 1 == 1 && leAt h 5 1 == kind && (kind == 1 || leAt h 6 1 == 0) &&
    zeroBytes h 14 2 && zeroBytes h 37 3 && zeroBytes h 185 3907 &&
    (if kind = 3 then n == 1 && decide (leAt h 184 1 < 4) else leAt h 184 1 == 0) &&
    (kind != 2 || decide (n ≤ 64)) &&
    (kind != 1 || (decide (n ≤ 3072) && decide (hc ≤ 2097152) && decide (dp ≤ 131072) && decide (dd ≤ 262144) &&
      decide (hc + dp + dd ≤ payload))) &&
    decide (leAt h 28 4 + leAt h 32 4 ≤ payload)

/-- The outcome of R504 as UPD_STAT.RES gives it: 0 verified, 2 CRC, 3 key, 4 signature, 5 field. -/
def ImageStore.result (im : ImageStore) (kind : Nat) (keys : Vector KeySlot 4) : Nat :=
  let h := im.header
  if !im.crcOk then 2
  else if (im.keySlot keys).isNone then 3
  else if !Config.sm2Verify ((h.drop 56).take 64) im.digest ((h.drop 120).take 64) then 4
  else if !im.fieldsOk kind then 5
  else 0

/-- The image of a slot, and of a configuration copy. -/
def NvStore.img (nv : NvStore) (k : Nat) : ImageStore := if k = 0 then nv.slots.p else nv.slots.s
def NvStore.cfg (nv : NvStore) (k : Nat) : ImageStore := if k = 0 then nv.cfgs.p else nv.cfgs.s

def NvStore.setImg (nv : NvStore) (k : Nat) (im : ImageStore) : NvStore :=
  if k = 0 then { nv with slots := { nv.slots with p := im } } else { nv with slots := { nv.slots with s := im } }
def NvStore.setCfg (nv : NvStore) (k : Nat) (im : ImageStore) : NvStore :=
  if k = 0 then { nv with cfgs := { nv.cfgs with p := im } } else { nv with cfgs := { nv.cfgs with s := im } }

/-! ### Firmware (R377) -/

/-- Bytes as a memory in canonical form. -/
def memOf (l : List Byte) : List Host.Cell := l.zipIdx.filterMap (fun x => if x.1 = 0 then none else some (x.2, x.1))

/-- A section of an image is written over an SRAM, with valid check bits. -/
def Sram.load (s : Sram) (l : List Byte) : Sram := ⟨memOf l, s.flips.filter (fun f => decide (l.length ≤ 4 * f.1))⟩

/-- The loader writes helm code, drive program and drive data into both copies (R377). -/
def Lane.loadFirmware (ln : Lane) (im : ImageStore) : Lane :=
  let h := im.header
  let c := im.content
  let hc := leAt h 16 4
  let dp := leAt h 20 4
  let dd := leAt h 24 4
  let code := c.take hc
  let prog := (c.drop hc).take dp
  let data := (c.drop (hc + dp)).take dd
  { ln with
    helm := { ln.helm with c := ln.helm.c.map (fun (x : HelmCopy) => { x with code := x.code.load code }) }
    drv := { ln.drv with
      c := ln.drv.c.map (fun (x : DriveCopy) => { x with prog := x.prog.load prog, data := x.data.load data }) } }

/-! ### Configuration (R12, R502) -/

/-- The entries of a configuration payload: pairs of little-endian words. -/
def cfgEntriesN : Nat → List Byte → List (Nat × Word)
  | 0, _ => []
  | k + 1, l => (leAt l 0 4, bytesWord ((l.drop 4).take 4)) :: cfgEntriesN k (l.drop 8)

/-- The entries of a configuration image. -/
def ImageStore.entries (im : ImageStore) : List (Nat × Word) := cfgEntriesN (im.content.length / 8) im.content

/-- The bits that the loader writes: the LK fields, and STOP_PCFG, which is taken from the image at configuration lock. -/
def loaderMask (r : Reg) : Word :=
  if r = STOP_PCFG then 0x3FFFFFFF
  else match regRow r with
    | some x => x.lk
    | none => 0

/-- The loader writes one entry. -/
def Lane.writeLk (ln : Lane) (e : Nat × Word) : Lane :=
  let m := loaderMask e.1
  let mix (old : Word) : Word := (old &&& ~~~m) ||| (e.2 &&& m)
  if m = 0 then ln
  else if isCopyReg e.1 then (ln.cwr .p e.1 (mix (ln.crd .p e.1))).cwr .s e.1 (mix (ln.crd .s e.1))
  else ln.wr e.1 (mix (ln.rd e.1))

/-- The whole record. -/
def Lane.writeConfig (ln : Lane) (l : List (Nat × Word)) : Lane := l.foldl Lane.writeLk ln

/-- Whether a source of a slot is local (R239, R240). -/
def localSource (regs : RegFile) (src : Nat) : Bool :=
  let k := src / 16 % 64
  match src % 16 with
  | 0x2 | 0x5 | 0x7 | 0x8 => true
  | 0x3 => fld regs (LOOP_CFG_LOCAL k) == 1
  | 0x4 => match groupMembers regs k with
    | i :: _ => fld regs (LOOP_CFG_LOCAL i) == 1
    | [] => false
  | _ => false

/-- Whether a source exists in the table of R239, its SHIFT 0 outside the integer classes. -/
def sourceOk (src : Nat) : Bool :=
  let cls := src % 16
  decide (cls ≤ 0xB) && (src / 1024 == 0 || cls == 7 || cls == 8)

/-- What the loader refuses of a slot and its group (R240, R246, R247, R250). -/
def slotRefused (regs : RegFile) (i : Nat) : Bool :=
  let y := fld regs (LOOP_SRC_Y i)
  let r := fld regs (LOOP_SRC_R i)
  let kind := fld regs (LOOP_CFG_KIND i)
  let loc := fld regs (LOOP_CFG_LOCAL i) == 1
  let grouped := fld regs (LOOP_CFG_GEN i) == 1
  let g := fld regs (LOOP_CFG_GRP i)
  let cur := r % 16 == 5
  let same (f : Nat → Field) (k : Nat) : Bool := fld regs (f i) == fld regs (f k)
  !sourceOk y || !sourceOk r || kind == 3 || fld regs (LOOP_CFG_AORD i) == 3 ||
    (kind != 0 && decide (6 ≤ fld regs (LOOP_CFG_CH i))) ||
    (!loc && (localSource regs y || localSource regs r)) || (cur && fld regs (LOOP_CFG_SHARE i) == 1) ||
    (cur && kind == 2 && (!loc || grouped)) ||
    (grouped && (fld regs (LOOP_GRP_EN g) == 0 || (match groupMembers regs g with
      | k :: _ => !(same LOOP_CFG_KIND k && same LOOP_CFG_CH k && same LOOP_CFG_LOCAL k && same LOOP_CFG_SHARE k)
      | [] => false)))

/-- What the loader refuses of the loop unit's configuration. -/
def loopRefused (regs : RegFile) : Bool :=
  let en := (List.range 24).filter (fun i => fld regs (LOOP_CFG_EN i) == 1)
  let groups := (List.range 8).filter (fun g => fld regs (LOOP_GRP_EN g) == 1)
  let ofKind (kind c : Nat) : Nat :=
    (en.filter (fun i => fld regs (LOOP_CFG_GEN i) == 0 && fld regs (LOOP_CFG_KIND i) == kind &&
      fld regs (LOOP_CFG_CH i) == c)).length +
    (groups.filter (fun g => match groupMembers regs g with
      | i :: _ => fld regs (LOOP_CFG_KIND i) == kind && fld regs (LOOP_CFG_CH i) == c
      | [] => false)).length
  en.any (slotRefused regs) ||
    groups.any (fun g =>
      let n := (groupMembers regs g).length
      n == 0 || decide (4 < n) || (fld regs (LOOP_GRP_MODE g) == 1 && decide (n < 2))) ||
    (List.range 6).any (fun c => decide (1 < ofKind 1 c) || decide (1 < ofKind 2 c)) ||
    (List.range 6).any (fun c => decide ((rfGet regs (LOOP_KR c)).toInt < 0))

/-- Whether a hall map is a permutation of 0 to 5 (R182). -/
def mapOk (cfg : Word) : Bool :=
  let l := (List.range 6).map (fun j => mapSector cfg (j + 1))
  (List.range 6).all (fun k => l.contains k)

/-- What the loader refuses of a channel (chapters 7 and 9, R216). -/
def Lane.chanRefused (ln : Lane) (c : Nat) : Bool :=
  let role := ln.get (COMM_CHCFG_ROLE c)
  let pa := (List.range 8).any (fun j =>
    let w := ln.rd (COMM_PA (8 * c + j))
    (List.range 4).any (fun b => decide (240 < bits w (8 * b + 7) (8 * b))))
  ln.sens c == 3 || role == 3 || (role == 2 && (ln.sens c == 0 || ln.is (COMM_CHCFG_SFB c))) || pa ||
    decide (ln.get (COMM_START_THRESH c) ≤ ln.get (COMM_START_FLOOR c)) ||
    (ln.is (COMM_CHCFG_EN c) && ln.get (BRDG_SN_RATIO c) == 0) || ln.get (BRDG_SN_FS c) == 3

/-- What the loader refuses of a bus configuration (chapter 15). -/
def Lane.layRefused (ln : Lane) : Bool :=
  let lo := ln.get LAY_YCFG_RLO
  let hi := ln.get LAY_YCFG_RHI
  let clo := ln.get LAY_YCMD_CLO
  let chi := ln.get LAY_YCMD_CHI
  decide (4 < ln.get LAY_CFG_RANK) || ln.rd LAY_TXSX &&& ln.rd LAY_RXSX != 0 || ln.rd LAY_TXSY &&& ln.rd LAY_RXSY != 0 ||
    [ln.get LAY_YCFG_YIDX, ln.get LAY_YCFG_YIDY, lo, hi, clo, chi].any (fun x => decide (159 < x)) ||
    decide (hi < lo) || decide (chi < clo)

/-- Whether the loader refuses the configuration that stands in the registers. -/
def Lane.cfgRefused (ln : Lane) : Bool :=
  let chth := ln.get BRDG_CHCFG_CHTH
  let hys := ln.get BRDG_CHCFG_HYS
  let ov := ln.get BRDG_OVCFG_OVABS
  let chen := ln.is BRDG_CFG_CHEN
  let src := [SECT_SRC_FE, SECT_SRC_FN, SECT_SRC_FAGE, SECT_SRC_YAW].map (fun f => ln.cget .p f)
  let pwm := ln.get WEAR_PLANCFG_PWM
  let frame := ln.get WEAR_PLANCFG_FRAME
  (List.range 8).any (fun n => let g := ln.get (POS_ICFG_IGATE n); decide (1 ≤ g && g ≤ 3)) ||
    (List.range 8).any (fun h => !mapOk (ln.rd (POS_HCFG h))) ||
    (List.range 2).any (fun m => decide (4 < ln.get (POS_SCFG_CLK m))) || (List.range 6).any ln.chanRefused ||
    loopRefused ln.cregs.p || decide (ov < chth + 60) || (chen && ln.get BRDG_CHCFG_CHR == 0) ||
    (chen && ln.get BRDG_CHSN_RATIO == 0) || ln.get BRDG_CHSN_FS == 3 || decide (chth < 500 || 640 < chth) ||
    decide (hys < 1 || 8 < hys) || decide (ov < 580 || 760 < ov) || ln.get BRDG_RSCFG_SLEW == 0 ||
    decide (64 < ln.get TALLY_AGCFG_SIZE) || (List.range 32).any (fun k => decide ((ln.rd (TALLY_SQTOL k)).toInt < 0)) ||
    (List.range 32).any (fun k => !([0x0, 0x2, 0x7, 0x8, 0xC].contains (ln.get (TALLY_SQSRC_CLASS k)))) ||
    decide (ln.get STOP_PCFG_APPLYI < ln.get STOP_PCFG_HOLDI) || ln.get LCTL_LIMPCFG_AUXR == ln.get LCTL_LIMPCFG_AUXD ||
    !(ratesOk pwm frame && ratesReach 1550 ln.nChan pwm frame) || ln.layRefused || decide (src.eraseDups.length < 4)

/-! ### The loader (R512, R513) -/

/-- The image in a slot verifies. -/
def Lane.slotOk (ln : Lane) (r : LoadResult) (k : Nat) : Bool :=
  (if k = 0 then r.slot0 else r.slot1) && (ln.nv.img k).result 1 ln.nv.keys == 0

/-- A configuration copy verifies: signed, or written by this lane's migration (R513). -/
def Lane.copyOk (ln : Lane) (r : LoadResult) (k : Nat) : Bool :=
  let im := ln.nv.cfg k
  (if k = 0 then r.cfg0 else r.cfg1) &&
    (im.result 2 ln.nv.keys == 0 || (im.crcOk && ln.nv.migrated == some im.digest))

/-- The format version that a firmware supports, and what its table migrates from. -/
def ImageStore.cfgVersion (im : ImageStore) : Nat := leAt im.header 7 1
def ImageStore.oldest (im : ImageStore) : Nat := leAt im.header 36 1
def ImageStore.table (im : ImageStore) : List Byte := (im.content.drop (leAt im.header 28 4)).take (leAt im.header 32 4)

/-- Whether a configuration of a version can serve a firmware: as it stands, or by migration (R509, R513). -/
def ImageStore.reaches (fw : ImageStore) (v : Nat) : Bool :=
  v == fw.cfgVersion || (decide (v < fw.cfgVersion) && decide (fw.oldest ≤ v) && !fw.table.isEmpty)

/-- The entries that a copy gives under a firmware; none where the loader refuses them. -/
def Lane.copyEntries (ln : Lane) (fw im : ImageStore) : Option (List (Nat × Word)) :=
  if !fw.reaches im.cfgVersion then none
  else
    let l := if im.cfgVersion = fw.cfgVersion then im.entries else Config.migrate fw.table im.entries
    if (ln.writeConfig l).cfgRefused then none else some l

/-- The bytes of a number, least significant first. -/
def leBytes : Nat → Nat → List Byte
  | 0, _ => []
  | k + 1, x => BitVec.ofNat 8 x :: leBytes k (x / 256)

/-- A list of bytes padded with zeros to a length. -/
def padTo (n : Nat) (l : List Byte) : List Byte := l ++ List.replicate (n - l.length) 0

/-- A block of content with its CRC. -/
def mkBlock (l : List Byte) : List Byte := let c := padTo 4092 (l.take 4092); c ++ wordBytes (crc32c c)

/-- The image that a migration writes: a header of the new format version and the entries. -/
def migratedImage (version : Nat) (l : List (Nat × Word)) : ImageStore :=
  let bytes := (l.map (fun e => leBytes 4 e.1 ++ wordBytes e.2)).flatten
  let n := 1 + (bytes.length + 4091) / 4092
  let h := leBytes 4 0x494B444C ++ [1, 2, 0, BitVec.ofNat 8 version] ++ leBytes 4 0 ++ leBytes 2 n
  ⟨true, (0, mkBlock h) :: (List.range (n - 1)).map (fun k => (k + 1, mkBlock (bytes.drop (4092 * k))))⟩

/-- The boot record takes the previous slot, or the previous copy (R512). -/
def Lane.fallBackSlot (ln : Lane) : Lane :=
  let b := ln.nv.boot
  let b := { b with slot := b.prevSlot, prevSlot := b.slot, trial := false, fellBack := true }
  ({ ln with nv := { ln.nv with boot := b } }.showNv).logR 0x75 UPD_BOOT 1

def Lane.fallBackCfg (ln : Lane) : Lane :=
  let b := ln.nv.boot
  let b := { b with cfg := b.prevCfg, prevCfg := b.cfg, trial := false, fellBack := true, uncommitted := false }
  ({ ln with nv := { ln.nv with boot := b } }.showNv).logR 0x75 UPD_BOOT 2

/-- A migrated configuration is written into the other copy as uncommitted, and the lane starts from it (R513). -/
def Lane.keepMigrated (ln : Lane) (fw : ImageStore) (l : List (Nat × Word)) : Lane :=
  let b := ln.nv.boot
  let im := migratedImage fw.cfgVersion l
  let nv := ln.nv.setCfg (1 - b.cfg) im
  let b := { b with cfg := 1 - b.cfg, prevCfg := b.cfg, uncommitted := true, superseded := false }
  { ln with nv := { nv with boot := b, migrated := some im.digest } }.showNv

/-- Image and configuration are loaded: the slot and copy in force, or the previous ones; where neither verifies the lane
stays in INIT. -/
def Lane.loadImages (ln : Lane) (r : LoadResult) : Lane :=
  if ln.pwr.stage != .loading then ln
  else
    let b := ln.nv.boot
    let ln := { ln with nv := { ln.nv with boot := { b with fellBack := b.failed, failed := false } } }.showNv
    let slot : Option Lane :=
      if ln.slotOk r b.slot then some ln
      else if b.prevSlot != b.slot && ln.slotOk r b.prevSlot then some ln.fallBackSlot
      else none
    match slot with
    | none => ln.holdInit
    | some ln =>
      let fw := ln.nv.img ln.nv.boot.slot
      let use (k : Nat) : Option (List (Nat × Word)) :=
        if ln.copyOk r k then ln.copyEntries fw (ln.nv.cfg k) else none
      let c := ln.nv.boot.cfg
      let p := ln.nv.boot.prevCfg
      let got : Option (Lane × List (Nat × Word)) :=
        match use c with
        | some l => some (ln, l)
        | none => if p != c then (use p).map (fun l => (ln.fallBackCfg, l)) else none
      match got with
      | none => ln.holdInit
      | some (ln, l) =>
        let ln := if (ln.nv.cfg ln.nv.boot.cfg).cfgVersion = fw.cfgVersion then ln else ln.keepMigrated fw l
        let ln := ln.loadFirmware fw
        let upd := { ln.upd with
          slotDigest := fw.digest, cfgDigest := (ln.nv.cfg ln.nv.boot.cfg).digest, level := leAt fw.header 6 1 }
        { ln with upd := upd, pwr := { ln.pwr with stage := .configuring } }.put UPD_KEYS_USED
          ((fw.keySlot ln.nv.keys).getD 0)

/-! ### Sessions and activation (R507, R511, R516) -/

/-- A session ends. -/
def Lane.endSession (ln : Lane) : Lane :=
  { ln with upd := { ln.upd with session := none, assembling := [] } }.put UPD_STAT_SESS 0

/-- A target is pending (R367, R511). -/
def Lane.targetPending (ln : Lane) : Bool := ln.nv.boot.pendSlot || ln.nv.boot.pendCfg

/-- The pending target becomes the slot or copy in force, the pair that was in force the previous one, and the trial
begins (R511, R515). -/
def BootRec.activate (b : BootRec) : BootRec :=
  let slot := if b.rollback then b.prevSlot else if b.pendSlot then 1 - b.slot else b.slot
  let cfg := if b.rollback then b.prevCfg else if b.pendCfg then 1 - b.cfg else b.cfg
  { b with
    slot := slot, cfg := cfg, prevSlot := b.slot, prevCfg := b.cfg, pendSlot := false, pendCfg := false,
    rollback := false, trial := true, uncommitted := false, superseded := false }

/-- UPDATE applies in the named lane (R372, R511): its engines stop, its bridge die holds, and it restarts at the end of
the frame. -/
def Lane.activate (ln : Lane) : Lane :=
  let ln := (ln.endSession).stopEngines
  let ln := { ln with
    nv := { ln.nv with boot := ln.nv.boot.activate }
    rj := { ln.rj.endAttempt with holding := true, wHolds := true } }
  (ln.showNv).setLstate lsWithdrawn

/-- Compatibility mode: the image level is one above another running lane's (R516). -/
def Lane.showCompat (ln : Lane) : Lane :=
  ln.putB UPD_BOOT_COMPAT (LaneId.all.any (fun l =>
    l != ln.id && isRunning (ln.agr.vec.get l).lstate && (ln.agr.vec.get l).level + 1 == ln.upd.level))

/-- Interrupt source 19 (R520). -/
def Lane.irqUpd (ln : Lane) : Bool :=
  (ln.is UPD_IEN_IDONE && ln.ready UPD_STAT) || (ln.is UPD_IEN_IBLK && ln.upd.blkEvent)

/-! ### The commands of the table -/

/-- The image and the configuration are loaded and verified (R512, R513). -/
def execImageLoaded (l : LaneId) (r : LoadResult) (s : State) : Host.Outcome State Fault Refusal :=
  onLane s l (fun ln => ln.loadImages r)

end Sys2Proof.Machine
end

