-- ==== Sys2Proof/Machine/Rejoin.lean ====
section
/-!
DEFINITION. What a control frame start installs across lanes (chapter 10, R319 to R324, R331 to R337; R378): agreed values,
vectors, shares, the frame count, the judgement of a starting lane and the frames of a rejoin.
-/

namespace Sys2Proof.Machine

open Sys2Proof

/-! ### Agreement of one quantity (R321) -/

/-- The agreed value of the valid contributions, lowest-lettered lane first. -/
def agreeVals (tol nRun : Nat) : List Int → Option Int
  | [a, b, c] => some (max (min a b) (min (max a b) c))
  | [a, b] => if (a - b).natAbs ≤ tol then some ((a + b) / 2) else none
  | [a] => if nRun = 1 then some a else none
  | _ => none

/-- The signed difference modulo one revolution of `m` units. -/
def circDiff (m x b : Int) : Int :=
  let d := (x - b) % m
  if 2 * d < m then d else d - m

/-- A circular quantity: the differences from the lowest-lettered contribution are agreed. -/
def agreeCirc (m : Int) (tol nRun : Nat) (l : List Int) : Option Int :=
  match l with
  | [] => none
  | b :: _ => (agreeVals tol nRun (l.map (fun x => circDiff m x b))).map (fun d => (b + d) % m)

/-! ### Installation (R322, R323, R549) -/

/-- One lane's contributions, where its rounds are complete. -/
structure Contribution where
  q0 : Q0Body
  words : List (Nat × Word)
  valid : Word

/-- The lanes whose contributions form the agreed values at S: running in the vectors in force, no withdrawal
registered before the share cut. -/
def Lane.contributors (ln : Lane) : List LaneId := ln.runningLanes.filter (fun l => !ln.agr.gone.contains l)

/-- A running lane's contributions; none while a round is not complete (R550). -/
def Lane.contribution (ln : Lane) (l : LaneId) : Option Contribution :=
  match ln.agr.q0.get l with
  | some q =>
    let ws := ln.agr.sqw.get l
    if [0, 11, 22].all (fun k => (keyGet ws k).isSome) then some ⟨q, ws, ln.agr.sqv.get l⟩ else none
  | none => none

/-- Numbers of the agreed quantities in events and counts: word k by k, VB 32, Lay correction 33, CATCH 40 + c, XANG
48 + c. -/
def quVb : Nat := 32
def quLay : Nat := 33
def quCatch (c : Nat) : Nat := 40 + c
def quAngle (c : Nat) : Nat := 48 + c

/-- Count an agreement or the lack of one: in a row, and in a row with three lanes running (R357, R361). -/
def countAgr (l : List (Nat × Nat)) (k nRun : Nat) (ok : Bool) : List (Nat × Nat) :=
  if ok then keyDrop (keyDrop l k) (100 + k)
  else
    let l := keyPut l k ((keyGet l k).getD 0 + 1)
    if nRun = 3 then keyPut l (100 + k) ((keyGet l (100 + k)).getD 0 + 1) else keyDrop l (100 + k)

/-- A quantity's outcome (R322): flags, event, and a LIMP request when both of two running lanes contributed. -/
def Lane.noteAgr (ln : Lane) (k nRun nVal : Nat) (ok : Bool) : Lane :=
  let ln := { ln with agr := { ln.agr with noAgr := countAgr ln.agr.noAgr k nRun ok } }
  if ok then ln
  else
    let ln := (ln.on TALLY_STAT_NOAGR).logR 0x51 TALLY_STAT k
    let ln := if k < 32 then ln.wr TALLY_SQNA (ln.rd TALLY_SQNA ||| BitVec.ofNat 32 (2 ^ k)) else ln
    if nRun = 2 && nVal == 2 && isRunning ln.lstate then ln.askLimp else ln

/-- VB is installed (R549). -/
def Lane.installVb (ln : Lane) (cs : List Contribution) (nRun : Nat) : Lane :=
  let vals := cs.filterMap (fun c => c.q0.vbus.map (fun v => (v.toNat : Int)))
  let r := agreeVals 409 nRun vals
  let ln := ln.noteAgr quVb nRun vals.length r.isSome
  match r with
  | some c => { ln with agr := { ln.agr with vb := wordI (c * 32768), vbValid := true } }
  | none => { ln with agr := { ln.agr with vbValid := false } }

/-- The Lay correction (R323): it counts as a quantity while a running lane contributes to it. -/
def Lane.installLay (ln : Lane) (cs : List Contribution) (nRun : Nat) : Lane :=
  let vals := cs.filterMap (fun c => c.q0.layCorr)
  let r := agreeVals 800 nRun vals
  let ln := if vals.isEmpty then ln else ln.noteAgr quLay nRun vals.length r.isSome
  { ln with agr := { ln.agr with layAgreed := r } }

/-- Shared word `k` (R323): it counts while its source is configured. -/
def Lane.installWord (cs : List Contribution) (nRun : Nat) (ln : Lane) (k : Nat) : Lane :=
  let off (ln : Lane) : Lane := ln.wr TALLY_SQV (ln.rd TALLY_SQV &&& ~~~(BitVec.ofNat 32 (2 ^ k)))
  if ln.get (TALLY_SQSRC_CLASS k) = 0 then off ln
  else
    let vals := cs.filterMap (fun c => if bit c.valid k then (keyGet c.words k).map (fun w => w.toInt) else none)
    let tol := (ln.rd (TALLY_SQTOL k)).toNat
    let r := if ln.is (TALLY_SQSRC_CIRC k) then agreeCirc 4294967296 tol nRun vals else agreeVals tol nRun vals
    let ln := ln.noteAgr k nRun vals.length r.isSome
    match r with
    | some v => (ln.wr (TALLY_SQ k) (wordI v)).wr TALLY_SQV (ln.rd TALLY_SQV ||| BitVec.ofNat 32 (2 ^ k))
    | none => off ln

/-- Words CATCH and XANG of a channel (R209, R323): they count while a running lane contributes to them. -/
def Lane.installChan (cs : List Contribution) (nRun : Nat) (ln : Lane) (c : Nat) : Lane :=
  let chs := cs.filterMap (fun x => x.q0.ch[c]?)
  let raw := chs.filterMap (fun x => x.catchR)
  let sp := agreeVals 163 nRun (raw.map (fun x => x.1))
  let an := agreeCirc 65536 1820 nRun (raw.map (fun x => (x.2.toNat : Int)))
  let ln := if raw.isEmpty then ln else ln.noteAgr (quCatch c) nRun raw.length (sp.isSome && an.isSome)
  let w : Word := match sp, an with
    | some v, some a =>
      let cls := catchClass (ln.chanU c).fwd v (ln.get (COMM_START_FLOOR c)) (ln.get (COMM_START_THRESH c))
      (BitVec.ofInt 16 v) ++ (BitVec.ofNat 16 (cls + 4 + 16 * (a.toNat / 16)))
    | _, _ => vget ln.agr.caught c 0 &&& 0xFFFFFFFB
  let angs := chs.filterMap (fun x => x.angle.map (fun a => (a.toNat : Int)))
  let xa := agreeCirc 65536 364 nRun angs
  let ln := if angs.isEmpty then ln else ln.noteAgr (quAngle c) nRun angs.length xa.isSome
  let x : Word := match xa with
    | some a => BitVec.ofNat 32 (a.toNat + 65536)
    | none => vget ln.agr.xang c 0 &&& 0xFFFEFFFF
  let ln := { ln with agr := { ln.agr with caught := vset ln.agr.caught c w, xang := vset ln.agr.xang c x } }
  (ln.putInput (32 * c + 13) w).putInput (32 * c + 14) x

/-- Agreed values take effect at S; while no lane runs nothing is agreed and every valid bit is 0 (R322). -/
def Lane.installValues (ln : Lane) : Lane :=
  let rs := ln.contributors
  if rs.isEmpty then
    let ln := { ln with agr := { ln.agr with vbValid := false, layAgreed := none } }
    (List.range 6).foldl (fun ln c =>
      let a := ln.agr
      let w := vget a.caught c 0 &&& 0xFFFFFFFB
      let x := vget a.xang c 0 &&& 0xFFFEFFFF
      let ln := { ln with agr := { a with caught := vset a.caught c w, xang := vset a.xang c x } }
      (ln.putInput (32 * c + 13) w).putInput (32 * c + 14) x) (ln.wr TALLY_SQV 0)
  else
    let got := rs.map ln.contribution
    let cs := if got.all (fun x => x.isSome) then got.filterMap (fun x => x) else []
    let n := rs.length
    let ln := (ln.installVb cs n).installLay cs n
    let ln := (List.range 32).foldl (Lane.installWord cs n) ln
    (List.range 6).foldl (Lane.installChan cs n) ln

/-! ### Starting together and the vectors (R324, R331, R334, R378) -/

/-- Whether another lane is aligned to this one (R317, R378): within 20 ns, and heard within 100 ms. -/
def Lane.alignedTo (ln : Lane) (o : LaneId) : Bool :=
  (match ln.rj.offs.get o with | some x => decide (x.natAbs ≤ 160) | none => false) &&
    (match ln.rj.heard.get o with | some t => decide (since ln.lt t < 100 * msUnits) | none => false)

/-- Whether another lane has sent no packet for 100 ms since this lane's checks passed (R378). -/
def Lane.silentSince (ln : Lane) (o : LaneId) : Bool :=
  let from' := match ln.rj.heard.get o with
    | some t => if timeLe t ln.rj.checksAt then ln.rj.checksAt else t
    | none => ln.rj.checksAt
  decide (100 * msUnits ≤ since ln.lt from')

/-- The next state of a lane whose V packet shows a state: SHADOW to RAMP after a matching vote, RAMP to RUNNING from
frame R + 3 (R334). -/
def Lane.advance (ln : Lane) (st : Nat) : Nat :=
  if st = lsShadow && ln.agr.shadowOk == some true then lsRamp
  else if st = lsRamp && decide (3 ≤ ln.agr.rampK + 1) then lsRunning
  else st

/-- Another lane's entry at S. A lane of which no packet came is ABSENT unless it counts as running; the faults of a lane
whose withdrawal takes effect are covered by its lane loss until it reports again. -/
def Lane.otherEntry (ln : Lane) (o : LaneId) : LaneEntry :=
  let old := ln.agr.vec.get o
  if ln.agr.gone.contains o then { old with lstate := lsWithdrawn, faults := ⟨0, 0⟩, linkLoss := false }
  else if ln.agr.goneLate.contains o then old
  else match ln.agr.v.get o with
    | some b =>
      let st := ln.advance b.entry.lstate
      { b.entry with lstate := st, ran := old.ran || b.entry.ran || st == lsRunning }
    | none => if isRunning old.lstate then old else { LaneEntry.reset with ran := old.ran }

/-- A starting lane is judged (R378): RUNNING, RESYNC, or waiting. -/
inductive StartCase where
  | run | resync | wait
  deriving DecidableEq, Repr

/-- The case of R378 that holds at this frame start, with the other lanes' entries at S. -/
def Lane.startCase (ln : Lane) (es : List (LaneId × LaneEntry)) : StartCase :=
  let beyond (e : LaneEntry) : Bool := e.mode != modeInit && e.mode != modeStarttest
  if !es.any (fun x => isRunning x.2.lstate && beyond x.2) then
    if es.all (fun x => ln.alignedTo x.1 || ln.silentSince x.1) then .run else .wait
  else if es.all (fun x => x.2.lstate == lsRunning && beyond x.2) then .resync
  else .wait

/-- The lane is one that R378 judges. -/
def Lane.starting (ln : Lane) : Bool :=
  ln.locked && ln.mode.checks && ln.mode.shut == .none && ln.mode.sleep == .none &&
    (ln.lstate == lsAbsent || (ln.lstate == lsWithdrawn && ln.rj.waiting))

/-- Another lane becomes RUNNING together with this one: it reports passed checks, has not run, and is aligned. -/
def Lane.startsToo (ln : Lane) (x : LaneId × LaneEntry) : Bool :=
  x.2.checks && !x.2.ran && (x.2.lstate == lsAbsent || x.2.lstate == lsWithdrawn) && ln.alignedTo x.1

/-- The lane becomes RUNNING: its heartbeat loss clears (R345), a trial ends (R514). -/
def Lane.becomeRunning (ln : Lane) : Lane :=
  let ln := (ln.put STOP_STAT_HBL 0).put TALLY_STAT_ATT 0
  let ln := { ln with rj := { ln.rj with waiting := false, demanded := false } }
  let ln := if ln.nv.boot.trial then { ln with nv := { ln.nv with boot := { ln.nv.boot with trial := false } } }.showNv else ln
  ln.setLstate lsRunning

/-- RESYNC begins at frame W + 1 (R334): the transfer starts; a lane from STARTTEST restarts its engines at once, another
one after its comparator self-check. -/
def Lane.beginResync (ln : Lane) (fromTest : Bool) : Lane :=
  let ln := { ln with rj := { ln.rj with
    checking := !fromTest, waiting := false, demanded := false, frames := 0, blocks := [], mism := 0,
    restarted := fromTest } }
  let ln := ((ln.putB SPLC_STAT_XFER (ln.zBlocks != 0)).put SPLC_XFER_BLK 0).put SPLC_XFER_Z ln.zBlocks
  let ln := ln.setLstate lsResync
  if fromTest then ln.restartEngines.on TALLY_STAT_RESYNC else ln

/-- An attempt to rejoin ends without success: the lane's engines stop. -/
def Lane.endAttempt (ln : Lane) : Lane :=
  let ln := { ln with rj := ln.rj.endAttempt }
  let ln := if ln.is SPLC_STAT_XFER then (ln.put SPLC_STAT_XFER 0).on SPLC_STAT_XFEV else ln
  (ln.stopEngines).put TALLY_STAT_RESYNC 0

/-- A second mismatch of one attempt (R334): the attempt fails; the second failed attempt bars the lane (R333), another
restarts the sequence at the snapshot. -/
def Lane.attemptFailed (ln : Lane) : Lane :=
  let ln := (ln.endAttempt).countUp TALLY_STAT_ATT
  if 2 ≤ ln.get TALLY_STAT_ATT then ln.becomeBarred else ln.beginResync false

/-- Whether the cause of the last withdrawal lets the rejoin begin (R318, R333). -/
def Lane.mayRejoin (ln : Lane) : Bool :=
  let both := [ln.id.next, ln.id.prev].all (fun o =>
    match ln.rj.offs.get o with | some x => decide (x.natAbs ≤ 160) | none => false)
  (ln.get TALLY_WCAUSE_CODE != 5 || !ln.is BRDG_STAT_UVLO) && (ln.get TALLY_WCAUSE_CODE != 8 || both) &&
    ln.mode.shut == .none && ln.mode.sleep == .none

/-- The lane's own state at a frame start (R333, R334, R378), the others' entries at S given; `was`: the frame that ends
stands as W. -/
def Lane.judgeSelf (ln : Lane) (es : List (LaneId × LaneEntry)) (was : Bool) : Lane :=
  let bothRun := es.all (fun x => x.2.lstate == lsRunning)
  let setW (ln : Lane) (b : Bool) : Lane := { ln with rj := { ln.rj with wHolds := b } }
  let abandon (ln : Lane) : Lane := setW ((ln.endAttempt.put TALLY_STAT_ATT 0).setLstate lsWithdrawn) false
  let st := ln.lstate
  if ln.starting then
    match ln.startCase es with
    | .run => ln.becomeRunning
    | .resync => ln.beginResync true
    | .wait => { ln with rj := { ln.rj with waiting := true } }.setLstate lsWithdrawn
  else if st = lsWithdrawn then
    if bothRun && ln.mayRejoin then (if was then ln.beginResync false else setW ln true)
    else if ln.rj.holding then ln else setW ln false
  else if st = lsResync then
    if !bothRun then abandon ln
    else
      let ln := { ln with rj := { ln.rj with frames := ln.rj.frames + 1 } }
      if !ln.rj.checking && decide (ln.zBlocks ≤ ln.rj.blocks.length) then ln.setLstate lsShadow else ln
  else if st = lsShadow then
    if !bothRun then abandon ln
    else match ln.agr.shadowOk with
      | some true => (ln.put STOP_HB_MISS 0).setLstate lsRamp
      | some false => if 1 ≤ ln.rj.mism then ln.attemptFailed else { ln with rj := { ln.rj with mism := 1 } }
      | none => ln
  else if st = lsRamp && decide (3 ≤ ln.agr.rampK + 1) then ln.becomeRunning
  else ln

/-- A lane's share of the machine in 24ths (R332). -/
def shareFor (vec : Trio LaneEntry) (k : Nat) (l : LaneId) : Nat :=
  let runs := LaneId.all.filter (fun x => isRunning (vec.get x).lstate)
  let ramp := LaneId.all.any (fun x => (vec.get x).lstate == lsRamp)
  if !isRunning (vec.get l).lstate then 0
  else if ramp && runs.length == 3 then (if (vec.get l).lstate = lsRamp then 2 * (k + 1) else 11 - k)
  else 24 / runs.length

/-- The channel vectors (R324): each lane's STATE, DEF and handover pass; a lane that is ABSENT reads 0. -/
def Lane.chanVector (ln : Lane) (vec : Trio LaneEntry) (c : Nat) : Word :=
  let byte (l : LaneId) : Nat :=
    if (vec.get l).lstate = lsAbsent then 0
    else match ln.agr.q0.get l with
      | some q => match q.ch[c]? with
        | some x => x.state % 8 + 8 * b2n x.dfc + 16 * b2n x.hand
        | none => 0
      | none => bits (vget ln.agr.chan c 0) (8 * l.idx + 7) (8 * l.idx)
  BitVec.ofNat 32 (byte .a + 256 * byte .b + 65536 * byte .c)

/-- Show the vectors and shares. -/
def Lane.showVectors (ln : Lane) : Lane :=
  let a := ln.agr
  let ln := ((ln.put TALLY_LANES_LA a.vec.a.lstate).put TALLY_LANES_LB a.vec.b.lstate).put TALLY_LANES_LC a.vec.c.lstate
  let ln := ln.put TALLY_LANES_NRUN ((LaneId.all.filter ln.runsFor).length)
  ((ln.wr TALLY_SHA (shareOf a.share.a)).wr TALLY_SHB (shareOf a.share.b)).wr TALLY_SHC (shareOf a.share.c)

/-- The frame count at a frame start (R319): one on; a lane that is not running and is aligned to the running lanes takes
their count and phase; lanes that become RUNNING together take those of the lowest-lettered of them. -/
def Lane.takeCount (ln : Lane) (es : List (LaneId × LaneEntry)) (together : Bool) : Lane :=
  let next := ln.rd TIME_FRAME + 1
  let rs := es.filter (fun x => isRunning x.2.lstate)
  let adopt (ln : Lane) (l : LaneId) : Lane :=
    if l = ln.id then ln.wr TIME_FRAME next
    else match ln.agr.v.get l with
      | some b => (ln.wr TIME_FRAME (b.frame + 1)).wr TIME_FPHASE b.fphase
      | none => ln.wr TIME_FRAME next
  if together then
    match (LaneId.all.filter (fun l => l == ln.id || rs.any (fun x => x.1 == l))).head? with
    | some l => adopt ln l
    | none => ln.wr TIME_FRAME next
  else if !isRunning ln.lstate && !rs.isEmpty && rs.all (fun x => ln.alignedTo x.1) then
    match rs.head? with
    | some x => adopt ln x.1
    | none => ln.wr TIME_FRAME next
  else ln.wr TIME_FRAME next

/-- Vectors, shares and the lane's own state at a frame start. -/
def Lane.installVectors (ln : Lane) (was : Bool) : Lane :=
  let os := LaneId.all.filter (fun l => l != ln.id)
  let es := os.map (fun l => (l, ln.otherEntry l))
  let selfLate := ln.agr.goneLate.contains ln.id
  let old := ln.agr.vec
  let before := ln.lstate
  let ln := if ln.locked then ln.judgeSelf es was else ln
  let together := !isRunning before && before != lsShadow && ln.lstate == lsRunning
  let es := if together then es.map (fun x => if ln.startsToo x then (x.1, { x.2 with lstate := lsRunning, ran := true }) else x)
    else es
  let ln := ln.takeCount es together
  let own := { ln.ownEntry with ran := (old.get ln.id).ran || ln.lstate == lsRunning }
  let own := if selfLate then old.get ln.id else own
  let vec := es.foldl (fun (v : Trio LaneEntry) x => v.set x.1 x.2) (old.set ln.id own)
  let wasRamp := old.list.any (fun e => e.lstate == lsRamp)
  let isRamp := vec.list.any (fun e => e.lstate == lsRamp)
  let k := if isRamp && wasRamp then ln.agr.rampK + 1 else 0
  let share : Trio Nat := ⟨shareFor vec k .a, shareFor vec k .b, shareFor vec k .c⟩
  let chan := Vector.ofFn (fun c : Fin 6 => ln.chanVector vec c)
  let ln := { ln with agr := { ln.agr with vec := vec, rampK := k, share := share, chan := chan } }
  let resync := !isRunning (vec.get ln.id).lstate || !vec.list.any (fun e => e.lstate == lsResync)
  let ln := if resync then ln else (ln.putB SPLC_STAT_XFER (ln.zBlocks != 0)).put SPLC_XFER_Z ln.zBlocks
  let ln := if isRunning ln.lstate && ln.is SPLC_STAT_XFER && !vec.list.any (fun e => e.lstate == lsResync) then
    (ln.put SPLC_STAT_XFER 0).on SPLC_STAT_XFEV else ln
  ln.showVectors

/-- The rounds of the frame that begins are empty (R313). -/
def Lane.clearRounds (ln : Lane) : Lane :=
  { ln with agr := { ln.agr with
    v := ⟨none, none, none⟩, vRelay := ⟨false, false, false⟩, voted := false, q0 := ⟨none, none, none⟩,
    sqw := ⟨[], [], []⟩, sqv := ⟨0, 0, 0⟩, gone := ln.agr.goneLate, goneLate := [], cutPassed := false,
    shadowOk := none } }

/-- The frame is recorded in the history (R336), with the commands folded at the vote cut before it. -/
def Lane.recordHistory (ln : Lane) (cut : LTime) : Lane :=
  let due := ln.dueCmds cut
  let rest := ln.agr.frameCmds.filter (fun k => !due.contains k)
  let h : HistRec :=
    { frame := ln.rd TIME_FRAME, vb := ln.agr.vb, sqv := ln.rd TALLY_SQV,
      sq := (List.range 32).map (fun k => ln.rd (TALLY_SQ k)), caught := ln.agr.caught.toList,
      xang := ln.agr.xang.toList, chan := ln.agr.chan.toList, cmds := due }
  { ln with agr := { ln.agr with frameCmds := rest, history := (h :: ln.agr.history).take 16 } }

/-! ### Frame R (R228, R260, R337) -/

/-- The channels of a rejoining lane that are RUN in the other lanes enter RUN (R337). -/
def Lane.joinChannels (ln : Lane) : Lane :=
  let rs := ln.runningLanes.filter (fun l => l != ln.id)
  (List.range 6).foldl (fun ln c =>
    if ln.is (COMM_CHCFG_EN c) && ln.cst c != csLost && rs.any (fun l => ln.chanState l c == csRun) then ln.chanRun c 0
    else ln) ln

/-- fe times KE of a channel (R260): from HSPD when sensored, from the change of XANG over the last frame otherwise. -/
def Lane.rejoinEmf (ln : Lane) (old : Vector Word 6) (c : Nat) : Int :=
  let ke : Int := ln.get (COMM_KE_KE c)
  let rated : Int := ln.get (COMM_RATED_RATED c)
  if ln.sensored c then
    quotHalf ((satWord (ln.speedResult (8 + ln.get (COMM_CHCFG_HSEL c))).1).toInt * 16 * ke * 32768) (6 * 1024 * rated)
  else
    let a := vget old c 0
    let b := vget ln.agr.xang c 0
    if bit a 16 && bit b 16 then
      quotHalf (circDiff 65536 (bits b 15 0) (bits a 15 0) * 16 * ke * 20000) (ln.get PACE_LIVE_FR_LIVE * rated)
    else 0

/-- The shared outputs of the frame before, from the L packets of both other lanes, where they are equal (R337). -/
def Lane.othersOut (ln : Lane) : Option (List (Nat × Word)) :=
  let x := ln.agr.loopOut.get ln.id.next
  let y := ln.agr.loopOut.get ln.id.prev
  if x = y && !x.isEmpty then some x else none

/-- Frame R (R337): the shared slots of every running lane and of the rejoining lane are preset with the shared outputs of
the frame before, and the rejoining lane's local slots under R260. -/
def Lane.rejoinPresets (ln : Lane) (old : Vector Word 6) : Lane :=
  let mine := ln.lstate == lsRamp
  let outs := ln.othersOut
  let f (regs : RegFile) (lc : LoopCopy) : LoopCopy :=
    (List.range 24).foldl (fun lc i =>
      if fld regs (LOOP_CFG_EN i) = 0 then lc
      else if sharedSlot regs i then
        let u : Int := if mine then ((outs.bind (fun l => keyGet l i)).getD 0).toInt else (vget lc.slot i .reset).u
        addPreset lc i 0 u
      else if mine then
        let cur := fld regs (LOOP_CFG_KIND i) == 2 && isCurrentSlot regs i
        addPreset lc i 1 (if cur then ln.rejoinEmf old (fld regs (LOOP_CFG_CH i)) else 0)
      else lc) (firstAll lc)
  { ln with loop := ⟨f ln.cregs.p ln.loop.p, f ln.cregs.s ln.loop.s⟩ }

/-- Frame R of a rejoin in this lane: a rejoining lane without equal outputs of both senders fails its attempt. -/
def Lane.frameR (ln : Lane) (old : Vector Word 6) : Lane :=
  if !(ln.agr.vec.list.any (fun e => e.lstate == lsRamp)) || ln.agr.rampK != 0 then ln
  else if ln.lstate = lsRamp then
    if ln.othersOut.isNone && (List.range 24).any (fun i => sharedSlot ln.cregs.p i) then ln.attemptFailed
    else (ln.joinChannels).rejoinPresets old
  else if isRunning ln.lstate then ln.rejoinPresets old
  else ln

/-- The shared outputs of this evaluation go out while a lane is in RESYNC or SHADOW (R312, R337). -/
def Lane.sendLoop (ln : Lane) : Lane :=
  let regs := ln.cregs.p
  let outs := (List.range 24).map (fun i => if sharedSlot regs i then wordI (vget ln.loop.p.slot i .reset).u else 0)
  let ln := { ln with agr := { ln.agr with loopOut := ⟨[], [], []⟩ } }
  if isRunning ln.lstate && ln.agr.vec.list.any (fun e => e.lstate == lsResync || e.lstate == lsShadow) then
    (ln.send (.l 0 (outs.take 12))).send (.l 1 (outs.drop 12))
  else ln

end Sys2Proof.Machine
end

