-- ==== Sys2Proof/Machine/Modes.lean ====
section
/-!
DEFINITION. The modes and their transitions (R364 to R372) with the two-fault rule (R357 to R361): the module count,
requests and their conditions, what entering a mode does, and the judgement at a control frame start.
-/

namespace Sys2Proof.Machine

open Sys2Proof

/-! ### The module count (R357, R358) -/

/-- Lanes lost: not RUNNING after having run. -/
def Lane.lanesLost (ln : Lane) : Nat :=
  (ln.agr.vec.list.filter (fun e => e.ran && e.lstate != lsRunning)).length

/-- The module count of the vectors in force. -/
def Lane.moduleCount (ln : Lane) : Nat :=
  (ln.agr.vec.list.map (fun e => e.faults.count)).foldl (· + ·) 0 + ln.lanesLost

/-- LCTL_FSET at a frame start. -/
def Lane.showFaults (ln : Lane) : Lane :=
  let f := ln.faultSet
  ((ln.put LCTL_FSET_CLS f.cls.toNat).put LCTL_FSET_LCNT (min f.count 15)).put LCTL_FSET_MCNT (min ln.moduleCount 15)

/-! ### Machine speed (R361, R367) -/

/-- The agreed machine speed. -/
def Lane.speedWord (ln : Lane) : Int := (ln.rd (TALLY_SQ (ln.get LCTL_LIMPCFG_SPDW))).toInt

/-- SPDW is agreed and its magnitude below VSTOP. -/
def Lane.standing (ln : Lane) : Bool :=
  ln.sqValid (ln.get LCTL_LIMPCFG_SPDW) && decide (ln.speedWord.natAbs * 2000 < ln.get LCTL_LIMPCFG_VSTOP * 2147483648)

/-- Since when the machine has stood, followed at each frame start. -/
def Lane.trackStand (ln : Lane) : Lane :=
  let since' := if ln.standing then some (ln.mode.standSince.getD ln.lt) else none
  { ln with mode := { ln.mode with standSince := since' } }

/-- LIMP ends (R361): 500 ms at a stand, LIMPT, or SPDW without agreement at three frames. -/
def Lane.limpOver (ln : Lane) : Bool :=
  let stood := match ln.mode.standSince with
    | some t => decide (500 * msUnits ≤ since ln.lt t)
    | none => false
  let timed := match ln.mode.limpStart with
    | some t => decide (ln.get LCTL_LIMPCFG_LIMPT * 2000 * msUnits ≤ since ln.lt t)
    | none => false
  stood || timed || ln.mode.standDone || ln.mode.limpDone ||
    decide (3 ≤ (keyGet ln.agr.noAgr (ln.get LCTL_LIMPCFG_SPDW)).getD 0)

/-! ### Requests (R365 to R368, R371) -/

/-- A request is rejected: REJ, REJC and its event; no mode changes (R366). -/
def Lane.rejectMode (ln : Lane) (code : Nat) : Lane :=
  ((ln.on LCTL_MODE_REJ).put LCTL_MODE_REJC code).logR 0x70 LCTL_MODE 0

/-- The entries of the running lanes and of this lane. -/
def Lane.judged (ln : Lane) : List LaneEntry := (LaneId.all.filter (fun l => l == ln.id || ln.runsFor l)).map ln.agr.vec.get

/-- The sources of a transition by request in the table of R367. -/
def mayGo (src dst : Nat) : Bool :=
  if dst = modeStandby then [modeStarttest, modeArmed, modeService, modeSafestop].contains src
  else if dst = modeArmed then [modeStarttest, modeStandby, modeService, modeRun3, modeRun2].contains src
  else if dst = modeService then [modeStandby, modeArmed].contains src
  else if dst = modeRun3 ∨ dst = modeRun2 then src == modeArmed
  else if dst = modeSleep then src == modeStandby
  else if dst = modeShutdown then [modeStarttest, modeStandby, modeSafestop].contains src
  else if dst = modeUpdate then [modeStandby, modeArmed, modeRun3].contains src
  else false

/-- A released store to LCTL_MODEREQ (R365): the request waits for its frame. Where that lies outside 1 to 256 frames
ahead it is discarded, with the first code of R366 that fails. -/
def Lane.writeModereq (ln : Lane) (v : Word) : Lane :=
  let target := bits v 3 0
  let n := framesAhead (v.extractLsb' 16 16) (ln.rd TIME_FRAME)
  if n < 1 ∨ 256 < n then ln.rejectMode (if mayGo ln.modeNow target then 0x04 else 0x01)
  else
    let r : ModeReq := ⟨target, bits v 5 4, v.extractLsb' 16 16⟩
    ({ ln with mode := { ln.mode with pend := ln.mode.pend ++ [r] } }).put LCTL_MODE_PEND target

/-- The first condition of R367 that fails, in the order of R366; none where all hold. -/
def Lane.requestFails (ln : Lane) (dst named : Nat) : Option Nat :=
  let src := ln.modeNow
  let es := ln.judged
  let fromRun := src == modeRun3 || src == modeRun2
  let checks := src == modeStarttest && (dst == modeStandby || dst == modeArmed) && !es.all (fun e => e.checks)
  let guards := ((dst == modeArmed && (src == modeStarttest || src == modeStandby)) || dst == modeService) &&
    !es.all (fun e => e.gtok && e.gtack)
  let counted := (dst == modeArmed && (src == modeStarttest || src == modeStandby)) || dst == modeService ||
    dst == modeRun3 || dst == modeRun2
  let count := counted && (decide (1 < ln.moduleCount) ||
    ((dst == modeRun3 || dst == modeRun2) && decide (ln.get TALLY_LANES_NRUN < 2)))
  let stand := ((dst == modeStandby && (src == modeArmed || src == modeService)) || (dst == modeArmed && fromRun)) &&
    !ln.standing
  let release := dst == modeStandby && src == modeSafestop && !ln.reactionOver
  let update := dst == modeUpdate && (!ln.agr.vec.list.all (fun e => e.lstate == lsRunning) || ln.moduleCount != 0 ||
    named == 0 || (named == ln.id.code && !ln.targetPending))
  if !mayGo src dst || !ln.locked || ln.mode.sleep != .none || ln.mode.shut != .none then some 0x01
  else if checks then some 0x08
  else if guards then some 0x02
  else if count then some 0x03
  else if stand then some 0x05
  else if release then some 0x06
  else if update then some 0x07
  else none

/-! ### Entering a mode -/

/-- The mode in force changes, with what leaving the old one does: the check-bit test mode and manual end with SERVICE
(R259, R397), channels and loop unit stop with the modes that drive (R221, R258), the safe-mode trigger ends with SAFESTOP
(R341), the session ends (R507). -/
def Lane.changeMode (ln : Lane) (m : Nat) : Lane :=
  let old := ln.modeNow
  let ln := (ln.put LCTL_MODE_PREV old).put LCTL_MODE_MODE m
  let ln := if old = modeService && m != modeService then (ln.leaveService).put MEM_CBTEST_EN 0 else ln
  let ln := if isDriveMode old && !isDriveMode m then (ln.allOff).stopLoop else ln
  let ln := if old = modeSafestop && m != modeSafestop then ln.put STOP_STAT_SAFE 0 else ln
  let ln := if [modeLimp, modeSafestop, modeSleep, modeShutdown, modeUpdate].contains m then ln.endSession else ln
  ln.permits

/-- ARMED: presets (R260), and the NOLANE trigger is armed (R348). -/
def Lane.enterArmedMode (ln : Lane) : Lane := ((ln.changeMode modeArmed).enterArmed).on STOP_STAT_ARMD

/-- LIMP (R359): LIMPD, its time, and the fatal event. -/
def Lane.enterLimp (ln : Lane) : Lane :=
  let ln := (ln.changeMode modeLimp).on LCTL_FSET_LIMPD
  ({ ln with mode := { ln.mode with
    limpStart := some ln.lt, limpDone := false, standDone := false } }).logR 0x64 LCTL_FSET 0

/-- SAFESTOP: the safe-mode trigger stands, and the Stopper reacts (R341, R361, R369). -/
def Lane.enterSafestop (ln : Lane) : Lane := ((ln.changeMode modeSafestop).on STOP_STAT_SAFE).react

/-- SAFESTOP is left for STANDBY: the reaction is released (R353). -/
def Lane.leaveSafestop (ln : Lane) : Lane :=
  let ln := (ln.changeMode modeStandby).put STOP_STAT_ARMD 0
  ln.releaseReaction

/-- SHUTDOWN applies (R379): every channel is OFF, the event is logged, and the sequence begins. -/
def Lane.enterShutdown (ln : Lane) : Lane :=
  let ln := (ln.allOff).changeMode modeShutdown
  ({ ln with mode := { ln.mode with shut := .flush } }).logR 0x71 LCTL_MODE 0

/-- SLEEP applies (R382): the sleep-entry event, and the domains are asked; the mode stays STANDBY until all have agreed. -/
def Lane.enterSleep (ln : Lane) : Lane :=
  ({ ln with mode := { ln.mode with sleep := .ask 1, stopped := [] } }).logR 0x72 LCTL_MODE 0

/-- UPDATE of the named lane (R372): that lane enters UPDATE, and the others take it as not running from this frame. -/
def Lane.enterUpdate (ln : Lane) (named : Nat) : Lane :=
  if named = ln.id.code then
    let ln := if holdsContent ln.lstate then ln else ln.beginHeld
    (ln.changeMode modeUpdate).activate
  else match LaneId.all.find? (fun l => l.code == named) with
    | some l =>
      let e := ln.agr.vec.get l
      let vec := ln.agr.vec.set l { e with lstate := lsWithdrawn, mode := modeUpdate, faults := ⟨0, 0⟩ }
      let k := ln.agr.rampK
      let share : Trio Nat := ⟨shareFor vec k .a, shareFor vec k .b, shareFor vec k .c⟩
      ({ ln with agr := { ln.agr with vec := vec, share := share } }).showVectors
    | none => ln

/-- The mode that a request for RUN3 or RUN2 enters: the one that NRUN gives (R370). -/
def Lane.runMode (ln : Lane) : Nat := if ln.get TALLY_LANES_NRUN = 3 then modeRun3 else modeRun2

/-- A requested transition applies. -/
def Lane.applyMode (ln : Lane) (dst named : Nat) : Lane :=
  if dst = modeArmed then ln.enterArmedMode
  else if dst = modeStandby then (if ln.modeNow = modeSafestop then ln.leaveSafestop else ln.changeMode modeStandby)
  else if dst = modeRun3 ∨ dst = modeRun2 then ln.changeMode ln.runMode
  else if dst = modeSleep then ln.enterSleep
  else if dst = modeShutdown then ln.enterShutdown
  else if dst = modeUpdate then ln.enterUpdate named
  else ln.changeMode dst

/-- A request is judged: it applies or is rejected. -/
def Lane.request (ln : Lane) (dst named : Nat) : Lane :=
  match ln.requestFails dst named with
  | some code => ln.rejectMode code
  | none => ln.applyMode dst named

/-- The requests whose frame starts now, taken off; PEND names the last that still waits. -/
def Lane.takeRequests (ln : Lane) : List ModeReq × Lane :=
  let due := ln.mode.pend.filter (fun r => r.frame == ln.frame16)
  let rest := ln.mode.pend.filter (fun r => r.frame != ln.frame16)
  if due.isEmpty then ([], ln)
  else (due, ({ ln with mode := { ln.mode with pend := rest } }).put LCTL_MODE_PEND
    (match rest.getLast? with
    | some r => r.target
    | none => 0))

/-- The requests due are judged in the order of their release; once one has applied, the others are rejected (R368).
The one that has applied is told. -/
def Lane.judgeRequests (ln : Lane) : List ModeReq → Option ModeReq × Lane
  | [] => (none, ln)
  | r :: rs =>
    match ln.requestFails r.target r.lane with
    | some code => (ln.rejectMode code).judgeRequests rs
    | none => (some r, rs.foldl (fun ln _ => ln.rejectMode 0x01) (ln.applyMode r.target r.lane))

/-! ### The judgement at a frame start (R359, R361, R368 to R370) -/

/-- SAFESTOP falls due: the lane's own reaction, a running lane in SAFESTOP, or the end of LIMP. -/
def Lane.safestopDue (ln : Lane) : Bool :=
  let m := ln.modeNow
  let other := LaneId.all.any (fun l =>
    l != ln.id && isRunning (ln.agr.vec.get l).lstate && (ln.agr.vec.get l).mode == modeSafestop)
  decide (modeStarttest ≤ m && m ≤ modeLimp) &&
    (ln.is STOP_STAT_REACT || (isRunning ln.lstate && other) || (m == modeLimp && ln.limpOver))

/-- LIMP falls due: the count rises to 2 or more, or a LIMP request stands. -/
def Lane.limpDue (ln : Lane) : Bool :=
  let m := ln.modeNow
  isRunning ln.lstate && decide (modeStarttest ≤ m && m ≤ modeRun2) && (m != modeStarttest || ln.mode.checks) &&
    ((decide (ln.mode.mcount < 2) && decide (2 ≤ ln.moduleCount)) || ln.agr.limpReq)

/-- RUN3 and RUN2 follow NRUN. -/
def Lane.followRun (ln : Lane) : Lane :=
  let m := ln.modeNow
  let n := ln.get TALLY_LANES_NRUN
  if m = modeRun3 && n == 2 then ln.changeMode modeRun2
  else if m = modeRun2 && n == 3 then ln.changeMode modeRun3
  else ln

/-- A rejoining lane takes the other lanes' mode at frame R (R378, R337). -/
def Lane.joinMode (ln : Lane) : Lane :=
  if ln.lstate = lsRamp && ln.agr.rampK = 0 then
    match (LaneId.all.filter (fun l => l != ln.id && ln.runsFor l)).head? with
    | some l =>
      let m := (ln.agr.vec.get l).mode
      if m = ln.modeNow then ln else if m = modeSafestop then ln.enterSafestop else ln.changeMode m
    | none => ln
  else ln

/-- The transitions due at a frame start, in the order of R368, and the request that has applied. -/
def Lane.judgeModes (ln : Lane) : Option ModeReq × Lane :=
  let before := ln.modeNow
  let ln := (ln.joinMode).trackStand
  let (reqs, ln) := ln.takeRequests
  let reject (ln : Lane) : Option ModeReq × Lane := (none, reqs.foldl (fun ln _ => ln.rejectMode 0x01) ln)
  let idle := ln.mode.shut != .none || (ln.mode.sleep != .none && ln.mode.sleep != .rollback)
  let (applied, ln) :=
    if idle then reject ln
    else if ln.safestopDue then reject ln.enterSafestop
    else if ln.limpDue then reject ln.enterLimp
    else (if isRunning ln.lstate then ln.followRun else ln).judgeRequests reqs
  let ln := if ln.modeNow = before then ln else ln.put LCTL_MODE_PREV before
  let ln := { ln with mode := { ln.mode with mcount := ln.moduleCount }, agr := { ln.agr with limpReq := false } }
  (applied, ln.showFaults)

/-! ### The commands of the table -/


/-- A request for STANDBY falls due. -/
def execRequestStandby (l : LaneId) (s : State) : Host.Outcome State Fault Refusal :=
  onLane s l (fun ln => ln.request modeStandby 0)

/-- A request for ARMED falls due. -/
def execRequestArmed (l : LaneId) (s : State) : Host.Outcome State Fault Refusal :=
  onLane s l (fun ln => ln.request modeArmed 0)

/-- A request for SERVICE falls due. -/
def execRequestService (l : LaneId) (s : State) : Host.Outcome State Fault Refusal :=
  onLane s l (fun ln => ln.request modeService 0)

/-- A request for RUN3 falls due. -/
def execRequestRun3 (l : LaneId) (s : State) : Host.Outcome State Fault Refusal :=
  onLane s l (fun ln => ln.request modeRun3 0)

/-- A request for RUN2 falls due. -/
def execRequestRun2 (l : LaneId) (s : State) : Host.Outcome State Fault Refusal :=
  onLane s l (fun ln => ln.request modeRun2 0)

/-- A request for SLEEP falls due. -/
def execRequestSleep (l : LaneId) (s : State) : Host.Outcome State Fault Refusal :=
  onLane s l (fun ln => ln.request modeSleep 0)

/-- A request for SHUTDOWN falls due. -/
def execRequestShutdown (l : LaneId) (s : State) : Host.Outcome State Fault Refusal :=
  onLane s l (fun ln => ln.request modeShutdown 0)

/-- A request for UPDATE of a named lane falls due. -/
def execRequestUpdate (l : LaneId) (named : BitVec 2) (s : State) : Host.Outcome State Fault Refusal :=
  onLane s l (fun ln => ln.request modeUpdate named.toNat)

/-- The machine has stood for 500 ms in LIMP (R361). -/
def execStandstillTimeElapsed (l : LaneId) (s : State) : Host.Outcome State Fault Refusal :=
  onLane s l (fun ln => if ln.modeNow = modeLimp then { ln with mode := { ln.mode with standDone := true } } else ln)

/-- LIMPT has elapsed in LIMP (R361). -/
def execLimpTimeElapsed (l : LaneId) (s : State) : Host.Outcome State Fault Refusal :=
  onLane s l (fun ln => if ln.modeNow = modeLimp then { ln with mode := { ln.mode with limpDone := true } } else ln)

end Sys2Proof.Machine
end

