-- ==== Sys2Proof/Machine/Can.lean ====
section
/-!
DEFINITION. ISO 11783 and GNSS on a lane's ports (chapter 16, R478 to R485; R528, R529): addresses and NAMEs, requests,
transport sessions, the status and speed messages, diagnostics, epochs and the 1PPS edge.
-/

namespace Sys2Proof.Machine

open Sys2Proof

/-! ### Sending (R478, R479) -/

/-- The CAN port works: released from INIT, the communications domain on. -/
def Lane.canOn (ln : Lane) : Bool := ln.locked && ln.domOn 5

/-- The lane may send: its port works, holds an address and is not in bus-off. -/
def Lane.canSend (ln : Lane) : Bool := ln.canOn && ln.is CAN_STAT_CLAIMED && !ln.is CAN_STAT_BUSOFF

/-- What an earlier step sent is forgotten. -/
def Lane.clearCan (ln : Lane) : Lane := { ln with can := { ln.can with tx := [] } }

/-- A message goes out. -/
def Lane.sendCan (ln : Lane) (pgn : Nat) (dst : Byte) (data : List Byte) : Lane :=
  { ln with can := { ln.can with tx := ln.can.tx ++ [CanMsg.mk pgn dst data] } }

/-! ### Addresses (R479) -/

/-- The lane's NAME: self-configurable, industry group 2, function and function instance, ECU instance, manufacturer
code and identity number, in the field order of ISO 11783-5 (log 23). -/
def Lane.canName (ln : Lane) : BitVec 64 :=
  let id := (Config.serial ln.id).toNat % 2097152
  BitVec.ofNat 64 (id + 2 ^ 21 * ln.get CAN_CFG2_MFR + 2 ^ 32 * ln.id.idx + 2 ^ 35 * ln.get CAN_CFG_FINST +
    2 ^ 40 * ln.get CAN_CFG_FUNC + 2 ^ 60 * 2 + 2 ^ 63)

/-- The bytes of a 64-bit value, least significant first. -/
def bytes64 (v : BitVec 64) : List Byte := wordBytes (v.extractLsb' 0 32) ++ wordBytes (v.extractLsb' 32 32)

/-- Address Claimed, or Cannot Claim while no address is held. -/
def Lane.sendClaim (ln : Lane) : Lane := ln.sendCan 60928 255 (bytes64 ln.canName)

/-- The lane claims an address. -/
def Lane.claim (ln : Lane) (a : Nat) : Lane :=
  let ln := ((ln.put CAN_STAT_ADDR a).on CAN_STAT_CLAIMED).on CAN_STAT_CLMEV
  ({ ln with can := { ln.can with cannot := false } }).sendClaim

/-- The first claim of a start: CAN_CFG.PADDR. -/
def Lane.firstClaim (ln : Lane) : Lane := ln.clearCan.claim (ln.get CAN_CFG_PADDR)

/-- The highest address from 247 down to 128 that no other node holds. -/
def freeAddress (claims : List (Byte × BitVec 64)) : Option Nat :=
  ((List.range 120).map (fun k => 247 - k)).find? (fun a => !claims.any (fun c => c.1.toNat == a))

/-- The lane has lost its claim. -/
def Lane.loseClaim (ln : Lane) : Lane :=
  match freeAddress ln.can.claims with
  | some a => ln.claim a
  | none =>
    let ln := ((ln.put CAN_STAT_ADDR 0xFE).put CAN_STAT_CLAIMED 0).on CAN_STAT_CLMEV
    ({ ln with can := { ln.can with cannot := true } }).sendClaim

/-- Another node claims an address with its NAME, or gives its address up (0xFE). The lower NAME wins. -/
def Lane.otherClaim (ln : Lane) (addr : Byte) (name : BitVec 64) : Lane :=
  if !ln.canOn then ln
  else
    let ln := ln.clearCan
    let rest := ln.can.claims.filter (fun c => c.2 != name && c.1 != addr)
    let mine := ln.is CAN_STAT_CLAIMED && ln.get CAN_STAT_ADDR == addr.toNat
    let claims := if 0xFE ≤ addr.toNat || (mine && decide (ln.canName.toNat ≤ name.toNat)) then rest else rest ++ [(addr, name)]
    let ln := { ln with can := { ln.can with claims := claims } }
    if !mine then ln
    else if name.toNat < ln.canName.toNat then ln.loseClaim
    else ln.sendClaim

/-! ### Diagnostics (R482) -/

/-- The event codes of the lane's standing faults, and the withdrawal while it is not RUNNING. -/
def Lane.dtcCodes (ln : Lane) : List Nat :=
  let f := ln.faultSet
  let ifC (k : Nat) (code : Nat) : List Nat := if f.cls.getLsbD k then [code] else []
  let wind := (List.range 6).filterMap (fun c => if (ln.chanU c).windLoss then some 0x32 else none)
  let disc := List.replicate (b2n (ln.is STOP_STAT_DISCE) + b2n (ln.is STOP_STAT_DISCG)) 0x60
  let inputs := List.replicate ln.comm.faults.length 0x50
  let noAgr := if ln.runningLanes.head? = some ln.id then
    (ln.agr.noAgr.filter (fun x => decide (100 ≤ x.1) && decide (3 ≤ x.2))).map (fun _ => 0x51) else []
  let pos := List.replicate (ln.sensorLosses - disc.length - inputs.length - noAgr.length) 0x30
  let net := List.replicate (ln.linkLosses + b2n (ln.is LAY_STAT_NLOSS)) Config.networkCode
  ifC 0 0x01 ++ wind ++ pos ++ disc ++ inputs ++ noAgr ++ net ++ ifC 4 0x42 ++ ifC 5 0x62 ++
    (if ln.lstate != lsRunning && ln.lstate != lsAbsent then [0x23] else [])

/-- A DTC: SPN 520,192 + CODE, FMI 31, and the event's count since start, at most 126. -/
def Lane.dtc (ln : Lane) (code : Nat) : List Byte :=
  let spn := 520192 + code
  let n := min (sparseGet (fun _ => 0) ln.log.byCode code) 126
  [BitVec.ofNat 8 spn, BitVec.ofNat 8 (spn / 256), BitVec.ofNat 8 (spn / 65536 % 8 * 32 + 31), BitVec.ofNat 8 n]

/-- The lamp bytes: amber at a module count of 1, red stop at 2 or more (log 23). -/
def Lane.lamps (ln : Lane) : List Byte :=
  let n := ln.moduleCount
  [BitVec.ofNat 8 (if 2 ≤ n then 0x10 else if n = 1 then 0x04 else 0), 0xFF]

/-- A diagnostic message with its DTCs; without one, the empty DTC of the standard (log 23). -/
def Lane.diagnostic (ln : Lane) (codes : List Nat) : List Byte :=
  ln.lamps ++ (if codes.isEmpty then [0, 0, 0, 0] else (codes.map ln.dtc).flatten)

/-- DM2 takes the DTCs that stand, the newest first, at most 16. -/
def Lane.trackDtcs (ln : Lane) : Lane :=
  let new := (ln.dtcCodes.eraseDups).filter (fun c => !ln.can.dm2.contains c)
  if new.isEmpty then ln else { ln with can := { ln.can with dm2 := (new.reverse ++ ln.can.dm2).take 16 } }

/-! ### Speed and status (R481, R483) -/

/-- The agreed SPDW in 0.001 m/s, rounded to nearest, as a magnitude. -/
def Lane.speedMm (ln : Lane) : Nat := (2 * (ln.speedWord.natAbs * 20000) + 2147483648) / 4294967296

/-- Wheel-based speed and distance: PGN 65096 (log 23). -/
def Lane.wheelData (ln : Lane) : List Byte :=
  if ln.sqValid (ln.get LCTL_LIMPCFG_SPDW) then
    let d := ln.can.dist * 2000 / 2147483648
    leBytes 2 ln.speedMm ++ wordBytes (wordI d) ++ [0xFF, BitVec.ofNat 8 (0xFC + b2n (decide (0 ≤ ln.speedWord)))]
  else [0x00, 0xFE, 0x00, 0x00, 0x00, 0xFE, 0xFF, 0xFF]

/-- Every 100 ms the distance takes the speed's integral and the message goes out. -/
def Lane.wheelSpeed (ln : Lane) : Lane :=
  if !ln.canOn then ln
  else
    let ln := ln.clearCan
    let ok := ln.sqValid (ln.get LCTL_LIMPCFG_SPDW)
    let ln := if ok then { ln with can := { ln.can with dist := ln.can.dist + ln.speedWord } } else ln
    if ln.canSend then ln.sendCan 65096 255 ln.wheelData else ln

/-- The content of the status message (R481). -/
def Lane.statusData (ln : Lane) : List Byte :=
  [BitVec.ofNat 8 (ln.modeNow + 16 * ln.lstate),
    BitVec.ofNat 8 (2 * ln.get TALLY_LANES_NRUN + 16 * ln.get LCTL_FSET_MCNT),
    BitVec.ofNat 8 (ln.get LCTL_FSET_CLS), ln.can.counter] ++ wordBytes (ln.rd TIME_FRAME)

/-- A held content: HELD is 1. -/
def heldStatus : List Byte → List Byte
  | a :: b :: rest => a :: (b ||| 1) :: rest
  | l => l

/-- The status message falls due. -/
def Lane.statusMessage (ln : Lane) : Lane :=
  let pgn := 65280 + ln.get CAN_CFG_GE
  if !ln.canSend then ln
  else if isRunning ln.lstate then
    let ln := ln.clearCan
    let d := ln.statusData
    ({ ln with can := { ln.can with status := d, counter := ln.can.counter + 1 } }).sendCan pgn 255 d
  else if holdsContent ln.lstate && !ln.can.status.isEmpty then
    ln.clearCan.sendCan pgn 255 (heldStatus ln.can.status)
  else ln

/-! ### Requests (R478) -/

/-- The PGNs that the lane answers a Request for, with the content it sends. -/
def Lane.answerTo (ln : Lane) (pgn : Nat) : Option (List Byte) :=
  match pgn with
  | 65226 => some (ln.diagnostic ln.dtcCodes)
  | 65227 => some (ln.diagnostic ln.can.dm2)
  | 65096 => some ln.wheelData
  | 65242 => some (Config.identification ln.id 65242)
  | 64965 => some (Config.identification ln.id 64965)
  | _ => none

/-- An Acknowledgement: control byte 0 positive, 1 negative (log 23). -/
def ackData (control : Byte) (src : Byte) (pgn : Nat) : List Byte := [control, 0xFF, 0xFF, 0xFF, src] ++ leBytes 3 pgn

/-- A Request for a PGN arrives, addressed to the lane or to all. -/
def Lane.canRequest (ln : Lane) (pgn : Nat) (src dst : Byte) : Lane :=
  let toMe := ln.is CAN_STAT_CLAIMED && dst.toNat == ln.get CAN_STAT_ADDR
  if !ln.canOn || ln.is CAN_STAT_BUSOFF then ln
  else if pgn = 60928 then
    (if toMe || dst == 255 then ln.clearCan.sendClaim else ln)
  else if !ln.canSend || !(toMe || dst == 255) then ln
  else match ln.answerTo pgn with
    | some d => ln.clearCan.sendCan pgn (if toMe then src else 255) d
    | none =>
      if pgn = 65228 then
        let ln := { ln with can := { ln.can with dm2 := [] } }
        if toMe then ln.clearCan.sendCan 59392 255 (ackData 0 src pgn) else ln
      else if toMe then ln.clearCan.sendCan 59392 255 (ackData 1 src pgn)
      else ln

/-! ### Transport sessions and commands (R478, R480) -/

/-- A command over ISO 11783: at most 32 bytes, sent for agreement at its receive time (R325, R480). -/
def Lane.canCommand (ln : Lane) (data : List Byte) (t : LTime) : Lane :=
  if ln.canOn && !ln.is CAN_STAT_BUSOFF && decide (data.length ≤ 32) then (ln.at t).ownCommand data t else ln

/-- The sessions, and whether one is open. -/
def Lane.setSessions (ln : Lane) (l : List TpSession) : Lane :=
  ({ ln with can := { ln.can with sessions := l } }).putB CAN_STAT_TPOPEN (!l.isEmpty)

/-- The data of a session once every packet has come. -/
def TpSession.whole (x : TpSession) : Option (List Byte) :=
  let n := (x.size + 6) / 7
  let parts := (List.range n).map (fun k => keyGet x.got (k + 1))
  if parts.all (fun p => p.isSome) then some (((parts.filterMap (fun p => p)).flatten).take x.size) else none

/-- A packet of the transport protocol: one session of a sender at a time; a whole Proprietary A message is a command. -/
def Lane.transport (ln : Lane) (p : TpPacket) (t : LTime) : Lane :=
  if !ln.canOn || ln.is CAN_STAT_BUSOFF then ln
  else
    let others := ln.can.sessions.filter (fun x => x.src != p.src)
    match p.kind with
    | .start _ pgn size =>
      if size < 9 || 1785 < size then ln else ln.setSessions (others ++ [TpSession.mk p.src pgn size []])
    | .close => ln.setSessions others
    | .data num bytes =>
      match ln.can.sessions.find? (fun x => x.src == p.src) with
      | none => ln
      | some x =>
        let x := { x with got := keyPut x.got num bytes }
        match x.whole with
        | none => ln.setSessions (others ++ [x])
        | some d =>
          let ln := ln.setSessions others
          if x.pgn = 61184 then ln.canCommand d t else ln

/-- Ground-based speed and distance (R483, R528). -/
def Lane.groundSpeed (ln : Lane) (spd : BitVec 16) (dir : BitVec 2) (dist : Word) : Lane :=
  if !ln.canOn then ln
  else
    let ok := decide (spd.toNat < 0xFE00) && decide (dist.toNat < 0xFE000000)
    ln.publish CAN_GSSTAT (b2n ok) [(CAN_GSPD, BitVec.ofNat 32 (spd.toNat + 65536 * dir.toNat)), (CAN_GDIST, dist)]

/-- Interrupt source 14 (R529). -/
def Lane.irqCan (ln : Lane) : Bool :=
  (ln.is CAN_IEN_IGS && ln.ready CAN_GSSTAT) || (ln.is CAN_IEN_ICLM && ln.is CAN_STAT_CLMEV) ||
    (ln.is CAN_IEN_IBOFF && ln.is CAN_STAT_BUSOFF)

/-! ### GNSS (R484, R485) -/

/-- The registers of an epoch. -/
def gnssRegs : List Reg := [GNSS_LAT, GNSS_LON, GNSS_ALT, GNSS_SOG, GNSS_COG, GNSS_UTC, GNSS_PPS]

/-- GGA quality as GNSS_STAT shows it. -/
def qualOf (q : Nat) : Nat := if [1, 2, 4, 5].contains q then q else 0

/-- An epoch is published when GGA and RMC of the same time have been accepted. -/
def Lane.tryEpoch (ln : Lane) : Lane :=
  let g := ln.gnss
  match g.gga, g.rmc with
  | some a, some r =>
    if a.utc != r.utc || g.done == some a.utc then ln
    else
      let v := match g.vtg with
        | some x => if x.utc = a.utc then some x else none
        | none => none
      let s := v.getD r
      let rest := qualOf a.qual + 8 * min a.sats 31 + 256 * b2n v.isSome + 512 * b2n g.paired.isSome
      let pps : Word := match g.paired with
        | some t => t.extractLsb' 0 32
        | none => 0
      let ln := { ln with gnss := { g with done := some a.utc } }
      ln.publish GNSS_STAT rest
        [(GNSS_LAT, wordI a.lat), (GNSS_LON, wordI a.lon), (GNSS_ALT, wordI a.alt), (GNSS_SOG, BitVec.ofNat 32 s.sog),
          (GNSS_COG, BitVec.ofNat 32 s.cog), (GNSS_UTC, BitVec.ofNat 32 a.utc), (GNSS_PPS, pps)]
  | _, _ => ln

/-- A sentence is accepted (R484). -/
def nmeaOk (s : Nmea) : Bool := decide (s.len ≤ 82) && s.sumOk && s.talkerOk && s.kind != .other

/-- The first RMC of a whole second within 900 ms of an edge pairs with it (R485). -/
def GnssUnit.pair (g : GnssUnit) (s : Nmea) (t : LTime) : GnssUnit :=
  match g.edge with
  | some e =>
    if s.utc % 1000 = 0 ∧ since t e ≤ 900 * msUnits then { g with edge := none, paired := some e } else g
  | none => g

/-- A sentence arrives. -/
def Lane.sentence (ln : Lane) (s : Nmea) (t : LTime) : Lane :=
  if !ln.canOn then ln
  else
    let ln := ln.at t
    if !nmeaOk s then ln.on GNSS_STAT_BADS
    else
      let g := ln.gnss
      let g := match s.kind with
        | .gga => { g with gga := some s }
        | .rmc => ({ g with rmc := some s }).pair s t
        | .vtg => { g with vtg := some s }
        | .other => g
      ({ ln with gnss := g }).tryEpoch

/-- A 1PPS edge: one that still waits for its RMC has found none (R485). -/
def Lane.ppsEdge (ln : Lane) (t : LTime) : Lane :=
  if !ln.canOn then ln
  else
    let ln := (ln.at t).onIf ln.gnss.edge.isSome GNSS_STAT_PPSM
    { ln with gnss := { ln.gnss with edge := some t } }

/-- An edge has found no RMC. -/
def Lane.ppsMissed (ln : Lane) : Lane :=
  if ln.gnss.edge.isSome then ({ ln with gnss := { ln.gnss with edge := none } }).on GNSS_STAT_PPSM else ln

/-- Interrupt source 15 (R529). -/
def Lane.irqGnss (ln : Lane) : Bool :=
  (ln.is GNSS_IEN_IEP && ln.ready GNSS_STAT) || (ln.is GNSS_IEN_IERR && (ln.is GNSS_STAT_PPSM || ln.is GNSS_STAT_BADS))

/-! ### The commands of the table -/

/-- An address claim of another node arrives (R479). -/
def execAddressClaim (l : LaneId) (addr : Byte) (name : BitVec 64) (s : State) : Host.Outcome State Fault Refusal :=
  onLane s l (fun ln => ln.otherClaim addr name)

/-- A Request arrives (R478). -/
def execRequest (l : LaneId) (pgn : BitVec 18) (src dst : Byte) (s : State) : Host.Outcome State Fault Refusal :=
  onLane s l (fun ln => ln.canRequest pgn.toNat src dst)

/-- A packet of the transport protocol arrives (R478, R480). -/
def execTransportPacket (l : LaneId) (p : TpPacket) (t : LTime) (s : State) : Host.Outcome State Fault Refusal :=
  onLane s l (fun ln => ln.transport p t)

/-- A command in one frame of Proprietary A arrives (R480). -/
def execProprietaryACommand (l : LaneId) (_src : Byte) (data : List Byte) (t : LTime) (s : State) :
    Host.Outcome State Fault Refusal :=
  onLane s l (fun ln => ln.canCommand data t)

/-- DM3 clears DM2 (R482). -/
def execDm3 (l : LaneId) (s : State) : Host.Outcome State Fault Refusal :=
  onLane s l (fun ln => if ln.canOn then { ln with can := { ln.can with dm2 := [] } } else ln)

/-- The CAN controller enters bus-off (R478). -/
def execBusOff (l : LaneId) (s : State) : Host.Outcome State Fault Refusal :=
  onLane s l (fun ln => if ln.canOn then ln.on CAN_STAT_BUSOFF else ln)

/-- Bus-off recovers (R478). -/
def execBusOffRecovery (l : LaneId) (s : State) : Host.Outcome State Fault Refusal :=
  onLane s l (fun ln => ln.put CAN_STAT_BUSOFF 0)

/-- The status message falls due (R481). -/
def execStatusMessage (l : LaneId) (s : State) : Host.Outcome State Fault Refusal :=
  onLane s l (fun ln => ln.statusMessage)

/-- Wheel-based speed and distance fall due (R483). -/
def execWheelBasedSpeed (l : LaneId) (s : State) : Host.Outcome State Fault Refusal :=
  onLane s l (fun ln => ln.wheelSpeed)

/-- Ground-based speed and distance arrive (R483, R528). -/
def execGroundBasedSpeed (l : LaneId) (spd : BitVec 16) (dir : BitVec 2) (dist : Word) (s : State) :
    Host.Outcome State Fault Refusal :=
  onLane s l (fun ln => ln.groundSpeed spd dir dist)

/-- CAN_GSSTAT is read (R528). -/
def execCanGsstatRead (l : LaneId) (s : State) : Host.Outcome State Fault Refusal :=
  readLane s l (fun ln => ln.latch CAN_GSSTAT [CAN_GSPD, CAN_GDIST])

/-- An NMEA sentence arrives (R484, R485). -/
def execGnssSentence (l : LaneId) (x : Nmea) (t : LTime) (s : State) : Host.Outcome State Fault Refusal :=
  onLane s l (fun ln => ln.sentence x t)

/-- A 1PPS edge arrives (R485). -/
def execGnssPpsEdge (l : LaneId) (t : LTime) (s : State) : Host.Outcome State Fault Refusal :=
  onLane s l (fun ln => ln.ppsEdge t)

/-- A 1PPS edge has found no RMC within 900 ms (R485). -/
def execPpsPairingTimeout (l : LaneId) (s : State) : Host.Outcome State Fault Refusal :=
  onLane s l (fun ln => ln.ppsMissed)

/-- GNSS_STAT is read (R485). -/
def execGnssStatRead (l : LaneId) (s : State) : Host.Outcome State Fault Refusal :=
  readLane s l (fun ln => ln.latch GNSS_STAT gnssRegs)

end Sys2Proof.Machine
end

