-- ==== Sys2Proof/Machine/Flags.lean ====
section
/-!
DEFINITION. Arithmetic results and the sticky flags they set: saturation (R66, R131, R142), accumulators (R67), division
(R82), conditions (chapter 3, "Compares and predicates"), and the status flags of both engines.
-/

namespace Sys2Proof.Machine

open Sys2Proof

/-! ### Saturation (R66) -/

/-- The nearest 32-bit value, and whether the exact result lay outside. -/
def sat32 (x : Int) : Word × Bool := (wordI (clampI x (-2147483648) 2147483647), decide (x < -2147483648 ∨ 2147483647 < x))

/-- The nearest accumulator value, and whether the exact result lay outside. -/
def sat72 (x : Int) : Acc × Bool :=
  (BitVec.ofInt 72 (clampI x (-(2 ^ 71)) (2 ^ 71 - 1)), decide (x < -(2 ^ 71) ∨ 2 ^ 71 - 1 < x))

/-- Half-up rounding of a product or sum of Q1.31 products to Q1.31: (x + 2^30) >>s 31 (R81). -/
def roundQ (x : Int) : Int := (x + 1073741824) / 2147483648

/-- qmul: rounded and saturated (R81). -/
def qmulOf (a b : Word) : Word × Bool := sat32 (roundQ (a.toInt * b.toInt))

/-- exq of an accumulator. -/
def exqOf (x : Acc) : Word × Bool := sat32 (roundQ x.toInt)

/-- exs of an accumulator: shifted without rounding. -/
def exsOf (x : Acc) (sh : Nat) : Word × Bool := sat32 (x.toInt / 2 ^ sh)

/-! ### Integer results of the register ALU -/

/-- Wrapping absolute value. -/
def absOf (a : Word) : Word := if a.msb then -a else a

/-- Leading zeros, 0 to 32. -/
def clzOf (a : Word) : Word := BitVec.ofNat 32 (if a = 0 then 32 else 31 - Nat.log2 a.toNat)

/-- Set bits. -/
def popOf (a : Word) : Word := BitVec.ofNat 32 ((List.range 32).filter a.getLsbD).length

/-- A flag as a word. -/
def boolWord (b : Bool) : Word := if b then 1 else 0

/-! ### Division (R82) -/

/-- The result with SV and DZ. -/
structure DivResult where
  val : Word
  sv : Bool
  dz : Bool
  deriving DecidableEq, Repr

/-- The quotient of the most negative number by -1. -/
def divOver (a b : Word) : Bool := a == 0x80000000 && b == 0xFFFFFFFF

def divOf (a b : Word) : DivResult :=
  if b = 0 then ⟨if a.msb then 0x80000000 else 0x7FFFFFFF, false, true⟩
  else if divOver a b then ⟨0x7FFFFFFF, true, false⟩
  else ⟨wordI (Int.tdiv a.toInt b.toInt), false, false⟩

def divuOf (a b : Word) : DivResult :=
  if b = 0 then ⟨0xFFFFFFFF, false, true⟩ else ⟨BitVec.ofNat 32 (a.toNat / b.toNat), false, false⟩

def remOf (a b : Word) : DivResult :=
  if b = 0 then ⟨a, false, true⟩
  else if divOver a b then ⟨0, false, false⟩
  else ⟨wordI (Int.tmod a.toInt b.toInt), false, false⟩

def remuOf (a b : Word) : DivResult :=
  if b = 0 then ⟨a, false, true⟩ else ⟨BitVec.ofNat 32 (a.toNat % b.toNat), false, false⟩

/-! ### Conditions of cmp and cmpi; 0b111 is illegal (R71) -/

def condOf (cond : Nat) (a b : Word) : Bool :=
  match cond with
  | 0 => a == b
  | 1 => a != b
  | 2 => a.slt b
  | 3 => !a.slt b
  | 4 => a.ult b
  | 5 => !a.ult b
  | _ => a &&& b != 0

/-! ### CS_STAT (R95) and DC_FLAGS -/

/-- A sticky flag: set where the operation met it, else kept. -/
def orBit (w : Word) (n : Nat) (b : Bool) : Word := if b then w ||| BitVec.ofNat 32 (2 ^ n) else w

def HelmCopy.setSv (c : HelmCopy) (b : Bool) : HelmCopy := { c with stat := orBit c.stat 2 b }
def HelmCopy.setAv (c : HelmCopy) (b : Bool) : HelmCopy := { c with stat := orBit c.stat 3 b }
def HelmCopy.setDz (c : HelmCopy) (b : Bool) : HelmCopy := { c with stat := orBit c.stat 4 b }

def DriveCopy.setSv (c : DriveCopy) (b : Bool) : DriveCopy := { c with flags := orBit c.flags 0 b }
def DriveCopy.setAv (c : DriveCopy) (b : Bool) : DriveCopy := { c with flags := orBit c.flags 1 b }

end Sys2Proof.Machine
end

