-- ==== Sys2Proof/Machine/Operands.lean ====
section
/-!
DEFINITION. Operand forms of both engines: the helm's registers, predicates, immediates, effective addresses and regions
(R62, R68, R69, R97), and the drive engine's register fields under rotation (R132).
-/

namespace Sys2Proof.Machine

open Sys2Proof

/-! ### Helm registers and predicates (R62, R69) -/

/-- A general register; g0 reads 0. -/
def HelmCopy.rg (c : HelmCopy) (r : Reg5) : Word := if r = 0 then 0 else vget c.g r.toNat 0

/-- A write to a general register; a write to g0 is discarded. -/
def HelmCopy.wg (c : HelmCopy) (r : Reg5) (v : Word) : HelmCopy := if r = 0 then c else { c with g := vset c.g r.toNat v }

/-- A predicate; q0 reads 1. -/
def HelmCopy.rq (c : HelmCopy) (k : BitVec 2) : Bool := k == 0 || c.q.getLsbD k.toNat

/-- A write to a predicate other than q0. -/
def HelmCopy.wq (c : HelmCopy) (k : BitVec 2) (b : Bool) : HelmCopy :=
  { c with q := if b then c.q ||| BitVec.ofNat 4 (2 ^ k.toNat) else c.q &&& ~~~BitVec.ofNat 4 (2 ^ k.toNat) }

/-- The instruction takes effect in a copy: q[PQ] equals NOT PN. -/
def HelmCopy.takes (c : HelmCopy) (i : HelmIssue) : Bool := c.rq i.pq == !i.pn

/-- The predicate encoding that is illegal. -/
def badPred (i : HelmIssue) : Bool := i.pn && i.pq == 0

/-- ha or hb. -/
def HelmCopy.ra (c : HelmCopy) (hb : Bool) : Acc := if hb then c.hb else c.ha

/-- Write ha or hb. -/
def HelmCopy.wa (c : HelmCopy) (hb : Bool) (v : Acc) : HelmCopy := if hb then { c with hb := v } else { c with ha := v }

/-! ### Immediates, addresses -/

def sext13 (x : Imm13) : Word := x.signExtend 32
def zext13 (x : Imm13) : Word := x.setWidth 32

/-- The effective address of format M. -/
def HelmCopy.ea (c : HelmCopy) (ga : Reg5) (imm : Imm13) : Word := c.rg ga + sext13 imm

/-- The target of format B. -/
def branchTarget (pc : Word) (off : BitVec 23) : Word := pc + (off.signExtend 32 <<< 2)

/-- An address inside helm code SRAM (R97). -/
def inCode (a : Word) : Bool := decide (a.toNat < 0x200000)

/-- An address aligned to so many bytes. -/
def alignedTo (a : Word) (n : Nat) : Bool := a.toNat % n == 0

/-! ### The helm's address map (R97, R98) -/

/-- What a helm address reaches: a memory with the byte's offset in it, a mailbox word, a peripheral block with the
offset from 0x4000_0000, or nothing. -/
inductive HelmArea where
  | code (off : Nat)
  | data (off : Nat)
  | drvProg (off : Nat)
  | drvData (off : Nat)
  | cmd (k : Nat)
  | bell
  | status (k : Nat)
  | periph (off : Nat)
  | unmapped
  deriving DecidableEq, Repr

/-- The area of an address. -/
def helmArea (a : Word) : HelmArea :=
  let n := a.toNat
  if n < 0x200000 then .code n
  else if 0x10000000 ≤ n ∧ n < 0x10100000 then .data (n - 0x10000000)
  else if 0x20000000 ≤ n ∧ n < 0x20020000 then .drvProg (n - 0x20000000)
  else if 0x20040000 ≤ n ∧ n < 0x20080000 then .drvData (n - 0x20040000)
  else if 0x20080000 ≤ n ∧ n < 0x20080040 then .cmd ((n - 0x20080000) / 4)
  else if 0x20080080 ≤ n ∧ n < 0x20080084 then .bell
  else if 0x20080100 ≤ n ∧ n < 0x20080180 then .status ((n - 0x20080100) / 4)
  else if 0x40000000 ≤ n ∧ n < 0x40110000 then .periph (n - 0x40000000)
  else .unmapped

/-- Whether the area lies in the drive-engine window or in a peripheral block (R76). -/
def HelmArea.far : HelmArea → Bool
  | .code _ | .data _ | .unmapped => false
  | _ => true

/-- A store to it retires into the output hold queue (R88). -/
def HelmArea.held : HelmArea → Bool
  | .cmd _ | .bell => true
  | .periph off => isHeldReg (off - off % 4)
  | _ => false

/-- The byte enables of an access of `n` bytes at an address. -/
def enables (a : Word) (n : Nat) : BitVec 4 := BitVec.ofNat 4 ((2 ^ n - 1) * 2 ^ (a.toNat % 4))


/-- The bytes that a load names, of the word that holds them, extended as the load does. -/
def fromLanes (a w : Word) (n : Nat) (signed : Bool) : Word :=
  let x := w >>> (8 * (a.toNat % 4))
  match n with
  | 1 => if signed then (x.extractLsb' 0 8).signExtend 32 else (x.extractLsb' 0 8).setWidth 32
  | 2 => if signed then (x.extractLsb' 0 16).signExtend 32 else (x.extractLsb' 0 16).setWidth 32
  | _ => x

/-- The bytes of a word that the enables name, put over another word. -/
def mergeBytes (old new : Word) (be : BitVec 4) : Word :=
  let m (k : Nat) : BitVec 8 := if be.getLsbD k then new.extractLsb' (8 * k) 8 else old.extractLsb' (8 * k) 8
  m 3 ++ m 2 ++ m 1 ++ m 0

/-- The low `n` bytes of a value on the byte lanes of an address; 0 in the other lanes. -/
def toLanes (a v : Word) (n : Nat) : Word := mergeBytes 0 (v <<< (8 * (a.toNat % 4))) (enables a n)

/-! ### Core control registers (R91, R95) -/

/-- What mfcs reads. -/
def HelmCopy.readCs (c : HelmCopy) (lane : LaneId) (k : Nat) : Word :=
  match k with
  | 0 => c.stat
  | 1 => c.epc
  | 2 => c.cause
  | 3 => c.badaddr
  | 4 => c.vbase
  | 5 => c.scratch
  | 6 => c.retired
  | _ => BitVec.ofNat 32 lane.code

/-- What mtcs writes, by the access codes. -/
def HelmCopy.writeCs (c : HelmCopy) (k : Nat) (v : Word) : HelmCopy :=
  match k with
  | 0 => { c with stat := ((c.stat &&& ~~~3) ||| (v &&& 3)) &&& ~~~(v &&& 0x1C) }
  | 1 => { c with epc := v &&& 0xFFFFFFFC }
  | 4 => { c with vbase := v &&& 0xFFFFF000 }
  | 5 => { c with scratch := v }
  | _ => c

/-! ### Drive registers (R132) -/

/-- The physical register of a register index. -/
def DriveCopy.phys (d : DriveCopy) (r : Nat) : Nat := if r < 48 then (r + d.rot) % 48 else r

def DriveCopy.rw (d : DriveCopy) (r : Nat) : Word := vget d.w (d.phys r) 0
def DriveCopy.ww (d : DriveCopy) (r : Nat) (v : Word) : DriveCopy := { d with w := vset d.w (d.phys r) v }

/-- A flag; f0 reads 1. -/
def DriveCopy.rf (d : DriveCopy) (k : Nat) : Bool := k == 0 || d.f.getLsbD k

/-- A write to a flag other than f0. -/
def DriveCopy.wf (d : DriveCopy) (k : Nat) (b : Bool) : DriveCopy :=
  { d with f := if b then d.f ||| BitVec.ofNat 4 (2 ^ k) else d.f &&& ~~~BitVec.ofNat 4 (2 ^ k) }

end Sys2Proof.Machine
end

