-- ==== Sys2Proof/Machine/DriveSlots.lean ====
section
/-!
DEFINITION. What the slots of a drive bundle do in one copy (R131 to R134, R142 to R149): legality, the registers a slot
writes, slots X and Y, the trellis unit, and slot M apart from its memory access.
-/

namespace Sys2Proof.Machine

open Sys2Proof

/-! ### Destinations (R134) -/

/-- What a slot writes. -/
inductive Dest where
  | reg (r : Nat)
  | acc (k : Nat)
  | flag (k : Nat)
  deriving DecidableEq, Repr

/-- What slot X or Y writes. -/
def xyDests (d : DriveCopy) (x : SlotXY) : List Dest :=
  let op := x.op.toNat
  let n := x.d.toNat
  if op = 0 then []
  else if op = 0x10 ∨ op = 0x11 ∨ op = 0x12 then [.flag n]
  else if op = 0x13 ∨ op = 0x14 ∨ op = 0x15 ∨ op = 0x19 then [.acc n]
  else if op = 0x1A ∨ op = 0x1B then [.reg n, .reg (n + 1)]
  else if op = 0x1C then [.reg (n + 2 * d.tj), .reg (n + 2 * d.tj + 1)]
  else [.reg n]

/-- The accumulator that slot X or Y names. -/
def xyAcc (x : SlotXY) : Option Nat :=
  let op := x.op.toNat
  if op = 0x13 ∨ op = 0x14 ∨ op = 0x15 ∨ op = 0x19 then some x.d.toNat
  else if op = 0x17 ∨ op = 0x18 then some x.a.toNat
  else none

/-- What slot M writes. -/
def mDests (m : SlotM) : List Dest :=
  let op := m.op.toNat
  if op = 1 ∨ op = 2 ∨ op = 7 ∨ op = 9 ∨ op = 0xC then [.reg m.w.toNat] else []

/-! ### Legality -/

/-- A slot X or Y whose fields are not those of a legal operation (R133, R142, R143, R145). -/
def xyIllegal (d : DriveCopy) (x : SlotXY) : Bool :=
  let (n, a, b) := (x.d.toNat, x.a.toNat, x.b.toNat)
  let trm := d.trm.toNat
  match x.op.toNat with
  | 0x00 => n != 0 || a != 0 || b != 0
  | 0x08 | 0x09 | 0x0A => decide (31 < b)
  | 0x0D | 0x0E => b != 0
  | 0x10 | 0x11 | 0x12 => n == 0 || decide (3 < n)
  | 0x13 | 0x14 | 0x15 => decide (3 < n)
  | 0x17 => decide (3 < a) || b != 0
  | 0x18 => decide (3 < a)
  | 0x19 => decide (3 < n) || a != 0 || b != 0
  | 0x1A | 0x1B => b == 0 || decide (16 < b) || decide (63 < a + b - 1) || decide (63 < n + 1)
  | 0x1C => decide (63 < n + trm - 1) || decide (63 < a + trm - 1) || decide (63 < b + 3 * trm - 1)
  | 0x1D | 0x1E | 0x1F => true
  | _ => false

/-- asx needs a tbeg before it and an incomplete column (R146). -/
def asxEarly (d : DriveCopy) (x : SlotXY) : Bool :=
  x.op == 0x1C && (d.col.isNone || decide (d.trm.toNat / 2 ≤ d.tj))

/-- A slot M whose fields are not those of a legal operation. -/
def mIllegal (m : SlotM) : Bool :=
  match m.op.toNat with
  | 0x0 => m.w != 0 || m.p != 0
  | 0xB | 0xD => m.w != 0 || decide (5 < m.p.toNat)
  | 0xC => m.p != 0
  | 0xE | 0xF => true
  | _ => false

/-- mcr to DC_TRM of a value that is no modulus; tbk before the column is complete (R147). -/
def mRefused (d : DriveCopy) (m : SlotM) : Bool :=
  let v := d.rw m.w.toNat
  (m.op == 0xA && m.p == 1 && !(v == 2 || v == 4 || v == 6 || v == 8)) ||
    (m.op == 0xC && (d.col.isNone || decide (d.tj < d.trm.toNat / 2)))

/-- Two lists of destinations share one. -/
def clash (x y : List Dest) : Bool := x.any y.contains

/-- An operation bundle that is illegal wherever it stands (R133, R134, R142, R143, R145). -/
def opIllegal (d : DriveCopy) (b : OpBundle) : Bool :=
  let (dx, dy, dm) := (xyDests d b.x, xyDests d b.y, mDests b.m)
  xyIllegal d b.x || xyIllegal d b.y || mIllegal b.m || clash dx dy || clash dx dm || clash dy dm ||
    (match xyAcc b.x, xyAcc b.y with | some i, some j => i == j | _, _ => false) ||
    decide (0x1A ≤ b.y.op.toNat)

/-- One that is illegal when it takes effect (R146, R147, DC_TRM). -/
def opRefused (d : DriveCopy) (b : OpBundle) : Bool := asxEarly d b.x || mRefused d b.m

/-! ### The trellis unit (R144 to R147) -/

/-- The unsigned saturating sum of two metrics. -/
def satU32 (a b : Word) : Word := BitVec.ofNat 32 (satAdd a.toNat b.toNat 0xFFFFFFFF)

/-- The least of three candidates, the lowest index on a tie. -/
def leastOf (c0 c1 c2 : Word) : Fin 3 × Word :=
  if c0.toNat ≤ c1.toNat ∧ c0.toNat ≤ c2.toNat then (0, c0) else if c1.toNat ≤ c2.toNat then (1, c1) else (2, c2)

/-- The decision and the metric of one destination state. -/
def asxState (d : DriveCopy) (a b k : Nat) : Fin 3 × Word :=
  let m := d.trm.toNat
  leastOf (satU32 (d.rw (a + k)) (d.rw (b + 3 * k))) (satU32 (d.rw (a + (k + m - 1) % m)) (d.rw (b + 3 * k + 1)))
    (satU32 (d.rw (a + (k + 1) % m)) (d.rw (b + 3 * k + 2)))

/-- The column's decisions enter the selected context, and the oldest column leaves it. -/
def DriveCopy.endColumn (d : DriveCopy) (col : List (Fin 3 × Word)) : DriveCopy :=
  { d with
    ctx := vmod d.ctx d.sel (fun (t : TrellisCtx) => ⟨(col.map (fun x => x.1) :: t.cols).take 16, col.map (fun x => x.2)⟩) }

/-- asx, its sources read from `d0`. -/
def asxWrite (d0 : DriveCopy) (x : SlotXY) (d : DriveCopy) : DriveCopy :=
  let j := d0.tj
  let r0 := asxState d0 x.a.toNat x.b.toNat (2 * j)
  let r1 := asxState d0 x.a.toNat x.b.toNat (2 * j + 1)
  let col := d0.col.getD [] ++ [r0, r1]
  let d := { (d.ww (x.d.toNat + 2 * j) r0.2).ww (x.d.toNat + 2 * j + 1) r1.2 with tj := j + 1, col := some col }
  if j + 1 = d0.trm.toNat / 2 then d.endColumn col else d

/-- The index of the least metric, the lowest on a tie. -/
def bestState (l : List Word) : Nat :=
  ((List.range l.length).foldl (fun (b : Nat × Word) k =>
    let v := l.getD k 0
    if k = 0 ∨ v.toNat < b.2.toNat then (k, v) else b) (0, 0)).1

/-- The state that a decision of state k came from. -/
def cameFrom (m k : Nat) (dec : Fin 3) : Nat :=
  match dec with
  | 0 => k
  | 1 => (k + m - 1) % m
  | 2 => (k + 1) % m

/-- The state of the oldest of the columns, newest first, from the newest column's state. -/
def traceState (m : Nat) : List (List (Fin 3)) → Nat → Nat
  | [], k => k
  | [_], k => k
  | c :: t, k => traceState m t (cameFrom m k (match getElem? c k with | some dec => dec | none => Config.lostDecision k))

/-- What tbk writes. -/
def DriveCopy.trace (d : DriveCopy) : Word :=
  let t := vget d.ctx d.sel ⟨[], []⟩
  if t.cols.isEmpty then Config.emptyTrace d.sel &&& 0x707
  else
    let best := bestState t.metrics
    BitVec.ofNat 32 (traceState d.trm.toNat t.cols best % 8 + 256 * (best % 8) + (if t.cols.length = 16 then 2147483648 else 0))

/-! ### Slots X and Y -/

/-- mxi: the extreme of n registers and its position, the lowest on a tie (R143). -/
def mxiOf (d : DriveCopy) (a n : Nat) (mx : Bool) : Word × Nat :=
  (List.range n).foldl (fun (b : Word × Nat) k =>
    let v := d.rw (a + k)
    if k = 0 ∨ (if mx then b.1.slt v else v.slt b.1) then (v, k) else b) (0, 0)

/-- A result with its saturation. -/
def DriveCopy.wwSat (d : DriveCopy) (n : Nat) (r : Word × Bool) : DriveCopy := (d.ww n r.1).setSv r.2

/-- An accumulator takes a saturated sum. -/
def DriveCopy.waSat (d : DriveCopy) (k : Nat) (r : Acc × Bool) : DriveCopy := { d with acc := vset d.acc k r.1 }.setAv r.2

/-- What slot X or Y writes, its sources read from `d0`. -/
def xyWrite (d0 : DriveCopy) (x : SlotXY) (d : DriveCopy) : DriveCopy :=
  let (n, a, b) := (x.d.toNat, x.a.toNat, x.b.toNat)
  let (va, vb) := (d0.rw a, d0.rw b)
  let acc (k : Nat) : Acc := vget d0.acc k 0
  match x.op.toNat with
  | 0x01 => d.ww n (va + vb)
  | 0x02 => d.ww n (va - vb)
  | 0x03 => d.wwSat n (sat32 (va.toInt + vb.toInt))
  | 0x04 => d.wwSat n (sat32 (va.toInt - vb.toInt))
  | 0x05 => d.ww n (va &&& vb)
  | 0x06 => d.ww n (va ||| vb)
  | 0x07 => d.ww n (va ^^^ vb)
  | 0x08 => d.ww n (va.sshiftRight b)
  | 0x09 => d.ww n (va >>> b)
  | 0x0A => d.wwSat n (sat32 (va.toInt * 2 ^ b))
  | 0x0B => d.ww n (if va.slt vb then va else vb)
  | 0x0C => d.ww n (if vb.slt va then va else vb)
  | 0x0D => d.wwSat n (sat32 (if va.msb then -va.toInt else va.toInt))
  | 0x0E => d.ww n va
  | 0x0F => d.ww n (if d0.rf 1 then va else vb)
  | 0x10 => d.wf n (va.slt vb)
  | 0x11 => d.wf n (va.ult vb)
  | 0x12 => d.wf n (va == vb)
  | 0x13 => d.waSat n (sat72 ((acc n).toInt + va.toInt * vb.toInt))
  | 0x14 => d.waSat n (sat72 ((acc n).toInt - va.toInt * vb.toInt))
  | 0x15 => { d with acc := vset d.acc n (BitVec.ofInt 72 (va.toInt * vb.toInt)) }
  | 0x16 => d.wwSat n (qmulOf va vb)
  | 0x17 => d.wwSat n (exqOf (acc a))
  | 0x18 => d.wwSat n (exsOf (acc a) b)
  | 0x19 => { d with acc := vset d.acc n 0 }
  | 0x1A => let r := mxiOf d0 a b false; (d.ww n r.1).ww (n + 1) (BitVec.ofNat 32 r.2)
  | 0x1B => let r := mxiOf d0 a b true; (d.ww n r.1).ww (n + 1) (BitVec.ofNat 32 r.2)
  | 0x1C => asxWrite d0 x d
  | _ => d

/-! ### Slot M -/

/-- The pass index, and what stands there while no loop runs (log 30): 0 until a first loop has begun. -/
def DriveCopy.lcWord (d : DriveCopy) : Word :=
  match d.loop with
  | some l => BitVec.ofNat 32 l.pass
  | none => if d.looped then Config.idleLc d.rot else 0

/-- What mrc reads. -/
def DriveCopy.readDc (d : DriveCopy) (k : Nat) : Word :=
  match k with
  | 0 => d.msg
  | 1 => d.trm
  | 2 => BitVec.ofNat 32 (d.sel + 16 * d.tj)
  | 3 => BitVec.ofNat 32 d.rot
  | 4 => d.lcWord
  | 5 => d.wake
  | 6 => d.per
  | _ => d.flags

/-- What mcr writes: DC_TRM, and DC_FLAGS by 1; the others are read-only. -/
def DriveCopy.writeDc (d : DriveCopy) (k : Nat) (v : Word) : DriveCopy :=
  match k with
  | 1 => { d with trm := v }
  | 7 => { d with flags := d.flags &&& ~~~v }
  | _ => d

/-- A pointer and its offset. -/
def DriveCopy.ptr (d : DriveCopy) (k : Nat) : Word := vget d.p k 0
def DriveCopy.ofs (d : DriveCopy) (k : Nat) : Word := vget d.m k 0

/-- Whether slot M loads, and whether it stores. -/
def mLoads (m : SlotM) : Bool := m.op == 1 || m.op == 2
def mStores (m : SlotM) : Bool := m.op == 3 || m.op == 4

/-- What slot M does, its sources read from `d0`, apart from a store's way to its queue; `v` is the loaded word. -/
def mWrite (d0 : DriveCopy) (m : SlotM) (v : Word) (d : DriveCopy) : DriveCopy :=
  let (w, k) := (m.w.toNat, m.p.toNat)
  let step (d : DriveCopy) : DriveCopy := { d with p := vset d.p k (d0.ptr k + d0.ofs k) }
  match m.op.toNat with
  | 0x1 => d.ww w v
  | 0x2 => step (d.ww w v)
  | 0x4 => step d
  | 0x5 => { d with p := vset d.p k (d0.rw w) }
  | 0x6 => { d with m := vset d.m k (d0.rw w) }
  | 0x7 => d.ww w (d0.ptr k)
  | 0x8 => { d with p := vset d.p k (d0.ptr k + d0.rw w) }
  | 0x9 => d.ww w (d0.readDc k)
  | 0xA => d.writeDc k (d0.rw w)
  | 0xB => { d with sel := k, tj := 0, col := some [] }
  | 0xC => d.ww w d0.trace
  | 0xD => { d with ctx := vset d.ctx k ⟨[], []⟩ }
  | _ => d

/-- All slots of an operation bundle; a flag set by X or Y stands beside a clear by slot M (log 31). -/
def opWrite (b : OpBundle) (v : Word) (d : DriveCopy) : DriveCopy :=
  if b.m.op = 0xA then xyWrite d b.y (xyWrite d b.x (mWrite d b.m v d))
  else mWrite d b.m v (xyWrite d b.y (xyWrite d b.x d))

end Sys2Proof.Machine
end

