-- ==== Sys2Proof/Machine/Mailbox.lean ====
section
/-!
DEFINITION. The mailboxes between the helm pair and the drive pair (R122 to R125, R152) and the end of a wait in wfp
(R155, R156, R158).
-/

namespace Sys2Proof.Machine

open Sys2Proof

/-! ### One copy's mailboxes -/

/-- A command-window word is written into the filling bank. -/
def Mailbox.write (m : Mailbox) (k : Nat) (v : Word) : Mailbox := { m with fill := vset m.fill k v }

/-- The doorbell hands the filling bank over; the next free bank holds the words `next` (R122, R123). -/
def Mailbox.bell (m : Mailbox) (count : Nat) (urgent : Bool) (next : Vector Word 16) : Mailbox :=
  { m with pend := some ⟨m.fill, count, urgent⟩, fill := next }

/-- A word of the owned command bank; 0 before the first take (log 27). -/
def Mailbox.ownedWord (m : Mailbox) (k : Nat) : Word :=
  match m.owned with
  | some x => vget x.words k 0
  | none => 0

/-- A status word that the drive pair has released. -/
def Mailbox.setStatus (m : Mailbox) (k : Nat) (v : Word) : Mailbox := { m with next := vset m.next k v }

/-- The released words become the completed status: SEQ one higher, READY set (R152). -/
def Mailbox.publish (m : Mailbox) : Mailbox := { m with done := vset m.next 0 (nextStat (vget m.done 0 0) 0) }

/-- A load of status word 0 latches the completed status and acknowledges it (R125). -/
def Mailbox.latch (m : Mailbox) : Word × Mailbox :=
  (vget m.done 0 0, { m with latched := m.done, done := vset m.done 0 (setBits (vget m.done 0 0) 16 16 0) })

/-- A doorbell word that hands a message over (R122): 1 to 16 words, reserved bits 0. -/
def bellOk (v : Word) : Bool := decide (1 ≤ bits v 4 0 && bits v 4 0 ≤ 16) && bits v 7 5 == 0 && bits v 31 9 == 0

/-! ### A drive copy takes a message (R155) -/

/-- The pending message, if there is one, becomes the owned bank, and DC_MSG names it. -/
def DriveCopy.take (d : DriveCopy) : DriveCopy :=
  match d.mbox.pend with
  | none => d
  | some x =>
    { d with
      mbox := { d.mbox with owned := some x, pend := none }
      msg := BitVec.ofNat 32 (x.count + 256 * b2n x.urgent + 65536 * ((bits d.msg 31 16 + 1) % 65536)) }

/-! ### The lane -/

/-- Change both drive copies. -/
def Lane.mapDrv (ln : Lane) (f : DriveCopy → DriveCopy) : Lane := { ln with drv := { ln.drv with c := ln.drv.c.map f } }

/-- Change the mailboxes of both drive copies. -/
def Lane.mapMbox (ln : Lane) (f : Mailbox → Mailbox) : Lane := ln.mapDrv (fun d => { d with mbox := f d.mbox })

/-- The take of R155 in both copies, shown in LCTL_MBSTAT. -/
def Lane.takeMessage (ln : Lane) : Lane :=
  if ln.drv.c.p.mbox.pend.isNone && ln.drv.c.s.mbox.pend.isNone then ln
  else
    let ln := ln.mapDrv DriveCopy.take
    ((ln.put LCTL_MBSTAT_PEND 0).put LCTL_MBSTAT_URGP 0).put LCTL_MBSTAT_TAKEN (ln.get LCTL_MBSTAT_TAKEN + 1)

/-- A wait in wfp ends: the take, and the reasons in DC_WAKE (R155). -/
def Lane.endWfp (ln : Lane) (why : Nat) : Lane :=
  let ln := (ln.takeMessage).mapDrv (fun d => { d with wake := BitVec.ofNat 32 why })
  { ln with drv := { ln.drv with run := .running } }.put LCTL_DSTAT_WAIT 0

/-- An urgent event ends a wait in wfp, or is latched for the next one (R156). -/
def Lane.urgentEvent (ln : Lane) : Lane :=
  match ln.drv.run with
  | .stopped => ln
  | .waiting => ln.endWfp 2
  | _ => { ln with drv := { ln.drv with urgent := true } }

/-- The words that the next free bank of the command window holds: what an earlier message left there is not fixed
(log 27). -/
def Lane.bankWords (ln : Lane) : Vector Word 16 :=
  Vector.ofFn (fun k : Fin 16 => (Config.freeWord ln.id (ln.free + k.val)).setWidth 32)

/-- The doorbell's release (R122 to R124): none where it completes with a bus error. -/
def Lane.ringBell (ln : Lane) (v : Word) : Option Lane :=
  if !bellOk v then none
  else
    let urgent := bit v 8
    let next := ln.bankWords
    let ln := { ln with free := ln.free + 16 }
    let ln := ln.onIf (ln.is LCTL_MBSTAT_PEND) LCTL_MBSTAT_OVR
    let ln := ln.mapMbox (fun m => m.bell (bits v 4 0) urgent next)
    let ln := (ln.on LCTL_MBSTAT_PEND).putB LCTL_MBSTAT_URGP urgent
    some (if urgent then ln.urgentEvent else ln)

/-- The status is published (R152): source 12's flag is set, and its overrun flag if it stands (R109). -/
def Lane.publishStatus (ln : Lane) : Lane :=
  let ln := ln.mapMbox Mailbox.publish
  (ln.onIf (ln.is LCTL_MBSTAT_PUB) LCTL_MBSTAT_PUBOV).on LCTL_MBSTAT_PUB

/-- Helm loads of status word 0 latch the status in both copies. -/
def Lane.latchStatus (ln : Lane) : Pair Word × Lane :=
  (ln.drv.c.map (fun d => d.mbox.latch.1), ln.mapMbox (fun m => m.latch.2))

/-- A PWM period start in the drive pair (R155, R158, R159). -/
def Lane.drivePeriod (ln : Lane) : Lane :=
  let ln := { ln with drv := { ln.drv with periodStart := ln.lt } }
  let count (ln : Lane) : Lane := ln.mapDrv (fun d => { d with per := d.per + 1 })
  match ln.drv.run with
  | .stopped => ln
  | .armed => { ln with drv := { ln.drv with run := .running } }
  | .waiting => ((count ln).put LCTL_DSTAT_OVRCNT 0).endWfp 1
  | .running | .fence =>
    let ln := (count ln).on LCTL_DSTAT_OVR
    let ln := (ln.countUp LCTL_DSTAT_OVRCNT).logR 0x22 LCTL_DSTAT 0
    let ln := { ln with drv := { ln.drv with overrun := true } }
    if 4 ≤ ln.get LCTL_DSTAT_OVRCNT then ln.driveFault 0x06 3 0 else ln

end Sys2Proof.Machine
end

