-- ==== Sys2Proof/Machine/Section.lean ====
section
/-!
DEFINITION. Position-synchronous section outputs (chapter 17): the motion estimate (R486 to R489), boundary records,
predicted and committed edges (R490 to R495), and the majority gates (R496, R497). Lengths are in mm, times in seconds
and in lane-time units, angles in 2^32 units per revolution.
-/

namespace Sys2Proof.Machine

open Sys2Proof

/-! ### The registers of the track unit (R98): both copies' instances are written, and copy P's is read -/

def Lane.srd (ln : Lane) (r : Reg) : Word := ln.crd .p r
def Lane.swr (ln : Lane) (r : Reg) (v : Word) : Lane := (ln.cwr .p r v).cwr .s r v
def Lane.sget (ln : Lane) (f : Field) : Nat := ln.cget .p f
def Lane.sis (ln : Lane) (f : Field) : Bool := ln.sget f != 0
def Lane.sput (ln : Lane) (f : Field) (v : Nat) : Lane := ln.cputBoth f v
def Lane.sputB (ln : Lane) (f : Field) (b : Bool) : Lane := ln.sput f (b2n b)
def Lane.son (ln : Lane) (f : Field) : Lane := ln.sput f 1
def Lane.sonIf (ln : Lane) (c : Bool) (f : Field) : Lane := if c then ln.son f else ln

/-! ### Vectors (R486 to R488, R492) -/

/-- Sine and cosine of a heading as fractions. -/
def sinQ (a : BitVec 32) : Rat := (Config.sine a : Rat) / 2147483648
def cosQ (a : BitVec 32) : Rat := (Config.cosine a : Rat) / 2147483648

/-- The field vector of an offset x forward and y to the right: east, north. -/
def rot (psi : BitVec 32) (x y : Rat) : Rat × Rat := (x * sinQ psi + y * cosQ psi, x * cosQ psi - y * sinQ psi)

/-- An integer nearest to a fraction, halves up (log 13). -/
def nearest (q : Rat) : Int := (q + 1 / 2).floor

/-- Seconds of a number of lane-time units. -/
def secs (n : Nat) : Rat := (n : Rat) / 8000000000

/-- Speed in mm/s of a Q1.31 value of 20 m/s, and a yaw rate in rad/s of one of 1 rad/s. -/
def speedOf (v : Int) : Rat := (v : Rat) * 20000 / 2147483648
def yawOf (w : Int) : Rat := (w : Rat) / 2147483648

/-- An angle in rad as 2^32 units per revolution. -/
def turnOf (r : Rat) : Int := nearest (r * 4294967296 * 1000000000000000 / 6283185307179586)

/-- A position held in 2^-16 mm. -/
def posOf (x : Int) : Rat := (x : Rat) / 65536
def posUnits (q : Rat) : Int := nearest (q * 65536)

/-! ### The motion estimate (R487 to R489) -/

/-- A shared quantity as a signed integer, where it is agreed. -/
def Lane.shared (ln : Lane) (k : Nat) : Option Int := if ln.sqValid k then some (ln.rd (TALLY_SQ k)).toInt else none

/-- The inputs of an evaluation: speed, yaw rate, and the fix with its age in us. -/
def Lane.trackSpeed (ln : Lane) : Option Int := ln.shared (ln.get LCTL_LIMPCFG_SPDW)
def Lane.trackYaw (ln : Lane) : Option Int := ln.shared (ln.sget SECT_SRC_YAW)
def Lane.trackFix (ln : Lane) : Option (Int × Int × Int) :=
  match ln.shared (ln.sget SECT_SRC_FE), ln.shared (ln.sget SECT_SRC_FN), ln.shared (ln.sget SECT_SRC_FAGE) with
  | some e, some n, some a => some (e, n, a)
  | _, _, _ => none

/-- A new fix (R487): its age is smaller than the previous agreed one and the frame period. -/
def Lane.newFix (ln : Lane) (k : TrackCopy) : Option (Int × Int × Int) :=
  match ln.trackFix with
  | some f => match k.fageOld with
    | some old => if f.2.2 * 8000 < old * 8000 + ln.frameUnits then some f else none
    | none => some f
  | none => none

/-- Whether two fixes lie at least 0.5 m apart. -/
def farApart (a b : Int × Int) : Bool := decide (250000 ≤ (a.1 - b.1) ^ 2 + (a.2 - b.2) ^ 2)

/-- The motion over one frame period (R488). -/
def Lane.moveTrack (ln : Lane) (k : TrackCopy) : TrackCopy :=
  let t := secs ln.frameUnits
  let v := ln.trackSpeed.getD 0
  let dpsi := turnOf (yawOf (ln.trackYaw.getD 0) * t)
  let psi := k.psi + BitVec.ofInt 32 dpsi
  let mid := psi - BitVec.ofInt 32 (dpsi / 2)
  let d := speedOf v * t
  { k with
    psi := psi, acc := v - k.vPrev, vPrev := v
    pe := k.pe + posUnits (d * sinQ mid), pn := k.pn + posUnits (d * cosQ mid) }

/-- Where a fix places the reference point. -/
def Lane.fixPoint (ln : Lane) (psi : BitVec 32) (f : Int × Int × Int) : Rat × Rat :=
  let s16 (x : Nat) : Rat := ((BitVec.ofNat 16 x).toInt : Rat)
  let a := rot psi (s16 (ln.sget SECT_ANT_AX)) (s16 (ln.sget SECT_ANT_AY))
  let d := speedOf (ln.trackSpeed.getD 0) * ((f.2.2 : Rat) / 1000000)
  ((f.1 : Rat) - a.1 + d * sinQ psi, (f.2.1 : Rat) - a.2 + d * cosQ psi)

/-- A new fix corrects position and heading (R488), or counts towards validity (R489). -/
def Lane.takeFix (ln : Lane) (k : TrackCopy) (f : Int × Int × Int) : TrackCopy :=
  let here : Int × Int := (f.1, f.2.1)
  let set (k : TrackCopy) : TrackCopy := { k with fix := some here, psiFix := k.psi, fixAt := ln.lt }
  match k.fix with
  | none =>
    let p := ln.fixPoint k.psi f
    set { k with pe := posUnits p.1, pn := posUnits p.2 }
  | some old =>
    let bearing := Config.atan2 (here.1 - old.1) (here.2 - old.2)
    if !k.valid then
      if farApart here old then set { k with psi := bearing, valid := true } else { k with fixAt := ln.lt }
    else
      let p := ln.fixPoint k.psi f
      let kp : Rat := (ln.sget SECT_CFG_KP : Rat) / 256
      let k := { k with
        pe := k.pe + posUnits (kp * (p.1 - posOf k.pe)), pn := k.pn + posUnits (kp * (p.2 - posOf k.pn)) }
      let k := if farApart here old && decide (500 ≤ speedOf (ln.trackSpeed.getD 0)) then
          let half := (k.psi - k.psiFix).toInt / 2
          let err := (bearing - (k.psiFix + BitVec.ofInt 32 half)).toInt
          { k with psi := k.psi + BitVec.ofInt 32 (nearest ((ln.sget SECT_CFG_KH : Rat) / 256 * err)) }
        else k
      set k

/-- The estimate is valid in this frame (R489). -/
def Lane.trackOk (ln : Lane) (k : TrackCopy) : Bool :=
  k.valid && ln.trackSpeed.isSome && ln.trackYaw.isSome &&
    decide (since ln.lt k.fixAt < ln.sget SECT_CFG_DRT * 250 * msUnits)

/-- One copy's evaluation. -/
def Lane.evalTrack (ln : Lane) (k : TrackCopy) : TrackCopy :=
  let new := ln.newFix k
  let k := ln.moveTrack k
  let k := match new with
    | some f => ln.takeFix k f
    | none => k
  let k := match ln.trackFix with
    | some f => { k with fageOld := some f.2.2.toNat }
    | none => k
  if ln.trackOk k then { k with invalid := 0 } else { k with invalid := min (k.invalid + 1) 4 }

/-! ### Outputs and their records (R490, R491, R495) -/

def Lane.out (ln : Lane) (j : Nat) : SectOut := vget ln.sect.out j .reset
def Lane.setOut (ln : Lane) (j : Nat) (o : SectOut) : Lane := { ln with sect := { ln.sect with out := vset ln.sect.out j o } }

/-- An output is enabled. -/
def Lane.outOn (ln : Lane) (j : Nat) : Bool := if j < 32 then bit (ln.srd SECT_ENA) j else bit (ln.srd SECT_ENB) (j - 32)

/-- The SERVICE level of an output. -/
def Lane.forced (ln : Lane) (j : Nat) : Bool := if j < 32 then bit (ln.srd SECT_FORCEA) j else bit (ln.srd SECT_FORCEB) (j - 32)

/-- Levels follow the records in RUN3 and RUN2 (R495). -/
def Lane.followsRecords (ln : Lane) : Bool := ln.modeNow == modeRun3 || ln.modeNow == modeRun2

/-- SECT_OSTATj shows the records. -/
def Lane.showOut (ln : Lane) (j : Nat) : Lane :=
  let o := ln.out j
  ((ln.sputB (SECT_OSTAT_CVALID j) o.cur.isSome).sputB (SECT_OSTAT_NVALID j) o.next.isSome).sputB (SECT_OSTAT_COMMIT j)
    o.edge.isSome

/-- The next record becomes current (R491). -/
def Lane.promoteRec (ln : Lane) (j : Nat) : Lane :=
  let o := ln.out j
  match o.next with
  | some r =>
    let ln := ln.setOut j { o with cur := some r, next := none, seen := false, edge := none }
    (ln.son (SECT_OSTAT_XEV j)).showOut j
  | none => (ln.setOut j { o with cur := none, seen := false, edge := none }).showOut j

/-- A store to SECT_NXTj_C commits the staged record (R490). -/
def Lane.commitRec (ln : Lane) (j : Nat) (v : Word) : Lane :=
  let ln := ln.swr (SECT_NXT_C j) (v &&& 0x1FFFF)
  let r : BRec :=
    ⟨(ln.srd (SECT_NXT_E j)).toInt, (ln.srd (SECT_NXT_N j)).toInt, BitVec.ofNat 16 (ln.sget (SECT_NXT_C_ALPHA j)),
      ln.sis (SECT_NXT_C_ON j)⟩
  let o := ln.out j
  let ln := (ln.setOut j { o with next := some r }).showOut j
  if o.cur.isNone then ln.promoteRec j else ln

/-- Committed edges are discarded; the records are kept (R489, R495). -/
def Lane.dropEdge (ln : Lane) (j : Nat) : Lane := (ln.setOut j { ln.out j with edge := none }).showOut j

/-! ### Prediction (R492, R493) -/

/-- The square root of a fraction to 2^-40. -/
def rootQ (q : Rat) : Rat := (Nat.sqrt (q * 1208925819614629174706176).floor.toNat : Rat) / 1099511627776

/-- The smallest time above 0 at which d0 + b t + c t^2 / 2 rises through 0. -/
def risesAt (d0 b c : Rat) : Option Rat :=
  if c = 0 then (if 0 < b ∧ d0 < 0 then some (-d0 / b) else none)
  else
    let disc := b * b - 2 * c * d0
    if disc ≤ 0 then none
    else
      let t := (rootQ disc - b) / c
      if 0 < t then some t else none

/-- d0, the closing speed and the closing acceleration of an output against a record. -/
def Lane.closing (ln : Lane) (k : TrackCopy) (j : Nat) (r : BRec) : Rat × Rat × Rat :=
  let s16 (x : Nat) : Rat := ((BitVec.ofNat 16 x).toInt : Rat)
  let t := secs ln.frameUnits
  let rho := rot k.psi (s16 (ln.sget (SECT_OFS_SX j))) (s16 (ln.sget (SECT_OFS_SY j)))
  let alpha : BitVec 32 := r.alpha ++ (0 : BitVec 16)
  let n := (sinQ alpha, cosQ alpha)
  let dot (x : Rat × Rat) : Rat := n.1 * x.1 + n.2 * x.2
  let h := (sinQ k.psi, cosQ k.psi)
  let v := speedOf k.vPrev
  let w := yawOf (ln.trackYaw.getD 0)
  let a := if t = 0 then 0 else speedOf k.acc / t
  let d0 := dot (posOf k.pe + rho.1 - r.e, posOf k.pn + rho.2 - r.n)
  let vel := (v * h.1 + w * rho.2, v * h.2 - w * rho.1)
  let acc := (a * h.1 + v * w * h.2 - w * w * rho.1, a * h.2 - v * w * h.1 - w * w * rho.2)
  (d0, dot vel, dot acc)

/-- The edge that an evaluation commits, with LATE; none where it commits nothing. -/
def Lane.predict (ln : Lane) (k : TrackCopy) (j : Nat) (o : SectOut) (r : BRec) : Option (LTime × Bool) :=
  let lat := (if r.on then ln.sget (SECT_LAT_LON j) else ln.sget (SECT_LAT_LOFF j)) * 80000
  let (d0, b, c) := ln.closing k j r
  let soon : LTime × Bool := (later ln.lt 40000, true)
  if !o.seen && decide (0 ≤ d0) then some soon
  else match risesAt d0 b c with
    | none => none
    | some tau =>
      if secs (lat + 2 * ln.frameUnits) < tau then none
      else
        let dt := nearest (tau * 8000000000) - lat
        if dt < 40000 then some soon
        else if dt < ln.frameUnits + 160000 then some (later ln.lt dt.toNat, false)
        else none

/-- An edge never precedes the previous edge of its output (R493). -/
def afterLast (o : SectOut) (e : LTime × Bool) : LTime × Bool :=
  match o.lastEdge with
  | some t => if timeLe t e.1 then e else (later t 8000, true)
  | none => e

/-- An output's part of an evaluation. -/
def Lane.evalOut (ln : Lane) (k : TrackCopy) (j : Nat) : Lane :=
  let o := ln.out j
  match o.cur, o.edge with
  | some r, none =>
    if !ln.outOn j then ln
    else
      let got := (ln.predict k j o r).map (afterLast o)
      let ln := ln.setOut j { o with seen := true, edge := got.map (fun e => (e.1, r.on)) }
      (ln.sonIf (match got with | some e => e.2 | none => false) (SECT_OSTAT_LATE j)).showOut j
  | _, _ => ln

/-- The estimate result set of an evaluation. -/
def Lane.publishTrack (ln : Lane) (k : TrackCopy) : Lane :=
  let r := b2n (k.invalid == 0)
  let d := [(SECT_EE, wordI (nearest (posOf k.pe))), (SECT_EN, wordI (nearest (posOf k.pn))),
      (SECT_EH, (k.psi.extractLsb' 16 16).setWidth 32)]
  { ln with cpub := ⟨publishSet ln.cpub.p SECT_ESTAT r d, publishSet ln.cpub.s SECT_ESTAT r d⟩ }

/-- The levels that the mode gives at a frame start (R489, R495): off in every mode but RUN3, RUN2 and SERVICE, the
forced ones in SERVICE; off after three frames without a valid estimate. -/
def Lane.modeLevels (ln : Lane) (off : Bool) : Lane :=
  (List.range 48).foldl (fun ln j =>
    if ln.followsRecords && !off then (if ln.outOn j then ln else ln.sput (SECT_OSTAT_LEVEL j) 0)
    else
      let on := ln.modeNow == modeService && ln.forced j && ln.outOn j
      (ln.sputB (SECT_OSTAT_LEVEL j) on).dropEdge j) ln

/-- The evaluation at a control frame start (R486): both copies evaluate and are compared; a difference withdraws the
lane with code 0x0A. -/
def Lane.trackFrame (ln : Lane) : Lane :=
  if !ln.locked || !ln.domOn 1 then ln
  else
    -- R489: three frames without a valid estimate; it becomes valid again from the first fix on
    let lost := ln.track.p.invalid == 3
    let off := decide (3 ≤ ln.track.p.invalid)
    let again (k : TrackCopy) : TrackCopy := if k.invalid = 3 then { k with valid := false, fix := none } else k
    let ln := { ln with track := ln.track.map again }.onIf lost SECT_GDIS_EINV
    let ln := ln.modeLevels off
    let p := ln.evalTrack ln.track.p
    let s := ln.evalTrack ln.track.s
    let ln := { ln with track := ⟨p, s⟩ }
    if p ≠ s then ln.helmFault 0x0A 3 0
    else
      let ln := ln.publishTrack p
      if ln.followsRecords && !off && p.invalid == 0 then (List.range 48).foldl (fun ln j => ln.evalOut p j) ln else ln

/-! ### Edges and gates (R491, R493, R494, R496, R497) -/

/-- A committed edge's time has come: the level follows and the next record becomes current. -/
def Lane.emitEdge (ln : Lane) (j : Nat) : Lane :=
  let o := ln.out j
  match o.edge with
  | none => ln
  | some e =>
    let ln := ln.at e.1
    let ln := ln.sputB (SECT_OSTAT_LEVEL j) (e.2 && ln.outOn j)
    (ln.setOut j { o with lastEdge := some e.1, edge := none }).promoteRec j

/-- The lane's valid line (R496): RUNNING or RAMP, its communications domain on, not held by R316. -/
def Lane.validLine (ln : Lane) : Bool := ln.locked && isRunning ln.lstate && ln.domOn 5 && !ln.rj.demanded && !ln.rj.holding

/-- A gate's output from the valid inputs in letter order (R496). -/
def gateOut : List Bool → Bool
  | [a, b, c] => (a && b) || (a && c) || (b && c)
  | [a, _] => a
  | [a] => a
  | _ => false

/-- The gate of output j. -/
def State.gate (s : State) (j : Nat) : Bool :=
  gateOut ((LaneId.all.filter (fun l => (s.lane l).sect.line)).map (fun l => (s.lane l).sis (SECT_OSTAT_LEVEL j)))

/-- The bits of the gates lo to lo + n - 1 as a word. -/
def State.gateWord (s : State) (lo n : Nat) : Word :=
  BitVec.ofNat 32 (((List.range n).map (fun i => if s.gate (lo + i) then 2 ^ i else 0)).foldl (· + ·) 0)

/-- Change every lane. -/
def State.mapLanes (s : State) (f : Lane → Lane) : State := { s with a := f s.a, b := f s.b, c := f s.c }

/-- Every lane reads the gates' levels. -/
def State.gates (s : State) : State :=
  let a := s.gateWord 0 32
  let b := s.gateWord 32 16
  s.mapLanes (fun ln => (ln.wr SECT_GOUTA a).wr SECT_GOUTB b)

/-- The count field of a lane in SECT_GDIS. -/
def gdisF : LaneId → Field
  | .a => SECT_GDIS_CA | .b => SECT_GDIS_CB | .c => SECT_GDIS_CC

/-- A disagreement of one lane is counted (R497). -/
def Lane.noteDisagree (src : LaneId) (ln : Lane) : Lane :=
  let d := BitVec.ofNat 3 (ln.get SECT_GDIS_DIS) ||| BitVec.ofNat 3 (2 ^ src.idx)
  (ln.countUp (gdisF src)).put SECT_GDIS_DIS d.toNat

/-- Interrupt source 11 (R499). -/
def Lane.irqSect (ln : Lane) : Bool :=
  let any (f : Nat → Field) : Bool := (List.range 48).any (fun j => ln.sis (f j))
  (ln.is SECT_IEN_IXEV && any SECT_OSTAT_XEV) || (ln.is SECT_IEN_ILATE && any SECT_OSTAT_LATE) ||
    (ln.is SECT_IEN_IDIS && (ln.get SECT_GDIS_DIS != 0 || ln.is SECT_GDIS_EINV))

/-! ### The commands of the table -/

/-- A committed edge is emitted (R491, R494), and the gates follow (R496). -/
def execSectionEdge (l : LaneId) (j : Fin 48) (s : State) : Host.Outcome State Fault Refusal :=
  .next (s.setLane l ((s.lane l).emitEdge j.val)).gates

/-- A store to SECT_NXTj_C is released (R490, R491). -/
def execScheduleCommit (l : LaneId) (j : Fin 48) (v : Word) (s : State) : Host.Outcome State Fault Refusal :=
  onLane s l (fun ln => ln.commitRec j.val v)

/-- A store to SECT_FORCEA or SECT_FORCEB is released: it applies at the next frame start (R495). -/
def execSectionForce (l : LaneId) (upper : Bool) (v : Word) (s : State) : Host.Outcome State Fault Refusal :=
  onLane s l (fun ln => if upper then ln.swr SECT_FORCEB (v &&& 0xFFFF) else ln.swr SECT_FORCEA v)

/-- A lane's valid line changes: the gates take it into account (R496), and every Stopper sees it (R340, R341). -/
def execValidLineChange (l : LaneId) (s : State) : Host.Outcome State Fault Refusal :=
  let ln := s.lane l
  let s := s.setLane l { ln with sect := { ln.sect with line := ln.validLine } }
  .next (if LaneId.all.any (fun k => (s.lane k).sect.line) then s.mapLanes Lane.laneValid else s).gates

/-- A valid input has differed from its gate for more than 200 ns (R497). -/
def execGateDisagreement (j : Fin 48) (src : LaneId) (s : State) : Host.Outcome State Fault Refusal :=
  let ln := s.lane src
  if ln.sect.line && ln.sis (SECT_OSTAT_LEVEL j.val) != s.gate j.val then .next (s.mapLanes (Lane.noteDisagree src))
  else .next s

/-- SECT_ESTAT is read: it latches the estimate (R486). -/
def execSectEstatRead (l : LaneId) (s : State) : Host.Outcome State Fault Refusal :=
  readLane s l (fun ln => let r := ln.latchBoth SECT_ESTAT [SECT_EE, SECT_EN, SECT_EH]; (r.1.p, r.2))

end Sys2Proof.Machine
end

