-- ==== Sys2Proof/Machine/Lay.lean ====
section
/-!
DEFINITION. The Lay bus (chapter 15): network time and the cycle, acceptance of frames, synchronisation, reference
nodes, transmission, reception, and the network loss. Network time counts units of 125 ps.
-/

namespace Sys2Proof.Machine

open Sys2Proof

/-! ### The cycle (R442, R443) -/

/-- Units of a cycle, 1 ms. -/
def cycleUnits : Nat := 8000000

def nsUnsync : Nat := 0
def nsSync : Nat := 1
def nsSilent : Nat := 2
def nsRef : Nat := 3

/-- Network time at a lane time (R442). -/
def Lane.netTime (ln : Lane) (t : LTime) : LTime := t + BitVec.ofInt 64 ln.lay.nofs

/-- The position in the cycle of a network time. -/
def cyclePos (nt : LTime) : Nat := nt.toNat % cycleUnits

/-- The start of the cycle that holds a network time. -/
def cycleBase (nt : LTime) : LTime := BitVec.ofNat 64 (nt.toNat - nt.toNat % cycleUnits)

/-- The cycle number (R442). -/
def cycleNo (nt : LTime) : Word := BitVec.ofNat 32 (nt.toNat / cycleUnits)

/-- Action points from the cycle's start: the reference slot, strand slot `s`, and the yarn slot at grid position `g`. -/
def refAction : Nat := 16000
def strandAction (s : Nat) : Nat := 336000 + 160000 * s
def yarnAction (g : Nat) : Nat := 5448000 + 16000 * g

/-- Units of a frame of so many characters (R436). -/
def frameUnitsOf (chars : Nat) : Nat := 3200 * chars

/-- A frame of so many characters fits into a yarn slot that begins at grid position `g` (R446). -/
def yarnFits (g chars : Nat) : Bool := decide (yarnAction g + frameUnitsOf chars + 8000 ≤ cycleUnits)

/-- LAY_NOFS takes a value; the cycle number follows. -/
def Lane.setNofs (ln : Lane) (v : Int) : Lane :=
  let ln := { ln with lay := { ln.lay with nofs := v } }
  (ln.wr LAY_NOFS (wordI v)).wr LAY_CYCLE (cycleNo (ln.netTime ln.lt))

/-! ### Channels -/

/-- A channel is enabled. -/
def Lane.chanOn (ln : Lane) (h : Nat) : Bool := if h = 0 then ln.is LAY_CFG_XEN else ln.is LAY_CFG_YEN

def txoffF (h : Nat) : Field := if h = 0 then LAY_STAT_TXOFFX else LAY_STAT_TXOFFY
def downF (h : Nat) : Field := if h = 0 then LAY_STAT_XDN else LAY_STAT_YDN
def txMask (h : Nat) : Reg := if h = 0 then LAY_TXSX else LAY_TXSY
def rxMask (h : Nat) : Reg := if h = 0 then LAY_RXSX else LAY_RXSY
def cmdMask (h : Nat) : Reg := if h = 0 then LAY_CMDMX else LAY_CMDMY

/-- The Lay port works: released from INIT, the communications domain on (R459). -/
def Lane.layOn (ln : Lane) : Bool := ln.locked && ln.domOn 5

/-- Show which channels are down (R465). A channel that is not enabled is none of the network's (log 20). -/
def Lane.showDown (ln : Lane) : Lane :=
  let down (h : Nat) : Bool := ln.chanOn h && (ln.is (txoffF h) || decide (5 ≤ vget ln.lay.quiet h 0))
  let ln := (ln.putB LAY_STAT_XDN (down 0)).putB LAY_STAT_YDN (down 1)
  if down 0 || down 1 then { ln with lay := { ln.lay with goodCycles := 0 } } else ln

/-! ### The network state (R450) -/

/-- NSTATE becomes a state: SYNEV on a change; the counts towards the next one start again. -/
def Lane.setNstate (ln : Lane) (st : Nat) : Lane :=
  if ln.get LAY_STAT_NSTATE = st then ln
  else
    let ln := (ln.put LAY_STAT_NSTATE st).on LAY_STAT_SYNEV
    let good := st == nsSync || st == nsRef
    let lay := ln.lay
    let lay := { lay with good := 0, everSync := lay.everSync || good, leaveRef := false }
    let lay := if good then lay else { lay with goodCycles := 0 }
    let lay := if st = nsUnsync then { lay with refAt := ln.lt, miss := 0 } else lay
    { ln with lay := lay }

/-- The state after an accepted reference frame of offset ε (R450). -/
def Lane.judgeSync (ln : Lane) (eps : Int) : Lane :=
  let e := eps.natAbs
  let st := ln.get LAY_STAT_NSTATE
  if st = nsUnsync then (if 2 ≤ ln.lay.good ∧ e ≤ 2000 then ln.setNstate nsSync else ln)
  else if st = nsSync then (if 6000 < e then ln.setNstate nsSilent else ln)
  else if st = nsSilent then
    (if 2000 < e then { ln with lay := { ln.lay with good := 0 } }
    else if 2 ≤ ln.lay.good then ln.setNstate nsSync else ln)
  else ln

/-- An accepted reference frame on channel `h` (R449, R450, R455, R457): channel X's is used when it is accepted, and
channel Y's otherwise. -/
def Lane.takeReference (ln : Lane) (h rank : Nat) (carried start : LTime) : Lane :=
  let st := ln.get LAY_STAT_NSTATE
  let eps := (ln.netTime start - carried).toInt - (ln.get (LAY_PDLY_PDLY h) : Int)
  let old := ln.get LAY_STAT_REFR
  let mine := ln.get LAY_CFG_RANK
  let ln := ln.onIf ((st == nsSync || st == nsRef) && old != 0 && old != rank) LAY_STAT_TAKEOV
  let ln := ln.put LAY_STAT_REFR rank
  let first := ln.lay.refSeen == 0
  let use := h == 0 || !ln.lay.refSeen.getLsbD 0
  let lower := mine != 0 && decide (rank < mine)
  let lay := ln.lay
  let ln := { ln with lay := { lay with
    refSeen := lay.refSeen ||| BitVec.ofNat 2 (2 ^ h), miss := 0, refAt := ln.lt, coldWait := false,
    good := if first then lay.good + 1 else lay.good, lowerSeen := lay.lowerSeen || lower,
    leaveRef := lay.leaveRef || (st == nsRef && lower) } }
  if use then ((ln.setNofs (ln.lay.nofs - eps)).wr LAY_EPS (wordI eps)).judgeSync eps else ln

/-! ### Acceptance (R447, R448) -/

/-- What becomes of a received frame: accepted, rejected by the first failing check, or not taken at all. -/
inductive LayCheck where
  | ok | win | frm | hdr | crc | ignored
  deriving DecidableEq, Repr

/-- The header of a frame with its payload and whether its CRC matches (R438 to R440). -/
structure LayHead where
  type : Nat
  kind : Nat
  held : Bool
  rsv : Nat
  id : Nat
  len : Nat
  cyc : Nat
  payload : List Byte
  deriving DecidableEq, Repr

/-- Read a frame's characters. -/
def layHead (c : List Byte) : LayHead :=
  let h0 := (c.getD 2 0).toNat
  let len := (c.getD 4 0).toNat
  { type := h0 / 64, kind := h0 / 16 % 4, held := h0 / 8 % 2 == 1, rsv := h0 % 8, id := (c.getD 3 0).toNat, len := len,
    cyc := (c.getD 5 0).toNat, payload := (c.drop 6).take len }

/-- The CRC of a frame of 8 + LEN characters matches. -/
def layCrcOk (c : List Byte) (len : Nat) : Bool :=
  (c.getD (6 + len) 0) ++ (c.getD (7 + len) 0) == crc16 ((c.drop 2).take (4 + len))

/-- The slot that a position in the cycle lies in: TYPE and ID that a frame must have there and its action point. The
reference slot asks for no ID; a yarn counter that has stopped has no slot. -/
def Lane.slotAt (ln : Lane) (h pos : Nat) : Option (Nat × Nat × Nat) :=
  if pos < 320000 then some (0, 0, refAction)
  else if pos < 5440000 then
    let s := (pos - 320000) / 160000
    some (1, s, strandAction s)
  else
    let y := vget ln.lay.yarn h (0, 0)
    if y.2 < 160 then some (2, y.1, yarnAction y.2) else none

/-- The bounds of R439 on KIND, ID and LEN. -/
def layFieldsOk (x : LayHead) : Bool :=
  match x.type with
  | 0 => decide (x.kind ≤ 1) && decide (1 ≤ x.id ∧ x.id ≤ 4) && x.len == 12
  | 1 => decide (x.kind ≤ 2) && decide (x.len ≤ 32)
  | 2 => decide (x.kind ≤ 2) && decide (x.len ≤ if x.kind = 1 then 32 else 128)
  | _ => false

/-- The checks of R447 in their order, with the exceptions of R448. -/
def Lane.layCheck (ln : Lane) (f : LayRx) : LayCheck :=
  let st := ln.get LAY_STAT_NSTATE
  let nt := ln.netTime f.start
  let pos := cyclePos nt
  let x := layHead f.chars
  let open' := (st == nsUnsync || st == nsSilent) && decide (3 ≤ f.chars.length) && x.type == 0
  let slot := ln.slotAt f.ch.val pos
  let inWin := match slot with
    | some s => decide (s.2.2 ≤ pos + 8000 ∧ pos ≤ s.2.2 + 8000)
    | none => false
  let place := match slot with
    | some s => x.type == s.1 && (s.1 == 0 || x.id == s.2.1)
    | none => false
  if st == nsUnsync && !open' then .ignored
  else if !open' && !inWin then .win
  else if !f.stops || f.chars.length != 8 + x.len then .frm
  else if f.chars.getD 0 0 != 0x55 || f.chars.getD 1 0 != 0xC3 || !layFieldsOk x || x.rsv != 0 ||
      (!open' && (!place || x.cyc != (cycleNo nt).toNat % 256)) then .hdr
  else if !layCrcOk f.chars x.len then .crc
  else if x.type == 2 && !yarnFits (vget ln.lay.yarn f.ch.val (0, 0)).2 f.chars.length then .hdr
  else .ok

/-! ### Reception and commands (R461 to R464) -/

/-- A payload as words, zeros beyond its end. -/
def payloadWord (d : List Byte) (k : Nat) : Word := bytesWord ((d.drop (4 * k)).take 4)

/-- A strand frame fills the result set of its buffer (R461). -/
def Lane.fillBuffer (ln : Lane) (b : Nat) (x : LayHead) (t : LTime) : Lane :=
  ln.publish (LAY_RXSTAT b) (x.kind + 4 * b2n x.held + 8 * x.len)
    ((List.range 8).map (fun k => (LAY_RX_D0 b + 4 * k, payloadWord x.payload k)) ++ [(LAY_RX_TS b, t.extractLsb' 0 32)])

/-- A yarn frame enters the receive queue (R462). -/
def Lane.queueYarn (ln : Lane) (x : LayHead) : Lane :=
  if 16 ≤ ln.lay.yq.length then ln.on LAY_STAT_YOVF
  else
    let seq := ln.lay.yqSeq + 1
    let ln := { ln with lay := { ln.lay with yq := ln.lay.yq ++ [LayEntry.mk seq x.payload], yqSeq := seq } }
    ln.put LAY_YQSTAT_COUNT ln.lay.yq.length

/-- An accepted strand or yarn frame: a command (R463), a buffer or the queue. -/
def Lane.takeFrame (ln : Lane) (h : Nat) (x : LayHead) (t : LTime) : Lane :=
  let mayCmd := if x.type = 1 then bit (ln.rd (cmdMask h)) x.id
    else decide (ln.get LAY_YCMD_CLO ≤ x.id ∧ x.id ≤ ln.get LAY_YCMD_CHI)
  if x.kind = 1 then
    (if mayCmd && !x.held && decide (x.len ≤ 32) then ln.ownCommand x.payload t else ln)
  else if x.type = 1 then (if bit (ln.rd (rxMask h)) x.id then ln.fillBuffer (32 * h + x.id) x t else ln)
  else if ln.get LAY_YCFG_RLO ≤ x.id ∧ x.id ≤ ln.get LAY_YCFG_RHI then ln.queueYarn x
  else ln

/-- A frame has been received on a channel (R447). -/
def Lane.layFrame (ln : Lane) (f : LayRx) (t : LTime) : Lane :=
  let h := f.ch.val
  if !ln.layOn || !ln.chanOn h then ln
  else
    let ln := ln.at t
    match ln.layCheck f with
    | .ignored => ln
    | .win => ln.countUp (LAY_ERR_WIN h)
    | .frm => ln.countUp (LAY_ERR_FRM h)
    | .hdr => ln.countUp (LAY_ERR_HDR h)
    | .crc => ln.countUp (LAY_ERR_CRC h)
    | .ok =>
      let x := layHead f.chars
      let ln := { ln with lay := { ln.lay with heard := ln.lay.heard ||| BitVec.ofNat 2 (2 ^ h) } }
      if x.type = 0 then
        ln.takeReference h x.id (payloadWord x.payload 2 ++ payloadWord x.payload 1) f.start
      else ln.takeFrame h x t

/-! ### A new cycle, a missing reference frame, takeover (R448, R450, R455, R465) -/

/-- The cycles in a row in which a channel accepted no frame while the other accepted reference frames. -/
def LayUnit.quietNow (u : LayUnit) (h : Nat) : Nat :=
  if !u.heard.getLsbD h && u.refSeen.getLsbD (1 - h) then vget u.quiet h 0 + 1 else 0

/-- A cycle starts: what the last one showed is counted, the yarn counters stand at 0. -/
def Lane.cycleStart (ln : Lane) (t : LTime) : Lane :=
  if !ln.layOn then ln
  else
    let ln := ln.at t
    let u := ln.lay
    let ln := { ln with lay := { u with
      quiet := #v[u.quietNow 0, u.quietNow 1], lowerMiss := if u.lowerSeen then 0 else u.lowerMiss + 1,
      yarn := Vector.replicate 2 (0, 0), refSeen := 0, heard := 0, lowerSeen := false, cold := none } }
    let ln := if ln.get LAY_STAT_NSTATE = nsRef ∧ ln.lay.leaveRef then ln.setNstate nsSync else ln
    let ln := ln.showDown
    let st := ln.get LAY_STAT_NSTATE
    let good := (st == nsSync || st == nsRef) && !ln.is LAY_STAT_XDN && !ln.is LAY_STAT_YDN
    let n := if good then satAdd ln.lay.goodCycles 1 3 else 0
    ({ ln with lay := { ln.lay with goodCycles := n } }).wr LAY_CYCLE (cycleNo (ln.netTime ln.lt))

/-- A cycle's reference frame is missing: five in a row lead to UNSYNC (R450). -/
def Lane.missReference (ln : Lane) : Lane :=
  if !ln.layOn then ln
  else
    let ln := { ln with lay := { ln.lay with miss := ln.lay.miss + 1, good := 0 } }
    let st := ln.get LAY_STAT_NSTATE
    if 5 ≤ ln.lay.miss ∧ (st = nsSync ∨ st = nsSilent) then ln.setNstate nsUnsync else ln

/-- A reference node takes over (R455). -/
def Lane.takeOver (ln : Lane) : Lane :=
  let rank := ln.get LAY_CFG_RANK
  if ln.layOn && decide (1 ≤ rank) && ln.get LAY_STAT_NSTATE == nsSync && decide (rank ≤ ln.lay.lowerMiss) then
    (ln.setNstate nsRef).on LAY_STAT_TAKEOV
  else ln

/-- The network loss of R465, judged at a frame start. -/
def Lane.judgeNetwork (ln : Lane) : Lane :=
  let st := ln.get LAY_STAT_NSTATE
  let out := ((st == nsUnsync || st == nsSilent) && ln.lay.everSync) || ln.is LAY_STAT_XDN || ln.is LAY_STAT_YDN
  if out then ln.on LAY_STAT_NLOSS
  else if 3 ≤ ln.lay.goodCycles then ln.put LAY_STAT_NLOSS 0
  else ln

/-! ### Transmission (R438 to R440, R458 to R460) -/

/-- The characters of a frame (R438). -/
def layChars (type kind : Nat) (held : Bool) (id cyc : Nat) (payload : List Byte) : List Byte :=
  let h0 : Byte := BitVec.ofNat 8 (64 * type + 16 * kind + 8 * b2n held)
  let body := [h0, BitVec.ofNat 8 id, BitVec.ofNat 8 payload.length, BitVec.ofNat 8 cyc] ++ payload
  let c := crc16 body
  [0x55, 0xC3] ++ body ++ [c.extractLsb' 8 8, c.extractLsb' 0 8]

/-- A frame goes out on a channel, and its readback is compared (R460). -/
def Lane.putFrame (ln : Lane) (h : Nat) (chars : List Byte) (rbOk : Bool) : Lane :=
  let ln := { ln with lay := { ln.lay with sent := vset ln.lay.sent h chars } }
  if rbOk then ln.put (LAY_ERR_TXE h) 0
  else
    let ln := ln.countUp (LAY_ERR_TXE h)
    if 8 ≤ ln.get (LAY_ERR_TXE h) then (ln.on (txoffF h)).showDown else ln

/-- The lane may send on a channel: the port works, the channel is enabled and its transmitter is on. -/
def Lane.maySend (ln : Lane) (h : Nat) : Bool := ln.layOn && ln.chanOn h && !ln.is (txoffF h)

/-- The lane sends strand and yarn frames: its network is SYNC or REF (R459). -/
def Lane.sendsFrames (ln : Lane) : Bool := ln.get LAY_STAT_NSTATE == nsSync || ln.get LAY_STAT_NSTATE == nsRef

/-- The content is held (R459): by the lane's state, or in UPDATE before the restart. -/
def Lane.contentHeld (ln : Lane) : Bool := holdsContent ln.lstate || ln.modeNow == modeUpdate

/-- The lane time of an action point of the present cycle. -/
def Lane.actionTime (ln : Lane) (act : Nat) : LTime :=
  later (cycleBase (ln.netTime ln.lt)) act - BitVec.ofInt 64 ln.lay.nofs

/-- The commits that count at an action point: those 4 us before it and, while content is held, before that began. -/
def Lane.countsAt (ln : Lane) (act : LTime) (c : LTime) : Bool :=
  timeLe c (act - 32000) && (!ln.contentHeld || timeLe c ln.lay.heldAt)

/-- The buffer at an action point: the last commit that counts is its content. -/
def Lane.promote (ln : Lane) (act : LTime) (b : LayBuf) : LayBuf :=
  let (old, new) := b.next.partition (fun x => ln.countsAt act x.2)
  match old.getLast? with
  | some x => ⟨some x.1, new⟩
  | none => ⟨b.now, new⟩

/-- The action point of strand slot s of channel h, buffer b = 32 h + s (R458). -/
def Lane.strandSend (ln : Lane) (b : Nat) (rbOk : Bool) : Lane :=
  let h := b / 32
  let s := b % 32
  if !ln.maySend h || !ln.sendsFrames || !bit (ln.rd (txMask h)) s then ln
  else
    let act := ln.actionTime (strandAction s)
    let ln := ln.at act
    let buf := ln.promote act (vget ln.lay.buf b ⟨none, []⟩)
    let ln := { ln with lay := { ln.lay with buf := vset ln.lay.buf b buf } }
    match buf.now with
    | some c =>
      if ln.is (LAY_TXCTL_EN b) then
        ln.putFrame h (layChars 1 c.kind ln.contentHeld s (cycleNo (ln.netTime act)).toNat c.data) rbOk
      else ln
    | none => ln

/-- The action point of the lane's own yarn slot on channel h (R445, R446, R458). -/
def Lane.yarnSend (ln : Lane) (h : Nat) (rbOk : Bool) : Lane :=
  let y := vget ln.lay.yarn h (0, 0)
  let yid := if h = 0 then ln.get LAY_YCFG_YIDX else ln.get LAY_YCFG_YIDY
  if !ln.maySend h || !ln.sendsFrames || y.1 != yid || decide (160 ≤ y.2) then ln
  else
    let act := ln.actionTime (yarnAction y.2)
    let ln := ln.at act
    let buf := ln.promote act (vget ln.lay.buf (64 + h) ⟨none, []⟩)
    match buf.now with
    | some c =>
      if ln.is (LAY_YTXCTL_EN h) && yarnFits y.2 (8 + c.data.length) then
        let ln := { ln with lay := { ln.lay with buf := vset ln.lay.buf (64 + h) ⟨none, buf.next⟩ } }
        let ln := ln.putB (LAY_YTXCTL_PEND h) (!buf.next.isEmpty)
        ln.putFrame h (layChars 2 c.kind ln.contentHeld yid (cycleNo (ln.netTime act)).toNat c.data) rbOk
      else { ln with lay := { ln.lay with buf := vset ln.lay.buf (64 + h) buf } }
    | none => ln

/-- A yarn slot has taken so many grid positions; the counter stops at the end of the segment (R445). -/
def Lane.yarnEnd (ln : Lane) (h dur : Nat) : Lane :=
  let y := vget ln.lay.yarn h (0, 0)
  if y.2 < 160 ∧ 1 ≤ dur then { ln with lay := { ln.lay with yarn := vset ln.lay.yarn h (y.1 + 1, y.2 + dur) } } else ln

/-- The payload of a reference frame: the cycle number, and the network time of its action point (R439). -/
def refPayload (base : LTime) : List Byte :=
  let t := later base refAction
  wordBytes (cycleNo base) ++ wordBytes (t.extractLsb' 0 32) ++ wordBytes (t.extractLsb' 32 32)

/-- A reference frame goes out on every channel that may send. -/
def Lane.sendReference (ln : Lane) (kind : Nat) (rbOk : BitVec 2) : Lane :=
  let base := cycleBase (ln.netTime ln.lt)
  let rank := ln.get LAY_CFG_RANK
  let chars := layChars 0 kind false rank (cycleNo base).toNat (refPayload base)
  let ln := ln.put LAY_STAT_REFR rank
  [0, 1].foldl (fun ln h => if ln.maySend h then ln.putFrame h chars (rbOk.getLsbD h) else ln) ln

/-- The action point of the reference slot in REF (R454). -/
def Lane.referenceSend (ln : Lane) (rbOk : BitVec 2) (t : LTime) : Lane :=
  if ln.layOn && ln.get LAY_STAT_NSTATE == nsRef then (ln.at t).sendReference 0 rbOk else ln

/-! ### Cold start (R456, R457) -/

/-- A rank that may start a network. -/
def Lane.mayColdStart (ln : Lane) : Bool :=
  ln.layOn && ln.is LAY_CFG_CSEN && decide (1 ≤ ln.get LAY_CFG_RANK) && ln.get LAY_STAT_NSTATE == nsUnsync

/-- A cold-start frame goes out; the lane is REF unless its readback shows a collision. -/
def Lane.coldSend (ln : Lane) : Lane :=
  let ev := ln.is LAY_STAT_SYNEV
  let ln := (ln.sendReference 1 3).setNstate nsRef
  { ln with lay := { ln.lay with cold := some ev, coldWait := false } }

/-- The first attempt: 5 ms without a reference frame, at a cycle start with LAY_NOFS at 0. -/
def Lane.coldStart (ln : Lane) (t : LTime) : Lane :=
  if ln.mayColdStart && !ln.lay.coldWait && decide (5 * msUnits ≤ since t ln.lay.refAt) then
    ((ln.at t).setNofs 0).coldSend
  else ln

/-- The readback of a cold-start frame differs on the channels `bad` (R457). -/
def Lane.coldCollision (ln : Lane) (bad : BitVec 2) (t : LTime) : Lane :=
  match ln.lay.cold with
  | none => ln
  | some ev =>
    let ln := ln.at t
    let ln := ((ln.setNstate nsUnsync).putB LAY_STAT_SYNEV ev).countUp LAY_STAT_COLLC
    let ln := [0, 1].foldl (fun ln h =>
      if bad.getLsbD h && ln.maySend h then ln.putFrame h (vget ln.lay.sent h []) false else ln) ln
    { ln with lay := { ln.lay with cold := none, coldWait := true } }

/-- The distance by which network time moves so that a position in the cycle becomes the reference slot's action point:
the nearest one (log 21). -/
def toAction (pos : Nat) : Int :=
  let d : Int := (refAction : Int) - pos
  if d < -(cycleUnits / 2 : Nat) then d + cycleUnits else d

/-- The wait has ended without a reference frame: the lane sends again, its cycle moved so that the frame's start falls at
the action point. -/
def Lane.coldRetry (ln : Lane) (t : LTime) : Lane :=
  if ln.mayColdStart && ln.lay.coldWait then
    let ln := ln.at t
    (ln.setNofs (ln.lay.nofs + toAction (cyclePos (ln.netTime ln.lt)))).coldSend
  else ln

/-! ### Commits and acknowledgements (R458, R460, R462, R464) -/

/-- The staged bytes of a buffer. -/
def Lane.stagedBytes (ln : Lane) (b n : Nat) : List Byte :=
  let base := if b < 64 then LAY_TX_D0 b else LAY_YTX_D0 (b - 64)
  (((List.range ((n + 3) / 4)).map (fun k => wordBytes (ln.rd (base + 4 * k)))).flatten).take n

/-- A buffer's control word is written: the staged data are committed with LEN and KIND (R458). -/
def Lane.commitBuffer (ln : Lane) (b : Nat) (v : Word) : Lane :=
  if !ln.layOn then ln
  else
    let kind := bits v 3 2
    let len := bits v 11 4
    let yarn := decide (64 ≤ b)
    let r := if yarn then LAY_YTXCTL (b - 64) else LAY_TXCTL b
    let ln := ln.wr r ((ln.rd r &&& 2) ||| (v &&& 0xFFD))
    if kind = 1 || kind = 3 || decide ((if yarn then 128 else 32) < len) then ln
    else
      let c : LayContent := ⟨kind, ln.stagedBytes b len⟩
      let buf := vmod ln.lay.buf b (fun x => ⟨x.now, x.next ++ [(c, ln.lt)]⟩)
      let ln := { ln with lay := { ln.lay with buf := buf } }
      if yarn then ln.on (LAY_YTXCTL_PEND (b - 64)) else ln

/-- LAY_YQACK: the oldest entry leaves the queue when the SEQ is its own (R462). -/
def Lane.yqAck (ln : Lane) (v : Word) : Lane :=
  match ln.lay.yq with
  | e :: rest =>
    if e.seq = v.setWidth 16 then
      ({ ln with lay := { ln.lay with yq := rest } }).put LAY_YQSTAT_COUNT rest.length
    else ln
  | [] => ln

/-- LAY_CQACK (R464). -/
def Lane.cqAck (ln : Lane) (v : Word) : Lane :=
  match ln.lay.cq with
  | e :: rest =>
    if e.seq = v.setWidth 16 then
      ({ ln with lay := { ln.lay with cq := rest } }).put LAY_CQSTAT_COUNT rest.length
    else ln
  | [] => ln

/-- LAY_CTL turns transmitters on again (R460). -/
def Lane.transmitOn (ln : Lane) (v : Word) : Lane :=
  let on (ln : Lane) (h : Nat) : Lane := if bit v h then (ln.put (txoffF h) 0).put (LAY_ERR_TXE h) 0 else ln
  (on (on ln 0) 1).showDown

/-! ### Reads (R461, R462, R464, R467) -/

/-- A read of LAY_RXSTATb latches the set. -/
def Lane.readRxstat (ln : Lane) (b : Nat) : Word × Lane :=
  ln.latch (LAY_RXSTAT b) ((List.range 8).map (fun k => LAY_RX_D0 b + 4 * k) ++ [LAY_RX_TS b])

/-- The status word of a latched queue entry; COUNT is live. -/
def queueStat (e : LayEntry) (fresh : Bool) (count : Nat) : Word :=
  BitVec.ofNat 32 (e.seq.toNat + 0x10000 * b2n fresh + 0x20000 * e.data.length + 0x2000000 * count)

/-- A read of LAY_YQSTAT latches the oldest entry; READY is 1 at the first read of an entry. With an empty queue the
previous entry stands (R467). -/
def Lane.readYqstat (ln : Lane) : Word × Lane :=
  let n := ln.lay.yq.length
  match ln.lay.yq with
  | e :: _ =>
    let w := queueStat e (ln.lay.yqFresh != e.seq) n
    let ln := { ln with lay := { ln.lay with yqLatch := some e, yqIdx := 0, yqFresh := e.seq } }
    (w, ln.wr LAY_YQSTAT (setBits w 16 16 0))
  | [] => (setBits (ln.rd LAY_YQSTAT) 16 16 0, ln)

/-- A read of LAY_YQDATA: the next word of the latched entry, 0 beyond its length. -/
def Lane.readYqdata (ln : Lane) : Word × Lane :=
  match ln.lay.yqLatch with
  | some e => (payloadWord e.data ln.lay.yqIdx, { ln with lay := { ln.lay with yqIdx := ln.lay.yqIdx + 1 } })
  | none => (0, ln)

/-- A read of LAY_CQSTAT latches the oldest entry and its content. -/
def Lane.readCqstat (ln : Lane) : Word × Lane :=
  let n := ln.lay.cq.length
  match ln.lay.cq with
  | e :: _ =>
    let w := queueStat e (ln.lay.cqFresh != e.seq) n
    let ln := { ln with lay := { ln.lay with cqFresh := e.seq } }
    let ln := (List.range 8).foldl (fun ln k => ln.wr (LAY_CQDATA k) (payloadWord e.data k)) ln
    (w, ln.wr LAY_CQSTAT (setBits w 16 16 0))
  | [] => (setBits (ln.rd LAY_CQSTAT) 16 16 0, ln)

/-! ### Interrupts (R464, R466) -/

/-- Source 1: the agreed-command queue holds an entry. -/
def Lane.irqCmd (ln : Lane) : Bool := !ln.lay.cq.isEmpty

/-- Source 8. -/
def Lane.irqLayFrame (ln : Lane) : Bool :=
  (List.range 64).any (fun b =>
    bit (ln.rd (if b < 32 then LAY_FIENX else LAY_FIENY)) (b % 32) && ln.ready (LAY_RXSTAT b)) ||
  (ln.is LAY_IEN_IYQ && !ln.lay.yq.isEmpty)

/-- Source 13. -/
def Lane.irqLay (ln : Lane) : Bool :=
  (ln.is LAY_IEN_ISYN && ln.is LAY_STAT_SYNEV) || (ln.is LAY_IEN_ITAK && ln.is LAY_STAT_TAKEOV) ||
    (ln.is LAY_IEN_IOVF && (ln.is LAY_STAT_YOVF || ln.is LAY_STAT_CQOVF))

/-! ### The commands of the table -/

/-- A Lay frame has been received (R441, R447 to R449, R461 to R463). -/
def execLayFrameValid (l : LaneId) (f : LayRx) (t : LTime) (s : State) : Host.Outcome State Fault Refusal :=
  onLane s l (fun ln => ln.layFrame f t)

/-- A Lay cycle starts (R442, R455, R465). -/
def execLayCycleStart (l : LaneId) (t : LTime) (s : State) : Host.Outcome State Fault Refusal :=
  onLane s l (fun ln => ln.cycleStart t)

/-- A cycle has had no accepted reference frame (R448, R450). -/
def execMissingReferenceFrame (l : LaneId) (s : State) : Host.Outcome State Fault Refusal :=
  onLane s l (fun ln => ln.missReference)

/-- The action point of a reference slot in REF (R454); `rbOk`: the readback by channel. -/
def execReferenceFrameSend (l : LaneId) (rbOk : BitVec 2) (t : LTime) (s : State) : Host.Outcome State Fault Refusal :=
  onLane s l (fun ln => ln.referenceSend rbOk t)

/-- The action point of a strand slot (R458, R459). -/
def execStrandFrameSend (l : LaneId) (b : Fin 64) (rbOk : Bool) (s : State) : Host.Outcome State Fault Refusal :=
  onLane s l (fun ln => ln.strandSend b.val rbOk)

/-- A yarn slot ends (R445). -/
def execYarnSlotEnd (l : LaneId) (h : Fin 2) (dur : Nat) (s : State) : Host.Outcome State Fault Refusal :=
  onLane s l (fun ln => ln.yarnEnd h.val dur)

/-- The action point of the lane's yarn slot (R445, R446, R458). -/
def execYarnFrameSend (l : LaneId) (h : Fin 2) (rbOk : Bool) (s : State) : Host.Outcome State Fault Refusal :=
  onLane s l (fun ln => ln.yarnSend h.val rbOk)

/-- A reference node takes over (R455). -/
def execTakeover (l : LaneId) (s : State) : Host.Outcome State Fault Refusal :=
  onLane s l (fun ln => ln.takeOver)

/-- A cold start sends its first frame (R456). -/
def execColdStart (l : LaneId) (t : LTime) (s : State) : Host.Outcome State Fault Refusal :=
  onLane s l (fun ln => ln.coldStart t)

/-- A cold-start frame has collided (R457); `bad`: the channels whose readback differs. -/
def execColdStartCollision (l : LaneId) (bad : BitVec 2) (t : LTime) (s : State) : Host.Outcome State Fault Refusal :=
  onLane s l (fun ln => ln.coldCollision bad t)

/-- A cold start sends again (R457). -/
def execColdStartRetry (l : LaneId) (t : LTime) (s : State) : Host.Outcome State Fault Refusal :=
  onLane s l (fun ln => ln.coldRetry t)

/-- A store to LAY_TXCTLb is released (R458). -/
def execTransmitCommit (l : LaneId) (b : Fin 66) (v : Word) (s : State) : Host.Outcome State Fault Refusal :=
  onLane s l (fun ln => ln.commitBuffer b.val v)

/-- A store to LAY_YQACK is released (R462). -/
def execLayYqack (l : LaneId) (v : Word) (s : State) : Host.Outcome State Fault Refusal :=
  onLane s l (fun ln => ln.yqAck v)

/-- A store to LAY_CQACK is released (R464). -/
def execLayCqack (l : LaneId) (v : Word) (s : State) : Host.Outcome State Fault Refusal :=
  onLane s l (fun ln => ln.cqAck v)

/-- A store to LAY_CTL is released (R460). -/
def execTransmitterOn (l : LaneId) (v : Word) (s : State) : Host.Outcome State Fault Refusal :=
  onLane s l (fun ln => ln.transmitOn v)

/-- LAY_RXSTATb is read (R461). -/
def execLayRxstatRead (l : LaneId) (b : Fin 64) (s : State) : Host.Outcome State Fault Refusal :=
  readLane s l (fun ln => ln.readRxstat b.val)

/-- LAY_YQSTAT is read (R462). -/
def execLayYqstatRead (l : LaneId) (s : State) : Host.Outcome State Fault Refusal :=
  readLane s l (fun ln => ln.readYqstat)

/-- LAY_YQDATA is read (R462). -/
def execLayYqdataRead (l : LaneId) (s : State) : Host.Outcome State Fault Refusal :=
  readLane s l (fun ln => ln.readYqdata)

/-- LAY_CQSTAT is read (R464). -/
def execLayCqstatRead (l : LaneId) (s : State) : Host.Outcome State Fault Refusal :=
  readLane s l (fun ln => ln.readCqstat)

end Sys2Proof.Machine
end

