-- ==== Sys2Proof/Machine/Sequences.lean ====
section
/-!
DEFINITION. The sequences of chapter 12: start-up (R373 to R378, R390, R391, R415 to R417, R422), shutdown (R379 to R381),
sleep (R382 to R384) and wake (R385 to R387), with the ends of domain switchings (R31, R34) that drive them.
-/

namespace Sys2Proof.Machine

open Sys2Proof

/-! ### Fill and BIST results (R374, R375, R390, R391) -/

/-- LCTL_BISTSTAT with its coverages and duration. -/
def Lane.publishBist (ln : Lane) (faild : Option Nat) : Lane :=
  let r := ln.nv.bist.getD ⟨false, false, 0, 0, 0, 0, true⟩
  let f := faild.getD r.faild
  let rest := b2n (r.pass && faild.isNone) + 2 * b2n r.kind + 4 * b2n ln.mode.missing + 8 * f
  ln.publish LCTL_BISTSTAT rest
    [(LCTL_BISTCOV, BitVec.ofNat 32 (r.logic % 1024 + 65536 * (r.mem % 1024))), (LCTL_BISTDUR, BitVec.ofNat 32 (r.ms % 65536))]

/-- The part that a BIST names as failing: zeroisation first, then logic, SRAM, MRAM. -/
def faildOf (zero logic sram mram : Bool) : Nat :=
  if !zero then 4 else if !logic then 1 else if !sram then 2 else if !mram then 3 else 0

/-- The reduced start-up BIST ends: its record is judged at once (R375). -/
def Lane.reducedBist (ln : Lane) (r : BistResult) : Lane :=
  if ln.pwr.stage != .bist then ln
  else
    let logic := r.logic && decide (920 ≤ r.coverage)
    let pass := r.zeroised && logic && r.sram
    let rec' : BistRec :=
      { pass := pass, kind := true, logic := if r.zeroised then r.coverage else 0, mem := if r.zeroised then 1000 else 0,
        ms := r.ms, faild := faildOf r.zeroised logic r.sram true, consumed := true }
    let ln := { ln with nv := { ln.nv with bist := some rec' } }
    let ln := ln.logE 0x74 (BitVec.ofNat 32 (b2n pass + 2 + 16 * rec'.faild)) 0 0
    if pass then { ln with mode := { ln.mode with accepted := true }, pwr := { ln.pwr with stage := .filling } } else ln.holdInit

/-- A fill read-back with one wrong bit: the bit stays wrong, and its address is hard (R391, R399). -/
def Lane.fillError (ln : Lane) (e : FillError) : Lane :=
  let w := e.wadr.toNat
  let b := e.bit % 39
  if memWords e.m ≤ w then ln
  else ((ln.setFlip e.m w (BitVec.ofNat 39 (2 ^ b))).newCe e.m ⟨w, b, 0, true, false⟩).markHard e.m w b

/-- Every SRAM word holds 0 with valid check bits. -/
def Lane.clearSrams (ln : Lane) : Lane :=
  { ln with
    helm := { ln.helm with c := ln.helm.c.map (fun h => { h with code := .empty, data := .empty }) }
    drv := { ln.drv with c := ln.drv.c.map (fun d => { d with prog := .empty, data := .empty }) } }

/-- The fill ends (R390, R391, R401). -/
def Lane.fillDone (ln : Lane) (bad : List FillError) : Lane :=
  if ln.pwr.stage != .filling then ln
  else
    let ln := (ln.applyRepairs).clearSrams
    if bad.any (fun e => e.many) then (ln.publishBist (some 2)).holdInit
    else
      let ln := bad.foldl Lane.fillError ln
      { ln with pwr := { ln.pwr with stage := .loading } }

/-! ### Configuration lock and release (R12, R373, R414 to R417, R422) -/

/-- The end-of-life state at release: its ceiling, and the WEAR_PLANCFG pair where the reset periods are too short
(R415). -/
def Lane.applyEol (ln : Lane) : Lane :=
  if !ln.nv.eol then ln
  else
    let ln := (ln.on PACE_STAT_EOL).put PACE_STAT_CEIL_PS 1550
    if ratesReach 1550 ln.nChan (ln.get PACE_RATE_PWM) (ln.get PACE_RATE_FRAME) then ln
    else
      let pwm := ln.get WEAR_PLANCFG_PWM
      let frame := ln.get WEAR_PLANCFG_FRAME
      let ln := (ln.put PACE_RATE_PWM pwm).put PACE_RATE_FRAME frame
      (ln.put PACE_LIVE_PWM_LIVE pwm).put PACE_LIVE_FR_LIVE frame

/-- The planner's state at release: the end-of-life state, and a lane that starts at a barred point is raised from it
(R412, R415). -/
def Lane.applyPlanner (ln : Lane) : Lane :=
  let ln := ln.applyEol
  let ln := if ln.nv.bar1 then ln.raiseFrom 1 else ln
  if ln.nv.bar2 then ln.raiseFrom 2 else ln

/-- The edge-time baselines are reset at the first configuration lock and at a new configuration digest (R417). -/
def Lane.newBaselines (ln : Lane) : Lane :=
  if ln.nv.cfgDigest = ln.upd.cfgDigest then ln
  else { ln with nv := { ln.nv with cfgDigest := ln.upd.cfgDigest } }.resetBaselines

/-- Release from INIT: mode STARTTEST, the helm at 0x0000_0000, the drive at its first PWM period start. -/
def Lane.releaseFromInit (ln : Lane) : Lane :=
  let ln := { ln with
    pwr := { ln.pwr with stage := .released }
    mode := { ln.mode with released := ln.lt }
    lay := { ln.lay with refAt := ln.lt } }
  let ln := ((ln.put LCTL_MODE_PREV modeInit).put LCTL_MODE_MODE modeStarttest).wr TIME_FRAME 0
  (((ln.publishBist none).restartHelm).restartDrive).permits

/-- The configuration record is written into every LK field, and the lane is locked and released. -/
def Lane.lockConfig (ln : Lane) : Lane :=
  if ln.pwr.stage != .configuring then ln
  else if ln.nv.wout then ln.holdInit
  else
    let ln := ln.writeConfig (ln.nv.cfg ln.nv.boot.cfg).entries
    let ln := ((ln.lockPos ln.lt).lockBridge).lockStopper
    let ln := ((ln.configInputs).applyPlanner).newBaselines
    let ln := (List.range 6).foldl (fun ln c => ln.switchSense c) ln.showReserves
    ln.showNv.releaseFromInit.firstClaim

/-! ### Wake and restart (R384 to R387) -/

/-- The restart that a key or a feed brings after SHUTDOWN: a power-on reset with the feeds as they stand (R379). -/
def Lane.restartPower (ln : Lane) : Lane :=
  let f := ln.powerOnReset
  let f := { f with pwr := { f.pwr with feed1 := ln.pwr.feed1, feed2 := ln.pwr.feed2 } }
  let f := (f.put PWR_FEED_F1_OK (ln.get PWR_FEED_F1_OK)).put PWR_FEED_F2_OK (ln.get PWR_FEED_F2_OK)
  f.showSources.release

/-- SLEEP is reached: the mode, and only the always-on domain powered (R382). -/
def Lane.fallAsleep (ln : Lane) : Lane :=
  let ln := { ln with mode := { ln.mode with sleep := .asleep } }
  ((ln.changeMode modeSleep).stopEngines).setLstate lsAbsent

/-- The lane's domains up to domain 5 have agreed to sleep. -/
def Lane.agreedToSleep (ln : Lane) : Bool :=
  match ln.mode.sleep with
  | .asleep => true
  | .ask n => decide (5 ≤ n)
  | _ => false

/-- A wake source wakes the lane (R385 to R387): PWR_WAKE and its event, then INIT. -/
def Lane.wakeUp (ln : Lane) (code : Nat) (plane : Nat) : Lane :=
  let ln := ((ln.put PWR_WAKE_SRC code).put PWR_WAKE_SEEN (2 ^ (code - 1))).put PWR_WAKE_PLANE plane
  let ln := ((ln.put PWR_WAKE_RDOM 0).put PWR_WAKE_RCODE 0).put PWR_WAKE_RLANE 0
  (ln.logR 0x73 PWR_WAKE 0).restart

/-- The domains that the sleep sequence stopped restart in the reverse order of their stopping (R383). -/
def sleepDoms : Nat → List Nat
  | 1 => [2, 3]
  | 2 => [0, 1]
  | 3 => [7]
  | 4 => [4]
  | _ => []

/-- The domain number that PWR_WAKE.RDOM names for an ask. -/
def askDom : Nat → Nat
  | 1 => 3
  | 2 => 1
  | 3 => 8
  | 4 => 5
  | _ => 0

/-- The host's SLEEP request is answered RESULT 0x06 with lane, domain and reason (R383). -/
def Lane.refusedResult (ln : Lane) : Lane :=
  let data : List Byte := [BitVec.ofNat 8 (ln.get PWR_WAKE_RLANE), BitVec.ofNat 8 (ln.get PWR_WAKE_RDOM),
    BitVec.ofNat 8 (ln.get PWR_WAKE_RCODE)]
  let mine := ln.host.waiting.filter (fun x => x.1.args.head? == some (BitVec.ofNat 8 modeSleep) && x.1.opc == 0x02)
  let rs := mine.map (fun x => (Response.mk x.1.opc x.1.tag 0x06 false 0 data x.1.lay x.1.src, 0))
  { ln with host := { ln.host with
    out := ln.host.out ++ rs, waiting := ln.host.waiting.filter (fun x => !mine.contains x) } }

/-- A rollback is complete: both engine pairs have restarted, the lane stays in STANDBY, and the vote has an outcome again
from the second frame start (R383). -/
def Lane.rolledBack (ln : Lane) : Lane :=
  let ln := { ln with mode := { ln.mode with sleep := .none, stopped := [] }, rj := { ln.rj with noVote := 2 } }
  ln.refusedResult

/-- The engines of a pair whose domains are powered again restart (R96, R159, R383). -/
def Lane.restartPair (ln : Lane) (doms : List Nat) : Lane :=
  if doms.contains 0 then ln.restartHelm else if doms.contains 2 then ln.restartDrive else ln

/-- A refusal (R382 to R384): PWR_WAKE records it, and the stopped domains restart. -/
def Lane.sleepRefused (ln : Lane) (dom code lane : Nat) : Lane :=
  let ln := (((ln.put PWR_WAKE_SRC 8).put PWR_WAKE_RDOM dom).put PWR_WAKE_RCODE code).put PWR_WAKE_RLANE lane
  let jobs := ln.mode.stopped.reverse.map (fun n => DomJob.mk (sleepDoms n) true)
  let ln := { ln with mode := { ln.mode with sleep := .rollback } }
  let ln := ln.startJobs jobs
  if ln.pwr.jobs.isEmpty then ln.rolledBack else ln

/-- A domain agrees: it is stopped, and the next one is asked (R382). Domains 7 and 6 always agree. -/
def Lane.sleepAgreed (ln : Lane) (n : Nat) : Lane :=
  let ln := { ln with mode := { ln.mode with sleep := .ask (n + 1), stopped := ln.mode.stopped ++ [n] } }
  if n = 5 then
    let ln := ln.startJobs [⟨[6], false⟩, ⟨[5], false⟩]
    if ln.pwr.jobs.isEmpty then ln.fallAsleep else ln
  else ln.startJobs [⟨sleepDoms n, false⟩]

/-- The last edge of any position input lies 10 ms back. -/
def Lane.inputsQuiet (ln : Lane) : Bool :=
  let old (t : LTime) : Bool := t == 0 || decide (10 * msUnits ≤ since ln.lt t)
  (List.range 16).all (fun s => old (ln.speedU s).lastEdge) && (List.range 8).all (fun h => old (ln.hallU h).lastEdge)

/-- Why the asked domain refuses; none where it agrees (R382). -/
def Lane.sleepRefusal (ln : Lane) (n : Nat) (a : SleepAnswer) : Option Nat :=
  match n with
  | 1 =>
    let off := (List.range 6).all (fun c => !ln.is (COMM_CHCFG_EN c) || ln.cst c == csOff)
    let rest := (ln.drv.run == .waiting || !ln.domOn 3) && ln.drv.c.p.hold.isEmpty && ln.drv.c.s.hold.isEmpty
    if off && rest then none else some 1
  | 2 => if ln.is PWR_SLPOK_OK && ln.helm.c.p.hold.isEmpty && ln.helm.c.s.hold.isEmpty then none else some 2
  | 3 => if ln.inputsQuiet && !a.calibrating then none else some 3
  | 4 =>
    if ln.is SPLC_STAT_XFER || !ln.can.sessions.isEmpty || a.canQueued then some 4
    else if a.refusedBy.isSome || !a.othersReady then some 5
    else none
  | _ => none

/-- The asked domain answers. While a switching is in progress no domain is being asked. -/
def Lane.sleepAnswer (ln : Lane) (a : SleepAnswer) : Lane :=
  match ln.mode.sleep with
  | .ask n =>
    if ln.is PWR_DOMSTAT_BUSY || decide (5 < n) then ln
    else
      let why := ln.sleepRefusal n a
      let ln := if n = 2 then ln.put PWR_SLPOK_OK 0 else ln
      match why with
      | none => ln.sleepAgreed n
      | some code =>
        let lane := if code = 5 then (a.refusedBy.getD ln.id).code else ln.id.code
        ln.sleepRefused (askDom n) code lane
  | _ => ln

/-- The asked domain has not answered within 100 us: it has refused with reason 0x7. -/
def Lane.sleepTimeout (ln : Lane) : Lane :=
  match ln.mode.sleep with
  | .ask n => if ln.is PWR_DOMSTAT_BUSY || decide (5 ≤ n) then ln else ln.sleepRefused (askDom n) 7 ln.id.code
  | _ => ln

/-- A wake event arrives (R384, R385). -/
def Lane.wakeEvent (ln : Lane) (code plane : Nat) : Lane :=
  if !bit (ln.rd PWR_WAKEEN) (code - 1) then ln
  else if ln.agreedToSleep then ln.wakeUp code plane
  else match ln.mode.sleep with
    | .ask _ => ln.sleepRefused 9 6 ln.id.code
    | _ => ln

/-- The code and the lane of a wake source. -/
def wakeCode : WakeSource → Nat × Nat
  | .key => (1, 0)
  | .can => (2, 0)
  | .lay => (3, 0)
  | .timer => (4, 0)
  | .guard => (5, 0)
  | .estop => (6, 0)
  | .partner l => (7, l.code)

/-! ### Shutdown (R379 to R381) -/

/-- The next step of the sequence. -/
def Lane.setShut (ln : Lane) (st : ShutStep) : Lane := { ln with mode := { ln.mode with shut := st } }

/-- The power-down order of R32. -/
def downJobs : List DomJob := upOrder.reverse.map (fun d => ⟨d, false⟩)

/-- The sequence has ended; a held key or feed event acts now (R379). -/
def Lane.shutEnd (ln : Lane) : Lane :=
  let ln := (ln.setShut .done).setLstate lsAbsent
  if ln.mode.heldWake then ln.restartPower else ln

/-- The record is written and the switched domains go off. -/
def Lane.writeBist (ln : Lane) (r : BistRec) : Lane :=
  let ln := { ln with nv := { ln.nv with bist := some r } }
  let ln := ln.logE 0x74 (BitVec.ofNat 32 (b2n r.pass + 16 * r.faild)) 0 0
  let ln := (ln.setShut .off).startJobs downJobs
  if ln.pwr.jobs.isEmpty then ln.shutEnd else ln

/-- After the repairs: engines stopped, hold queues empty, the communications domain isolated (R26). -/
def Lane.quietDown (ln : Lane) : Lane :=
  let ln := (ln.stopEngines).setLstate lsAbsent
  let ln := if ln.domOn 5 then ((ln.setPhase [4] .falling).clampDomain 4).showDomains else ln
  { ln with mode := { ln.mode with bistFrom := ln.lt, bistZero := false, bistLogic := false, bistSram := false, bistMram := false } }

/-- Zeroisation is confirmed (R380): the UPD and KEY blocks and both helm data SRAMs hold 0, and scan is enabled. -/
def Lane.zeroised (ln : Lane) : Lane :=
  let c := ln.helm.c.map (fun (h : HelmCopy) => { h with data := .empty })
  let ln := { ln with upd := UpdUnit.reset, helm := { ln.helm with c := c }, mode := { ln.mode with bistZero := true } }
  let ln := [UPD_STAT, UPD_BOOT, UPD_KEYS, UPD_IEN].foldl (fun (x : Lane) r => x.wr r 0) ln
  ln.setShut .logic

/-! ### Domains that have switched (R31, R34) -/

/-- What the end of a switch sequence lets go on. -/
def Lane.jobsEnded (ln : Lane) : Lane :=
  if !ln.pwr.jobs.isEmpty then ln
  else if ln.pwr.stage == .powering then ln.judgeBist
  else if ln.mode.shut == .off then ln.shutEnd
  else match ln.mode.sleep with
    | .rollback => ln.rolledBack
    | .ask n => if 5 < n then ln.fallAsleep else ln
    | .asleep => ln
    | .none => ln.judgeHeldDom 8

/-- A rail is stable. -/
def Lane.railStable (ln : Lane) (n : Nat) : Lane :=
  if vget ln.pwr.phase n .on != .rising then ln
  else
    let job := ln.pwr.jobs.head?
    let ln := ln.domStable n
    let ended := match job with
      | some j => ln.pwr.jobs.head? != some j
      | none => false
    let ln := if ended && ln.locked then ln.restartPair (match job with | some j => j.doms | none => []) else ln
    ln.jobsEnded

/-- A rail has fallen below retention. -/
def Lane.railOff (ln : Lane) (n : Nat) : Lane :=
  if vget ln.pwr.phase n .on == .falling && ln.switching n then (ln.domOff n).jobsEnded else ln

/-! ### The commands of the table -/

/-- A powered-up rail is stable (R31, R373). -/
def execDomainRailStable (l : LaneId) (d : Fin 8) (s : State) : Host.Outcome State Fault Refusal :=
  onLane s l (fun ln => ln.railStable d)

/-- A rail has fallen below retention (R31). -/
def execDomainRailOff (l : LaneId) (d : Fin 8) (s : State) : Host.Outcome State Fault Refusal :=
  onLane s l (fun ln => ln.railOff d)

/-- The reduced start-up BIST ends (R375). -/
def execReducedBistDone (l : LaneId) (r : BistResult) (s : State) : Host.Outcome State Fault Refusal :=
  onLane s l (fun ln => ln.reducedBist r)

/-- The SRAM fill ends (R390, R391). -/
def execSramFillDone (l : LaneId) (bad : List FillError) (s : State) : Host.Outcome State Fault Refusal :=
  onLane s l (fun ln => ln.fillDone bad)

/-- The configuration record is written and locked (R373). -/
def execConfigurationLock (l : LaneId) (s : State) : Host.Outcome State Fault Refusal :=
  onLane s l (fun ln => ln.lockConfig)

/-- The output switch test ends (R356, R378). -/
def execOutputSwitchTestDone (l : LaneId) (pass : Bool) (s : State) : Host.Outcome State Fault Refusal :=
  onLane s l (fun ln =>
    if !ln.locked || ln.modeNow != modeStarttest || ln.stop.testPassed then ln
    else if pass then { ln with stop := { ln.stop with testPassed := true } }.passChecks
    else ln.stopperLoss 3)

/-- Log line and wear records have been flushed to MRAM (R379, R424). -/
def execShutdownLogFlushed (l : LaneId) (s : State) : Host.Outcome State Fault Refusal :=
  onLane s l (fun ln => if ln.mode.shut == .flush then ((ln.flushLog).writeWearRec).setShut .repair else ln)

/-- The field fuse repairs of this shutdown are done (R379, R400). -/
def execFieldFuseRepair (l : LaneId) (s : State) : Host.Outcome State Fault Refusal :=
  onLane s l (fun ln => if ln.mode.shut == .repair then ((ln.repairAll).quietDown).setShut .zeroise else ln)

/-- Zeroisation is confirmed (R380). -/
def execZeroisationConfirmed (l : LaneId) (s : State) : Host.Outcome State Fault Refusal :=
  onLane s l (fun ln => if ln.mode.shut == .zeroise then ln.zeroised else ln)

/-- Zeroisation is not confirmed within 20 ms: neither BIST runs, and the record says so (R380). -/
def execZeroisationTimeout (l : LaneId) (s : State) : Host.Outcome State Fault Refusal :=
  onLane s l (fun ln => if ln.mode.shut == .zeroise then ln.writeBist ⟨false, false, 0, 0, 20, 4, false⟩ else ln)

/-- The logic BIST is complete (R379). -/
def execLogicBistDone (l : LaneId) (pass : Bool) (s : State) : Host.Outcome State Fault Refusal :=
  onLane s l (fun ln =>
    if ln.mode.shut == .logic then ({ ln with mode := { ln.mode with bistLogic := pass } }).setShut .memory else ln)

/-- The memory BIST is complete (R379). -/
def execMemoryBistDone (l : LaneId) (sramOk mramOk : Bool) (s : State) : Host.Outcome State Fault Refusal :=
  onLane s l (fun ln =>
    if ln.mode.shut == .memory then
      ({ ln with mode := { ln.mode with bistSram := sramOk, bistMram := mramOk } }).setShut .record
    else ln)

/-- The BIST record is written to MRAM, unconsumed (R379, R381). -/
def execBistRecordWritten (l : LaneId) (ms : BitVec 16) (s : State) : Host.Outcome State Fault Refusal :=
  onLane s l (fun ln =>
    if ln.mode.shut == .record then
      let m := ln.mode
      let f := faildOf m.bistZero m.bistLogic m.bistSram m.bistMram
      ln.writeBist ⟨f == 0, false, 972, 1000, ms.toNat, f, false⟩
    else ln)

/-- x_KEY has been high for 10 ms (R379, R385). -/
def execKeyHigh (l : LaneId) (t : LTime) (s : State) : Host.Outcome State Fault Refusal :=
  onLane s l (fun ln =>
    let ln := ln.at t
    if ln.mode.shut == .done then ln.restartPower
    else if ln.mode.shut != .none then { ln with mode := { ln.mode with heldWake := true } }
    else ln.wakeEvent 1 0)

/-- A domain answers the sleep sequence (R382). -/
def execSleepDomainAnswer (l : LaneId) (a : SleepAnswer) (s : State) : Host.Outcome State Fault Refusal :=
  onLane s l (fun ln => ln.sleepAnswer a)

/-- A domain has not answered in time (R382). -/
def execSleepAnswerTimeout (l : LaneId) (s : State) : Host.Outcome State Fault Refusal :=
  onLane s l (fun ln => ln.sleepTimeout)

/-- A wake event arrives (R384 to R387). -/
def execWake (l : LaneId) (w : WakeSource) (t : LTime) (s : State) : Host.Outcome State Fault Refusal :=
  onLane s l (fun ln => let c := wakeCode w; (ln.at t).wakeEvent c.1 c.2)

/-- The wake timer has run out (R385); a PWR_WKTIME of 0 is off. -/
def execWakeTimer (l : LaneId) (t : LTime) (s : State) : Host.Outcome State Fault Refusal :=
  onLane s l (fun ln => if ln.get PWR_WKTIME_SEC = 0 then ln else (ln.at t).wakeEvent 4 0)

/-- LCTL_BISTSTAT is read: it latches the BIST result (R467). -/
def execLctlBiststatRead (l : LaneId) (s : State) : Host.Outcome State Fault Refusal :=
  readLane s l (fun ln => ln.latch LCTL_BISTSTAT [LCTL_BISTCOV, LCTL_BISTDUR])

/-- The trial ends without RUNNING 2 s after release from INIT: the lane falls back (R514). -/
def execTrialTimeout (l : LaneId) (s : State) : Host.Outcome State Fault Refusal :=
  onLane s l (fun ln =>
    if ln.nv.boot.trial && ln.locked && ln.lstate != lsRunning then (ln.fallBack 3).restart else ln)

end Sys2Proof.Machine
end

