-- ==== Sys2Proof/Machine/Host.lean ====
section
/-!
DEFINITION. Host commands (chapter 16, R467 to R477): responses and their segments, results that complete later, the
SUMMARY record, and the commands 0x01 to 0x0C with the attestation report (R519). A command's row is the moment at which
the supervisory handler of the lane's helm takes it.
-/

namespace Sys2Proof.Machine

open Sys2Proof

/-! ### Arguments (R468, R469) -/

/-- A byte of the payload from byte 4 on; one that was not sent reads 0 (log 24). -/
def arg (k : HostCmd) (n : Nat) : Nat := (k.args.getD (n - 4) 0).toNat

/-- A little-endian word of the payload. -/
def argWord (k : HostCmd) (n : Nat) : Word := bytesWord ((k.args.drop (n - 4)).take 4)

/-- The reserved byte is 0, and LEAD is 0 or 2 to 255. -/
def headOk (k : HostCmd) : Bool := k.rsv == 0 && k.lead != 1

/-- The reference frame (R469): the one whose vote cut is the first to follow first receipt and matching time. -/
def Lane.refFrame (ln : Lane) (k : HostCmd) : BitVec 16 :=
  let cut := ln.beforeFrame ln.cutLead
  let d := (later k.first ln.matchUnits - cut).toInt
  let p : Int := ln.frameUnits
  ln.frame16 + BitVec.ofInt 16 ((d + p - 1) / p)

/-- The frame at which the command applies. -/
def Lane.applyFrame (ln : Lane) (k : HostCmd) : BitVec 16 :=
  ln.refFrame k + BitVec.ofNat 16 (if k.lead = 0 then 2 else k.lead.toNat)

/-! ### Responses (R474) -/

/-- Segments of a response. -/
def Response.nseg (r : Response) : Nat := max 1 ((r.data.length + 119) / 120)

/-- One segment. -/
def Response.segment (r : Response) (lane i : Nat) : List Byte :=
  [r.opc ||| 0x80, r.tag, BitVec.ofNat 8 r.result, BitVec.ofNat 8 (lane + 4 * b2n r.ready), BitVec.ofNat 8 r.seq,
    BitVec.ofNat 8 (r.seq / 256), BitVec.ofNat 8 i, BitVec.ofNat 8 r.nseg] ++ (r.data.drop (120 * i)).take 120

/-- The handler writes the staged bytes of a yarn buffer. -/
def Lane.stageYarn (ln : Lane) (h : Nat) (d : List Byte) : Lane :=
  (List.range ((d.length + 3) / 4)).foldl (fun ln k => ln.wr (LAY_YTX_D0 h + 4 * k) (payloadWord d k)) ln

/-- Segments over ISO 11783 go out to the requester (R474, R480). -/
def Lane.pumpCan (ln : Lane) : Lane :=
  if !ln.canSend then ln
  else
    let rs := ln.host.out.filter (fun x => !x.1.lay)
    let ln := { ln with host := { ln.host with out := ln.host.out.filter (fun x => x.1.lay) } }
    rs.foldl (fun ln x => (List.range x.1.nseg).foldl (fun ln i =>
      ln.sendCan 61184 x.1.dst (x.1.segment ln.id.code i)) ln) ln

/-- The next segment over Lay is committed when the yarn buffer is free: buffer 64, or 65 when channel X is disabled. -/
def Lane.pumpLay (ln : Lane) : Lane :=
  let h := if ln.chanOn 0 then 0 else 1
  match ln.host.out.find? (fun x => x.1.lay) with
  | none => ln
  | some x =>
    if !ln.layOn || ln.is (LAY_YTXCTL_PEND h) then ln
    else
      let d := x.1.segment ln.id.code x.2
      let ln := (ln.stageYarn h d).commitBuffer (64 + h) (BitVec.ofNat 32 (1 + 4 * 2 + 16 * d.length))
      let rest := ln.host.out.erase x
      let out := if x.2 + 1 < x.1.nseg then (x.1, x.2 + 1) :: rest else rest
      { ln with host := { ln.host with out := out } }

/-- What waits goes out as far as it can. -/
def Lane.pump (ln : Lane) : Lane := ln.pumpCan.pumpLay

/-- A running lane answers; another does not. -/
def Lane.respond (ln : Lane) (k : HostCmd) (opc result : Nat) (ready : Bool) (seq : Nat) (data : List Byte) : Lane :=
  if isRunning ln.lstate then
    let r : Response := ⟨BitVec.ofNat 8 opc, k.tag, result, ready, seq, data, k.lay, k.src⟩
    ({ ln with host := { ln.host with out := ln.host.out ++ [(r, 0)] } }).pump
  else ln

/-- SEQ of the last completed result of an opcode. -/
def Lane.seqOf (ln : Lane) (opc : Nat) : Nat := (keyGet ln.host.seqs opc).getD 0

/-- A command is done: its result completes, with the next SEQ (R467). -/
def Lane.done (ln : Lane) (k : HostCmd) (opc : Nat) (data : List Byte) : Lane :=
  let n := (ln.seqOf opc + 1) % 65536
  ({ ln with host := { ln.host with seqs := keyPut ln.host.seqs opc n } }).respond k opc 0x00 true n data

/-- A command is answered without a completed result. -/
def Lane.answer (ln : Lane) (k : HostCmd) (opc result : Nat) (data : List Byte) : Lane :=
  ln.respond k opc result false (ln.seqOf opc) data

/-- The handler runs: the lane's helm is not stopped. -/
def Lane.handles (ln : Lane) : Bool := ln.locked && ln.helm.run != .stopped

/-- A command is taken: its arguments and the mode are judged (R471), then it acts. -/
def Lane.takeCmd (ln : Lane) (k : HostCmd) (opc : Nat) (argsOk modeOk : Bool) (f : Lane → Lane) : Lane :=
  if !ln.handles then ln
  else
    let ln := ln.clearCan
    if !headOk k || !argsOk then ln.answer k opc 0x03 []
    else if !modeOk then ln.answer k opc 0x04 []
    else f ln

/-- Run an operation and tell whether it set a flag that may have stood before. -/
def Lane.tryFlag (ln : Lane) (f : Field) (g : Lane → Lane) : Bool × Lane :=
  let old := ln.is f
  let ln := g (ln.put f 0)
  (ln.is f, ln.onIf old f)

/-! ### MODE, STOP, RELEASE, CHANNEL, LOOPCMD, SETVAL, CLEAR (R470, R471, R473) -/

/-- A response that follows the applying frame waits. -/
def Lane.awaitFrame (ln : Lane) (k : HostCmd) : Lane :=
  { ln with host := { ln.host with waiting := ln.host.waiting ++ [(k, ln.applyFrame k)] } }

/-- MODE writes LCTL_MODEREQ. -/
def Lane.hostMode (ln : Lane) (k : HostCmd) : Lane :=
  ln.takeCmd k 0x02 (decide (arg k 4 ≤ 15 ∧ arg k 5 ≤ 3)) true (fun ln =>
    let v : Word := (ln.applyFrame k) ++ (BitVec.ofNat 16 (arg k 4 + 16 * arg k 5))
    let (rej, ln) := ln.tryFlag LCTL_MODE_REJ (fun ln => ln.writeModereq v)
    if rej then ln.answer k 0x02 0x05 [BitVec.ofNat 8 (ln.get LCTL_MODE_REJC)] else ln.awaitFrame k)

/-- The channels of a mask. -/
def maskChans (m : Nat) : List Nat := (List.range 6).filter (fun c => m / 2 ^ c % 2 == 1)

/-- STOP: the named brake channels in RUN take the apply duty until the override ends (R473). -/
def Lane.stopOverride (ln : Lane) (mask pct : Nat) : Lane :=
  (maskChans mask).foldl (fun ln c =>
    if ln.isBrake c && ln.cst c == csRun then
      let d : Int := pct * 2147483648 / 100
      let d := if bit (ln.rd STOP_PCFG) (STOP_PCFG_APPLYDIR.lo + c) then -d else d
      { ln with host := { ln.host with override := keyPut ln.host.override c d } }
    else ln) ln

/-- STOP takes effect at once. -/
def Lane.hostStop (ln : Lane) (k : HostCmd) : Lane :=
  ln.takeCmd k 0x03 (decide (arg k 4 < 64 ∧ 10 ≤ arg k 5 ∧ arg k 5 ≤ 99)) (isDriveMode ln.modeNow) (fun ln =>
    (ln.stopOverride (arg k 4) (arg k 5)).done k 0x03 [])

/-- RELEASE ends overrides at its frame. -/
def Lane.hostRelease (ln : Lane) (k : HostCmd) : Lane :=
  ln.takeCmd k 0x04 (decide (arg k 4 < 64)) (isDriveMode ln.modeNow) (fun ln =>
    let r := (BitVec.ofNat 6 (arg k 4), ln.applyFrame k)
    ({ ln with host := { ln.host with releases := ln.host.releases ++ [r] } }).done k 0x04 [])

/-- CHANNEL writes COMM_CMD. -/
def Lane.hostChannel (ln : Lane) (k : HostCmd) : Lane :=
  ln.takeCmd k 0x05 (decide (arg k 4 < 6 ∧ 1 ≤ arg k 5 ∧ arg k 5 ≤ 4)) true (fun ln =>
    let v : Word := (ln.applyFrame k) ++ (BitVec.ofNat 16 (arg k 4 + 16 * arg k 5))
    let (rej, ln) := ln.tryFlag COMM_IEN_REJ (fun ln => ln.writeCommCmd v)
    if rej then ln.answer k 0x05 0x05 [1] else ln.awaitFrame k)

/-- LOOPCMD writes LOOP_CMD in both copies. -/
def Lane.hostLoopcmd (ln : Lane) (k : HostCmd) : Lane :=
  let slot := arg k 4
  ln.takeCmd k 0x06 (decide ((slot < 24 ∨ slot = 31) ∧ 1 ≤ arg k 5 ∧ arg k 5 ≤ 7)) true (fun ln =>
    let v : Word := (ln.applyFrame k) ++ (BitVec.ofNat 16 (slot + 256 * arg k 5))
    let old := ln.cget .p LOOP_STAT_REJ
    let ln := ((ln.cputBoth LOOP_STAT_REJ 0).writeLoopCmd .p v).writeLoopCmd .s v
    let rej := ln.cget .p LOOP_STAT_REJ == 1
    let ln := if old = 1 then ln.cputBoth LOOP_STAT_REJ 1 else ln
    if rej then ln.answer k 0x06 0x05 [1] else ln.awaitFrame k)

/-- A value is staged in both copies. -/
def Lane.stageBoth (ln : Lane) (r : Reg) (v : Word) : Lane :=
  { ln with loop := ln.loop.map (fun (x : LoopCopy) => { x with stage := keyPut x.stage r v }) }

/-- The register that SETVAL names. -/
def setvalReg (sel i : Nat) : Reg := if sel = 0 then LOOP_SP i else if sel = 1 then LOOP_AUX i else LOOP_MAN i

/-- SETVAL stages a value during frame FRAME - 1. -/
def Lane.hostSetval (ln : Lane) (k : HostCmd) : Lane :=
  let sel := arg k 4
  let i := arg k 5
  ln.takeCmd k 0x07 (decide (sel ≤ 2 ∧ i < if sel = 1 then 16 else 24)) (isDriveMode ln.modeNow) (fun ln =>
    let f := ln.applyFrame k
    let r := setvalReg sel i
    let ln := if f - ln.frame16 = 1 then ln.stageBoth r (argWord k 8)
      else { ln with host := { ln.host with setvals := ln.host.setvals ++ [(r, argWord k 8, f)] } }
    ln.done k 0x07 [])

/-- CLEAR writes BRDG_SCCLR, BRDG_CHCLR or POS_CMD. -/
def Lane.hostClear (ln : Lane) (k : HostCmd) : Lane :=
  let v := argWord k 8
  let n := arg k 4
  ln.takeCmd k 0x08 (decide (n ≤ 2 ∧ (n = 0 → v.toNat < 2 ^ 18) ∧ (n = 2 → v.toNat < 18))) true (fun ln =>
    if n = 2 then (ln.clearFault v.toNat).done k 0x08 []
    else
      let (rej, ln) := ln.tryFlag BRDG_STAT_CREJ (fun ln =>
        if n = 0 then ln.writeScclr (v.setWidth 18) ln.belowTrip else ln.writeChclr 1 ln.brdg.chopMa)
      if rej then ln.answer k 0x08 0x05 [1] else ln.done k 0x08 [])

/-! ### The waiting responses at a frame start -/

/-- The commands of an opcode whose frame starts now, and the others. -/
def Lane.dueOf (ln : Lane) (opc : Byte) : List HostCmd :=
  (ln.host.waiting.filter (fun x => x.1.opc == opc && x.2 == ln.frame16)).map (fun x => x.1)

/-- A waiting command is taken off. -/
def Lane.dropWaiting (ln : Lane) (k : HostCmd) : Lane :=
  { ln with host := { ln.host with waiting := ln.host.waiting.filter (fun x => x.1 != k) } }

/-- The modes are judged; MODE commands whose frame this is are answered with the mode in force, or with REJC. A SLEEP
that applies waits for its refusal (R383). -/
def Lane.judgeModesHost (ln : Lane) : Lane :=
  let due := ln.dueOf 0x02
  let (applied, ln) := ln.judgeModes
  due.foldl (fun ln k =>
    if applied != some ⟨arg k 4, arg k 5, ln.frame16⟩ then
      (ln.dropWaiting k).answer k 0x02 0x05 [BitVec.ofNat 8 (ln.get LCTL_MODE_REJC)]
    else if arg k 4 = modeSleep then ln
    else (ln.dropWaiting k).done k 0x02 [BitVec.ofNat 8 ln.modeNow]) ln

/-- CHANNEL commands whose frame this is are answered; their outcome is that of COMM_CMD now. -/
def Lane.answerChannels (ln : Lane) : Lane :=
  let judged := (ln.dueOf 0x05).map (fun k =>
    (k, (ln.tryFlag COMM_IEN_REJ (fun x => x.applyComm (arg k 5) (arg k 4))).1))
  judged.foldl (fun ln x =>
    let ln := ln.dropWaiting x.1
    if x.2 then ln.answer x.1 0x05 0x05 [1] else ln.done x.1 0x05 []) ln

/-- LOOPCMD commands whose frame this is are answered. -/
def Lane.answerLoops (ln : Lane) : Lane :=
  let judged := (ln.dueOf 0x06).map (fun k =>
    (k, ((ln.cputBoth LOOP_STAT_REJ 0).applyLoopOp (arg k 5) (arg k 4)).cget .p LOOP_STAT_REJ == 1))
  judged.foldl (fun ln x =>
    let ln := ln.dropWaiting x.1
    if x.2 then ln.answer x.1 0x06 0x05 [1] else ln.done x.1 0x06 []) ln

/-- Overrides end at a RELEASE whose frame this is, or with RUN (R473). -/
def Lane.endOverrides (ln : Lane) : Lane :=
  let due := (ln.host.releases.filter (fun x => x.2 == ln.frame16)).map (fun x => x.1)
  let keep := ln.host.override.filter (fun x => ln.cst x.1 == csRun && !due.any (fun m => m.getLsbD x.1))
  { ln with host := { ln.host with
    override := keep, releases := ln.host.releases.filter (fun x => x.2 != ln.frame16) } }

/-- Values whose frame is the next one are staged. -/
def Lane.stageDue (ln : Lane) : Lane :=
  let due := ln.host.setvals.filter (fun x => x.2.2 == ln.frame16 + 1)
  let ln := { ln with host := { ln.host with setvals := ln.host.setvals.filter (fun x => x.2.2 != ln.frame16 + 1) } }
  due.foldl (fun ln x => ln.stageBoth x.1 x.2.1) ln

/-! ### The SUMMARY record (R477) -/

/-- The bytes of a register. -/
def Lane.regBytes (ln : Lane) (r : Reg) : List Byte := wordBytes (ln.rd r)

/-- The bytes of a digest. -/
def digestBytes (d : BitVec 256) : List Byte := (List.range 32).map (fun k => d.extractLsb' (8 * (31 - k)) 8)

/-- The state byte of an image slot: valid, active, activation pending, migration committed. -/
def Lane.slotState (ln : Lane) (k : Nat) : Nat :=
  let b := ln.nv.boot
  let active := b.slot == k && !b.trial
  let pend := (b.pendSlot && b.slot != k) || (b.rollback && b.prevSlot == k)
  b2n (ln.nv.img k).valid + 2 * b2n active + 4 * b2n pend + 8 * b2n (b.slot == k && b.superseded)

/-- The descriptor of an image slot. -/
def Lane.slotDescriptor (ln : Lane) (k : Nat) : List Byte :=
  let im := ln.nv.img k
  let h := im.header
  leBytes 4 (leAt h 8 4) ++ leBytes 1 (leAt h 6 1) ++ leBytes 1 (leAt h 7 1) ++ leBytes 1 (ln.slotState k) ++ [0] ++
    leBytes 2 im.n ++ List.replicate 6 0

/-- The protocol level in force of a lane, 0 when it is absent. -/
def Lane.levelOf (ln : Lane) (l : LaneId) : Nat :=
  if l = ln.id then ln.upd.level
  else if (ln.agr.vec.get l).lstate = lsAbsent then 0
  else (ln.agr.vec.get l).level

/-- The record without its CRC. -/
def Lane.summaryBody (ln : Lane) (seq : Nat) : List Byte :=
  let r := ln.regBytes
  let rs (l : List Reg) : List Byte := (l.map r).flatten
  let n (f : Nat → Reg) (k : Nat) : List Reg := (List.range k).map f
  let pub (x : Reg) : List Byte := wordBytes (rfGet ln.pub x)
  [1, BitVec.ofNat 8 ln.id.code] ++ leBytes 2 512 ++ leBytes 4 seq ++ leBytes 8 ln.lt.toNat ++
    rs [TIME_FRAME, LAY_CYCLE, LCTL_MODE, TALLY_LANES, TALLY_SHA, TALLY_SHB, TALLY_SHC, TALLY_STAT, TALLY_WCAUSE,
      LCTL_FSET, LCTL_HFAULT, LCTL_DFAULT] ++ rs (n COMM_CSTAT 6) ++
    rs [BRDG_STAT, BRDG_SCSTAT, PWR_FEED, PWR_DOMSTAT, PACE_STAT, PACE_LIVE, MEM_STAT, MEM_SDSTAT] ++
    (ln.log.counts.toList.map (leBytes 2)).flatten ++ leBytes 4 0 ++ ln.slotDescriptor 0 ++ ln.slotDescriptor 1 ++
    [BitVec.ofNat 8 (ln.levelOf .a), BitVec.ofNat 8 (ln.levelOf .b), BitVec.ofNat 8 (ln.levelOf .c),
      BitVec.ofNat 8 (ln.get UPD_BOOT_COMPAT)] ++
    r WEAR_STAT ++ rs (n WEAR_CHAFE 9) ++ rs [WEAR_RSV, BRDG_RSVH, BRDG_RSVL] ++ leBytes 4 ln.nv.hours ++
    rs [PWR_WAKE, LOG_HEAD, LOG_LOST, LOG_FSTAT] ++ digestBytes ln.upd.cfgDigest ++
    rs [LAY_STAT, LAY_NOFS, LAY_EPS, LAY_ERR 0, LAY_ERR 1, STOP_STAT, STOP_IN, STOP_HB, SPLC_STAT, SPLC_OFFN, SPLC_OFFP,
      CAN_STAT] ++ bytes64 ln.canName ++ r GNSS_STAT ++ rs (n POS_ISTAT 8) ++ rs (n POS_HSTAT 8) ++
    pub LCTL_BISTSTAT ++ pub LCTL_BISTCOV ++ pub LCTL_BISTDUR ++ List.replicate 80 0

/-- The record of 512 bytes. -/
def Lane.summaryRecord (ln : Lane) (seq : Nat) : List Byte :=
  let b := ln.summaryBody seq
  b ++ wordBytes (crc32c b)

/-- SUMMARY: the record is captured at the next control frame start. -/
def Lane.hostSummary (ln : Lane) (k : HostCmd) : Lane :=
  ln.takeCmd k 0x01 true true (fun ln => { ln with host := { ln.host with summary := ln.host.summary ++ [k] } })

/-- The capture at a control frame start: each SUMMARY has its own SEQ. -/
def Lane.captureSummary (ln : Lane) : Lane :=
  ln.host.summary.foldl (fun ln k =>
    let seq := ln.host.summarySeq + 1
    let d := ln.summaryRecord seq
    let ln := { ln with host := { ln.host with summarySeq := seq, record := d } }
    ln.respond k 0x01 0x00 true (seq % 65536) d) { ln with host := { ln.host with summary := [] } }

/-! ### LOGREAD, FROZENREAD, RESULT, ATTEST (R470, R472, R475, R519) -/

/-- LOGREAD: events from a SEQ on, as LOG_RDATA returns them. -/
def Lane.hostLogread (ln : Lane) (k : HostCmd) : Lane :=
  ln.takeCmd k 0x09 (decide (1 ≤ arg k 4 ∧ arg k 4 ≤ 16)) true (fun ln =>
    let first := argWord k 8
    let ev (i : Nat) : List Byte :=
      ((List.range 8).map (fun w => wordBytes (ln.eventWord (first + BitVec.ofNat 32 i) w))).flatten
    ln.done k 0x09 ((List.range (arg k 4)).map ev).flatten)

/-- FROZENREAD: accepted, or busy while one is pending. -/
def Lane.hostFrozenread (ln : Lane) (k : HostCmd) : Lane :=
  let m := ln.modeNow
  ln.takeCmd k 0x0A (decide (arg k 4 ≤ 7 ∧ arg k 5 ≤ 4)) (m == modeStandby || m == modeService || m == modeSafestop)
    (fun ln =>
      if ln.host.frozen.isSome then ln.answer k 0x0A 0x07 []
      else ({ ln with host := { ln.host with frozen := some k } }).answer k 0x0A 0x01 [])

/-- A result is ready (R467). -/
def LateResult.complete (r : LateResult) (result : Nat) (data : List Byte) : LateResult :=
  ⟨(r.seq + 1) % 65536, result, data, true⟩

/-- The sector of the frozen record is read (R432): 4,096 bytes. -/
def Lane.frozenSector (ln : Lane) (rec' sec : Nat) : List Byte :=
  let word (i : Nat) : Word := match keyGet ln.nv.frozen rec' with
    | some r => if ln.nv.map.failed.contains (392 + rec') then 0 else frozenWord r (1024 * sec + i)
    | none => 0
  ((List.range 1024).map (fun i => wordBytes (word i))).flatten

/-- The result of a FROZENREAD becomes ready (R476). -/
def Lane.frozenDone (ln : Lane) : Lane :=
  match ln.host.frozen with
  | none => ln
  | some k =>
    let bad := ln.nv.map.failed.contains (392 + arg k 4) && (keyGet ln.nv.frozen (arg k 4)).isSome
    let ln := ln.onIf bad LOG_FSTAT_RERR
    let r := ln.host.frozenRes.complete 0x00 (ln.frozenSector (arg k 4) (arg k 5))
    { ln with host := { ln.host with frozen := none, frozenRes := r } }

/-- ATTEST: accepted, or busy while one is pending. -/
def Lane.hostAttest (ln : Lane) (k : HostCmd) : Lane :=
  ln.takeCmd k 0x0C true true (fun ln =>
    if ln.host.attest.isSome then ln.answer k 0x0C 0x07 []
    else ({ ln with host := { ln.host with attest := some k } }).answer k 0x0C 0x01 [])

/-- The attestation report (R519). -/
def Lane.attestReport (ln : Lane) (k : HostCmd) : List Byte :=
  let cert := if arg k 5 % 2 = 1 then Config.certificate ln.id else []
  let other := ln.nv.img (1 - ln.nv.boot.slot)
  let states := ln.slotState 0 + 16 * ln.slotState 1
  let nonce := (List.range 16).map (fun i => BitVec.ofNat 8 (arg k (8 + i)))
  let head := [1, BitVec.ofNat 8 ln.id.code] ++ leBytes 2 (232 + cert.length) ++ bytes64 (Config.serial ln.id) ++
    digestBytes ln.upd.slotDigest ++ digestBytes ln.upd.cfgDigest ++
    (if other.valid then digestBytes other.digest else List.replicate 32 0) ++
    [BitVec.ofNat 8 ln.upd.level, BitVec.ofNat 8 states] ++ leBytes 2 0 ++ bytes64 ln.lt ++ nonce
  let sig := Config.sm2Sign ln.id head
  head ++ digestBytes (Config.sm3 head) ++ (List.range 64).map (fun i => sig.extractLsb' (8 * (63 - i)) 8) ++ cert

/-- The report becomes ready. -/
def Lane.attestDone (ln : Lane) : Lane :=
  match ln.host.attest with
  | none => ln
  | some k =>
    let r := ln.host.attestRes.complete 0x00 (ln.attestReport k)
    { ln with host := { ln.host with attest := none, attestRes := r } }

/-- Whether an opcode's result is pending, and the last completed one (R475). -/
def Lane.lateOf (ln : Lane) (opc : Nat) : Option (Bool × LateResult) :=
  let s := ln.upd.session
  match opc with
  | 0x0A => some (ln.host.frozen.isSome, ln.host.frozenRes)
  | 0x0C => some (ln.host.attest.isSome, ln.host.attestRes)
  | 0x10 => some ((match s with | some x => !x.erased | none => false), ln.host.openRes)
  | 0x11 => some ((match s with | some x => x.closing | none => false), ln.host.closeRes)
  | _ => none

/-- A fetched result. -/
def Lane.setLate (ln : Lane) (opc : Nat) (r : LateResult) : Lane :=
  match opc with
  | 0x0A => { ln with host := { ln.host with frozenRes := r } }
  | 0x0C => { ln with host := { ln.host with attestRes := r } }
  | 0x10 => { ln with host := { ln.host with openRes := r } }
  | _ => { ln with host := { ln.host with closeRes := r } }

/-- RESULT: the result of a pending command; before it completes, the previous one with RESULT 0x08. -/
def Lane.hostResult (ln : Lane) (k : HostCmd) : Lane :=
  let opc := arg k 4
  ln.takeCmd k 0x0B (ln.lateOf opc).isSome true (fun ln =>
    match ln.lateOf opc with
    | none => ln
    | some (pending, r) =>
      if pending || r.seq == 0 then ln.respond k 0x0B 0x08 false r.seq r.data
      else (ln.setLate opc { r with fresh := false }).respond k 0x0B r.result r.fresh r.seq r.data)

/-- An opcode that is not listed (R470). -/
def Lane.hostUnknown (ln : Lane) (k : HostCmd) : Lane :=
  if ln.handles then ln.clearCan.answer k k.opc.toNat 0x02 [] else ln

/-! ### The commands of the table -/

/-- SUMMARY (R477). -/
def execSummary (l : LaneId) (k : HostCmd) (s : State) : Host.Outcome State Fault Refusal :=
  onLane s l (fun ln => ln.hostSummary k)

/-- MODE (R365, R470). -/
def execMode (l : LaneId) (k : HostCmd) (s : State) : Host.Outcome State Fault Refusal :=
  onLane s l (fun ln => ln.hostMode k)

/-- STOP (R473). -/
def execHostStop (l : LaneId) (k : HostCmd) (s : State) : Host.Outcome State Fault Refusal :=
  onLane s l (fun ln => ln.hostStop k)

/-- RELEASE (R473). -/
def execRelease (l : LaneId) (k : HostCmd) (s : State) : Host.Outcome State Fault Refusal :=
  onLane s l (fun ln => ln.hostRelease k)

/-- CHANNEL (R221, R470). -/
def execChannel (l : LaneId) (k : HostCmd) (s : State) : Host.Outcome State Fault Refusal :=
  onLane s l (fun ln => ln.hostChannel k)

/-- LOOPCMD (R268, R470). -/
def execLoopcmd (l : LaneId) (k : HostCmd) (s : State) : Host.Outcome State Fault Refusal :=
  onLane s l (fun ln => ln.hostLoopcmd k)

/-- SETVAL (R470). -/
def execSetval (l : LaneId) (k : HostCmd) (s : State) : Host.Outcome State Fault Refusal :=
  onLane s l (fun ln => ln.hostSetval k)

/-- CLEAR (R470). -/
def execHostClear (l : LaneId) (k : HostCmd) (s : State) : Host.Outcome State Fault Refusal :=
  onLane s l (fun ln => ln.hostClear k)

/-- LOGREAD (R470). -/
def execLogread (l : LaneId) (k : HostCmd) (s : State) : Host.Outcome State Fault Refusal :=
  onLane s l (fun ln => ln.hostLogread k)

/-- FROZENREAD (R470, R472). -/
def execFrozenread (l : LaneId) (k : HostCmd) (s : State) : Host.Outcome State Fault Refusal :=
  onLane s l (fun ln => ln.hostFrozenread k)

/-- The sector is ready (R475, R476). -/
def execFrozenreadDone (l : LaneId) (s : State) : Host.Outcome State Fault Refusal :=
  onLane s l (fun ln => ln.frozenDone)

/-- RESULT (R475). -/
def execResult (l : LaneId) (k : HostCmd) (s : State) : Host.Outcome State Fault Refusal :=
  onLane s l (fun ln => ln.hostResult k)

/-- ATTEST (R470, R472, R519). -/
def execAttest (l : LaneId) (k : HostCmd) (s : State) : Host.Outcome State Fault Refusal :=
  onLane s l (fun ln => ln.hostAttest k)

/-- The report is ready (R519). -/
def execAttestDone (l : LaneId) (s : State) : Host.Outcome State Fault Refusal :=
  onLane s l (fun ln => ln.attestDone)

/-- An unknown opcode (R470). -/
def execUnknownOpcode (l : LaneId) (k : HostCmd) (s : State) : Host.Outcome State Fault Refusal :=
  onLane s l (fun ln => ln.hostUnknown k)

end Sys2Proof.Machine
end

