-- ==== Sys2Proof/Machine/Update.lean ====
section
/-!
DEFINITION. Update sessions (chapter 18, R505 to R510, R514, R515, R520): the commands 0x10 to 0x17, the assembly of
blocks, the end of an erase and of a verification, and revocation.
-/

namespace Sys2Proof.Machine

open Sys2Proof

/-! ### Targets (R500, R507) -/

/-- The image of a target: the slot not in force, the copy not in force, the revocation buffer. -/
def Lane.targetImage (ln : Lane) (t : Nat) : ImageStore :=
  match t with
  | 0 => ln.nv.img (1 - ln.nv.boot.slot)
  | 1 => ln.nv.cfg (1 - ln.nv.boot.cfg)
  | _ => ln.upd.buffer

/-- Replace it. -/
def Lane.setTarget (ln : Lane) (t : Nat) (im : ImageStore) : Lane :=
  match t with
  | 0 => { ln with nv := ln.nv.setImg (1 - ln.nv.boot.slot) im }
  | 1 => { ln with nv := ln.nv.setCfg (1 - ln.nv.boot.cfg) im }
  | _ => { ln with upd := { ln.upd with buffer := im } }

/-- The logical block and the sector that hold block b of a target; the revocation buffer lies outside the store die. -/
def Lane.targetSector (ln : Lane) (t b : Nat) : Option (Nat × Nat) :=
  match t with
  | 0 => some (192 * (1 - ln.nv.boot.slot) + b / 16, b % 16)
  | 1 => some (384 + 4 * (1 - ln.nv.boot.cfg) + b / 16, b % 16)
  | _ => none

/-- The largest n of a target's kind (R503). -/
def maxBlocks (t : Nat) : Nat := if t = 0 then 3072 else if t = 1 then 64 else 1

/-- A target is no longer pending. -/
def BootRec.unpend (b : BootRec) (t : Nat) : BootRec :=
  let b := { b with rollback := false }
  if t = 0 then { b with pendSlot := false } else if t = 1 then { b with pendCfg := false } else b

/-- Change the boot record. -/
def Lane.setBoot (ln : Lane) (b : BootRec) : Lane := { ln with nv := { ln.nv with boot := b } }.showNv

/-- The modes in which OPEN, ARM, ROLLBACK and REVOKE are permitted. -/
def updateMode (m : Nat) : Bool :=
  m == modeStandby || m == modeArmed || m == modeService || m == modeRun3 || m == modeRun2

/-- An update command: the lane that ARG names acts, the others answer RESULT 0x00. -/
def Lane.takeUpdate (ln : Lane) (k : HostCmd) (opc : Nat) (argsOk modeOk : Bool) (f : Lane → Lane) : Lane :=
  if arg k 4 = ln.id.code then ln.takeCmd k opc argsOk modeOk f
  else ln.takeCmd k opc (decide (1 ≤ arg k 4 ∧ arg k 4 ≤ 3)) true (fun ln => ln.done k opc [])

/-- UPD_STAT completes with a RES code. -/
def Lane.publishUpd (ln : Lane) (res : Nat) : Lane := ln.publish UPD_STAT res []

/-! ### OPEN, chunks and CLOSE (R507 to R509) -/

/-- OPEN: the target is cleared and its erase begins. -/
def Lane.hostOpen (ln : Lane) (k : HostCmd) : Lane :=
  let t := arg k 5
  let n := arg k 8 + 256 * arg k 9
  ln.takeUpdate k 0x10 (decide (t ≤ 2 ∧ 1 ≤ n ∧ n ≤ maxBlocks t)) (updateMode ln.modeNow) (fun ln =>
    let ln := (ln.setTarget t .empty).setBoot (ln.nv.boot.unpend t)
    let s : Session := ⟨t, BitVec.ofNat 8 (arg k 6), n, argWord k 12, false, false⟩
    let ln := { ln with upd := { ln.upd with session := some s, assembling := [] } }.put UPD_STAT_SESS 1
    ln.answer k 0x10 0x01 [])

/-- The erase of OPEN ends. -/
def Lane.openErased (ln : Lane) : Lane :=
  match ln.upd.session with
  | none => ln
  | some s =>
    if s.erased then ln
    else
      let blks := (List.range ((s.n + 15) / 16)).filterMap (fun b => (ln.targetSector s.target (16 * b)).map (fun x => x.1))
      let ln := blks.foldl (fun ln b => ln.eraseDone b true) ln
      let ln := { ln with
        upd := { ln.upd with session := some { s with erased := true } }
        host := { ln.host with openRes := ln.host.openRes.complete 0x00 [] } }
      ln.publishUpd 1

/-- The 4,096 bytes of a block once every chunk has come: the pieces by their offset. -/
def assembled (l : List (Nat × List Byte)) : Option (List Byte) :=
  let cell (i : Nat) : Option (List Byte) :=
    (l.find? (fun x => decide (x.1 ≤ 64 * i ∧ 64 * i + 64 ≤ x.1 + x.2.length))).map (fun x => (x.2.drop (64 * i - x.1)).take 64)
  let cells := (List.range 64).map cell
  if cells.all (fun x => x.isSome) then some ((cells.filterMap (fun x => x)).flatten) else none

/-- Block b is refused (R508). -/
def Lane.refuseBlock (ln : Lane) (b : Nat) : Lane :=
  let ln := { ln with upd := { ln.upd with blkEvent := true } }
  ln.put UPD_STAT_LASTBAD b

/-- A complete block is accepted and programmed, or refused. -/
def Lane.takeBlockData (ln : Lane) (s : Session) (b : Nat) (d : List Byte) : Lane :=
  let place := ln.targetSector s.target b
  let gone := match place with
    | some x => ln.nv.map.failed.contains x.1
    | none => false
  if !blockOk d || gone then ln.refuseBlock b
  else
    let im := ln.targetImage s.target
    let ln := ln.setTarget s.target { im with blocks := keyPut im.blocks b d }
    let ln := match place with
      | some x => ln.programSector x.1 x.2 (crc32c d) true
      | none => ln
    { ln with upd := { ln.upd with blkEvent := true } }

/-- A chunk reaches the update engine (R508). -/
def Lane.chunk (ln : Lane) (c : Chunk) : Lane :=
  match ln.upd.session with
  | none => ln
  | some s =>
    let len := c.data.length
    let shape := (len == 64 && decide (c.chunk < 64)) || (len == 1024 && decide (c.chunk < 4))
    if c.sid != s.sid || !s.erased || !shape || decide (s.n ≤ c.block) then ln
    else if (keyGet (ln.targetImage s.target).blocks c.block).isSome then
      { ln with upd := { ln.upd with dups := ln.upd.dups + 1 } }
    else
      let old := ln.upd.assembling
      let got := keyPut ((keyGet old c.block).getD []) (c.chunk * len) c.data
      match assembled got with
      | some d => ({ ln with upd := { ln.upd with assembling := keyDrop old c.block } }).takeBlockData s c.block d
      | none =>
        let known := (keyGet old c.block).isSome
        let old := if !known && decide (4 ≤ old.length) then old.drop 1 else old
        let next := if known then old.map (fun x => if x.1 = c.block then (x.1, got) else x) else old ++ [(c.block, got)]
        { ln with upd := { ln.upd with assembling := next } }

/-- The session that a command names by its SID, its erase done. -/
def Lane.sessionOf (ln : Lane) (sid : Nat) : Option Session :=
  match ln.upd.session with
  | some s => if s.sid.toNat = sid && s.erased then some s else none
  | none => none

/-- CLOSE: verification begins. -/
def Lane.hostClose (ln : Lane) (k : HostCmd) : Lane :=
  ln.takeUpdate k 0x11 true true (fun ln =>
    match ln.sessionOf (arg k 6) with
    | some s =>
      ({ ln with upd := { ln.upd with session := some { s with closing := true } } }).answer k 0x11 0x01 []
    | none => ln.answer k 0x11 0x06 [])

/-- The level or format demand of R509. -/
def Lane.fits (ln : Lane) (t : Nat) (im : ImageStore) : Bool :=
  let fw := ln.nv.img ln.nv.boot.slot
  let level := leAt im.header 6 1
  match t with
  | 0 =>
    (LaneId.all.filter (fun l => ln.runsFor l)).all (fun l =>
      let v := if l = ln.id then ln.upd.level else (ln.agr.vec.get l).level
      decide (level ≤ v + 1 ∧ v ≤ level + 1)) && im.reaches (ln.nv.cfg ln.nv.boot.cfg).cfgVersion
  | 1 => im.cfgVersion == fw.cfgVersion
  | _ => true

/-- The RES code of a verification (R504, R509): a missing block counts as CRC, a header that differs from OPEN as
field. -/
def Lane.verify (ln : Lane) (s : Session) : Nat :=
  let im := ln.targetImage s.target
  if !(List.range s.n).all (fun b => (keyGet im.blocks b).isSome) then 2
  else
    let r := im.result (s.target + 1) ln.nv.keys
    if r != 0 then r
    else if im.n != s.n || BitVec.ofNat 32 (leAt im.header 8 4) != s.version then 5
    else if !ln.fits s.target im then 6
    else 0

/-- The verification of CLOSE ends (R509). -/
def Lane.closeVerified (ln : Lane) : Lane :=
  match ln.upd.session with
  | none => ln
  | some s =>
    if !s.closing then ln
    else
      let res := ln.verify s
      let late := ln.host.closeRes.complete (if res = 0 then 0x00 else 0x05) []
      let ln := { ln with host := { ln.host with closeRes := late } }
      let ln := if res = 0 then (ln.setTarget s.target { ln.targetImage s.target with valid := true }).endSession
        else { ln with upd := { ln.upd with session := some { s with closing := false } } }
      ln.publishUpd res

/-! ### ARM, ABORT, COMMIT, ROLLBACK, STATUS, REVOKE (R506, R507, R510, R514, R515) -/

/-- A trial runs in some lane (R510). -/
def Lane.someTrial (ln : Lane) : Bool :=
  ln.nv.boot.trial || LaneId.all.any (fun l => l != ln.id && (ln.agr.vec.get l).trial)

/-- ARM: the verified target becomes pending. -/
def Lane.hostArm (ln : Lane) (k : HostCmd) : Lane :=
  let t := arg k 5
  ln.takeUpdate k 0x12 (decide (t ≤ 1)) (updateMode ln.modeNow) (fun ln =>
    if ln.someTrial then ln.answer k 0x12 0x06 []
    else if !(ln.targetImage t).valid then ln.answer k 0x12 0x05 []
    else
      let b := { ln.nv.boot with rollback := false }
      (ln.setBoot (if t = 0 then { b with pendSlot := true } else { b with pendCfg := true })).done k 0x12 [])

/-- ABORT: the session ends, its target is invalid, nothing is pending. -/
def Lane.hostAbort (ln : Lane) (k : HostCmd) : Lane :=
  ln.takeUpdate k 0x13 true true (fun ln =>
    let ln := match ln.upd.session with
      | some s => ln.setTarget s.target { ln.targetImage s.target with valid := false }
      | none => ln
    ((ln.endSession).setBoot ((ln.nv.boot.unpend 0).unpend 1)).done k 0x13 [])

/-- COMMIT: a migrated copy is committed, the previous copy superseded; a second one changes nothing. -/
def Lane.hostCommit (ln : Lane) (k : HostCmd) : Lane :=
  ln.takeUpdate k 0x14 true true (fun ln =>
    let b := ln.nv.boot
    let ln := if b.uncommitted then ln.setBoot { b with uncommitted := false, superseded := true } else ln
    ln.done k 0x14 [])

/-- ROLLBACK: the previous slot and copy become pending. -/
def Lane.hostRollback (ln : Lane) (k : HostCmd) : Lane :=
  ln.takeUpdate k 0x15 true (updateMode ln.modeNow) (fun ln =>
    let b := ln.nv.boot
    if (ln.nv.img b.prevSlot).valid && !b.superseded then
      (ln.setBoot { b with
        rollback := true, pendSlot := b.prevSlot != b.slot, pendCfg := b.prevCfg != b.cfg }).done k 0x15 []
    else ln.answer k 0x15 0x05 [])

/-- UPD_STAT as a read would show it, not acknowledged. -/
def Lane.updStat (ln : Lane) : Word :=
  let m := rtaMask UPD_STAT
  (ln.rd UPD_STAT &&& ~~~m) ||| (rfGet ln.pub UPD_STAT &&& m)

/-- STATUS: the three registers, the count of accepted blocks and up to 48 missing block indices, little-endian. -/
def Lane.hostStatus (ln : Lane) (k : HostCmd) : Lane :=
  ln.takeUpdate k 0x16 true true (fun ln =>
    let (have', missing) : Nat × List Nat := match ln.upd.session with
      | some s =>
        let im := ln.targetImage s.target
        (im.blocks.length, ((List.range s.n).filter (fun b => (keyGet im.blocks b).isNone)).take 48)
      | none => (0, [])
    ln.done k 0x16 (wordBytes ln.updStat ++ ln.regBytes UPD_BOOT ++ ln.regBytes UPD_KEYS ++ leBytes 2 have' ++
      (missing.map (leBytes 2)).flatten))

/-- Whether the revocation buffer takes effect (R506), and the key slot that it revokes. -/
def Lane.revocation (ln : Lane) : Option Nat :=
  let im := ln.upd.buffer
  let key := leAt im.header 184 1
  let alive (k : Nat) : Bool := let s := vget ln.nv.keys k ⟨0, false, false⟩; s.prog && !s.revoked
  if im.valid && im.result 3 ln.nv.keys == 0 && im.keySlot ln.nv.keys != some key &&
      (List.range 4).any (fun k => k != key && alive k) then some key
  else none

/-- A key slot is revoked: the slot not in force loses its valid state when its image is signed by that key. -/
def Lane.revoke (ln : Lane) (key : Nat) : Lane :=
  let other := 1 - ln.nv.boot.slot
  let im := ln.nv.img other
  let signed := im.keySlot ln.nv.keys == some key
  let nv := { ln.nv with keys := vmod ln.nv.keys key (fun s => { s with revoked := true }) }
  let nv := if signed then nv.setImg other { im with valid := false } else nv
  { ln with nv := nv }.showNv

/-- REVOKE. -/
def Lane.hostRevoke (ln : Lane) (k : HostCmd) : Lane :=
  ln.takeUpdate k 0x17 true (updateMode ln.modeNow) (fun ln =>
    match ln.revocation with
    | some key => (ln.revoke key).done k 0x17 []
    | none => ln.answer k 0x17 0x06 [])

/-- UPD_STAT is read: it latches, and the block event ends (R520). -/
def Lane.readUpdStat (ln : Lane) : Word × Lane :=
  ({ ln with upd := { ln.upd with blkEvent := false } }).latch UPD_STAT []

/-! ### The commands of the table -/

/-- OPEN (R507). -/
def execOpenSession (l : LaneId) (k : HostCmd) (s : State) : Host.Outcome State Fault Refusal :=
  onLane s l (fun ln => ln.hostOpen k)

/-- The erase of OPEN ends (R507). -/
def execOpenEraseDone (l : LaneId) (s : State) : Host.Outcome State Fault Refusal :=
  onLane s l (fun ln => ln.openErased)

/-- CLOSE (R507). -/
def execCloseSession (l : LaneId) (k : HostCmd) (s : State) : Host.Outcome State Fault Refusal :=
  onLane s l (fun ln => ln.hostClose k)

/-- The verification of CLOSE ends (R509). -/
def execCloseVerifyDone (l : LaneId) (s : State) : Host.Outcome State Fault Refusal :=
  onLane s l (fun ln => ln.closeVerified)

/-- ARM (R507, R510). -/
def execArm (l : LaneId) (k : HostCmd) (s : State) : Host.Outcome State Fault Refusal :=
  onLane s l (fun ln => ln.hostArm k)

/-- ABORT (R507). -/
def execAbort (l : LaneId) (k : HostCmd) (s : State) : Host.Outcome State Fault Refusal :=
  onLane s l (fun ln => ln.hostAbort k)

/-- COMMIT (R514). -/
def execCommit (l : LaneId) (k : HostCmd) (s : State) : Host.Outcome State Fault Refusal :=
  onLane s l (fun ln => ln.hostCommit k)

/-- ROLLBACK (R515). -/
def execRollback (l : LaneId) (k : HostCmd) (s : State) : Host.Outcome State Fault Refusal :=
  onLane s l (fun ln => ln.hostRollback k)

/-- STATUS (R507). -/
def execStatus (l : LaneId) (k : HostCmd) (s : State) : Host.Outcome State Fault Refusal :=
  onLane s l (fun ln => ln.hostStatus k)

/-- REVOKE (R506). -/
def execRevoke (l : LaneId) (k : HostCmd) (s : State) : Host.Outcome State Fault Refusal :=
  onLane s l (fun ln => ln.hostRevoke k)

/-- A chunk of an image block arrives (R508). -/
def execUpdateChunk (l : LaneId) (c : Chunk) (s : State) : Host.Outcome State Fault Refusal :=
  onLane s l (fun ln => if ln.handles then ln.chunk c else ln)

/-- UPD_STAT is read (R520). -/
def execUpdStatRead (l : LaneId) (s : State) : Host.Outcome State Fault Refusal :=
  readLane s l (fun ln => ln.readUpdStat)

end Sys2Proof.Machine
end

