-- ==== Sys2Proof/Machine/Frame.lean ====
section
/-!
DEFINITION. What a control frame start and a PWM period start do in a lane, in order (R45 to R47, R109, R126, R155,
R203, R209, R255, R322, R368): the units' own effects are in their files.
-/

namespace Sys2Proof.Machine

open Sys2Proof

/-! ### Steps in order -/

/-- Effects one after another; once the lane has left its released state, none of the later ones comes about. -/
def Lane.inOrder (ln : Lane) (fs : List (Lane → Lane)) : Lane := fs.foldl (fun ln f => if ln.locked then f ln else ln) ln

/-! ### Lane time at a control frame start (R45, R317, R323, R449) -/

/-- Lane time moves by so many units; network time stands still (R449). -/
def Lane.moveTime (ln : Lane) (d : Int) : Lane :=
  { ln with lt := ln.lt + BitVec.ofInt 64 d }.setNofs (ln.lay.nofs - d)

/-- The modes in which the first synchronisation sets lane time in one jump (R45). -/
def jumpMode (m : Nat) : Bool := m == modeInit || m == modeStarttest || m == modeStandby

/-- Lane time follows its neighbours and the agreed Lay correction: in one jump at the first synchronisation, else by at
most 100 ppm of the frame. -/
def Lane.slewTime (ln : Lane) : Lane :=
  let c := ln.agr.layAgreed
  let first := !ln.pace.synced && c.isSome
  let ln := if first then { ln with pace := { ln.pace with synced := true } } else ln
  if first && jumpMode ln.modeNow then ((ln.moveTime (c.getD 0)).speedJump)
  else
    let lim : Int := ln.frameUnits / 10000
    let d := clampI (ln.rj.slew + c.getD 0) (-lim) lim
    if d = 0 then ln else { ln with rj := { ln.rj with slew := ln.rj.slew - clampI ln.rj.slew (-lim) lim } }.moveTime d

/-! ### The rest of a frame start -/

/-- The lane's time stands at its next control frame start (R46). -/
def Lane.atFrame (ln : Lane) : Lane :=
  let t := ln.nextFrame
  let ln := ln.at t
  { ln with pace := { ln.pace with lastFrame := some t } }

/-- The helm's tally window is open: the first opens at release, a later one with its first instruction (R300). -/
def HelmUnit.windowOpen (h : HelmUnit) : Bool := h.win == 0 || h.count != 0

/-- Source 6 (R109), and the request that an open tally window close now (R305). -/
def Lane.flagFrame (ln : Lane) : Lane :=
  let ln := (ln.onIf (ln.is TIME_CSTAT_FRM) TIME_CSTAT_FRMOV).on TIME_CSTAT_FRM
  { ln with helm := { ln.helm with frameSince := ln.helm.frameSince || ln.helm.windowOpen } }

/-- The filtered safety inputs as both copies capture them (R308). -/
def Lane.showSafein (ln : Lane) : Lane := ln.put LCTL_SAFEIN_IN (ln.get STOP_IN_FILT)

/-- Echo outputs take a written configuration (R194). -/
def Lane.frameEcho (ln : Lane) : Lane := (ln.echoConfig 0 ln.lt).echoConfig 1 ln.lt

/-- The loop unit evaluates in the modes of R258. -/
def Lane.frameLoop (ln : Lane) : Lane := if isDriveMode ln.modeNow then ln.evalLoop else ln

/-- Sources of shared quantities whose captures differ have an input fault (R310): word `k` is named by 224 + k. -/
def Lane.sourceFaults (bad : List Nat) (ln : Lane) : Lane :=
  (List.range 32).foldl (fun ln k =>
    if bad.contains (224 + k) then ln.inputFault (224 + k)
    else { ln with comm := { ln.comm with faults := keyDrop ln.comm.faults (224 + k) } }) ln

/-- Votes without an outcome are counted off (R553). -/
def Lane.countNoVote (ln : Lane) : Lane := { ln with rj := { ln.rj with noVote := ln.rj.noVote - 1 } }

/-- A control frame start of a released lane; `bad` names the words whose captures differ (R310). -/
def Lane.frameStart (ln : Lane) (bad : List Nat) : Lane :=
  let was := ln.rj.wHolds
  let cut := ln.nextFrame - BitVec.ofNat 64 ln.cutLead
  let old := ln.agr.xang
  ln.inOrder [
    Lane.atFrame, Lane.clearCan, Lane.showWdn, Lane.endHold, Lane.installValues, fun ln => ln.installVectors was,
    fun ln => ln.recordHistory cut, Lane.takeRates, Lane.slewTime, Lane.judgePace, Lane.flagFrame, Lane.showSafein,
    Lane.moveStaging, Lane.endOverrides, Lane.stageDue, Lane.judgeModesHost, Lane.showCompat,
    fun ln => ln.frameR old, Lane.planFrame, Lane.answerChannels, Lane.frameComm,
    fun ln => ln.refreshFrame bad,
    Lane.answerLoops, Lane.applyLoopCmds, Lane.frameLoop, Lane.sendLoop, fun ln => ln.ssiTriggers 1 ln.lt,
    Lane.frameEcho, Lane.trackFrame, Lane.captureSummary, Lane.judgeNetwork, Lane.trackDtcs, Lane.sourceFaults bad,
    Lane.clearRounds, Lane.countNoVote, Lane.pump]

/-- A control frame start: the lane in UPDATE restarts instead, and a lane that is not released only keeps time. -/
def Lane.controlFrame (ln : Lane) (bad : List Nat) : Lane :=
  if !ln.locked || ln.mode.sleep == .asleep then ln.atFrame
  else if ln.modeNow = modeUpdate then ln.atFrame.restart
  else ln.frameStart bad

/-! ### A PWM period start -/

/-- The lane's time stands at its next PWM period start (R46). -/
def Lane.atPeriod (ln : Lane) : Lane :=
  let t := ln.nextPwm
  let ln := ln.at t
  { ln with pace := { ln.pace with lastPwm := some t }, brdg := { ln.brdg with periodIdx := (ln.brdg.periodIdx + 1) % 4294967296 } }

/-- Source 7 (R109). -/
def Lane.flagPeriod (ln : Lane) : Lane := (ln.onIf (ln.is TIME_CSTAT_PER) TIME_CSTAT_PEROV).on TIME_CSTAT_PER

/-- The observer angles of the channel commands taken at the shadow load: COMM_ANG, and the echo outputs that follow
one (R189). -/
def Lane.showAngles (ln : Lane) : Lane :=
  let ln := (List.range 6).foldl (fun ln c =>
    let w := (ln.chD c).taken.chan
    (ln.put (COMM_ANG_ANGLE c) (chanAngle w)).putB (COMM_ANG_AVALID c) (chanAvalid w)) ln
  [0, 1].foldl (fun ln k =>
    let src := bits (ln.echoU k).cfg 5 1
    if 18 ≤ src ∧ src < 24 then (ln.echoTake k ln.lt).echoFollow k ln.lt else ln) ln

/-- A PWM period start: the shadow load, the drive pair, the agreed inputs and what the kernel publishes. -/
def Lane.pwmStart (ln : Lane) (obs : List KernelObs) (bad : List Nat) : Lane :=
  if !ln.locked || ln.mode.sleep == .asleep then ln.atPeriod
  else
    ln.inOrder [
      Lane.atPeriod, Lane.shadowLoad, Lane.showAngles, Lane.drivePeriod,
      fun ln => ln.refreshPwm bad ln.nextPwm, fun ln => (List.range 6).foldl Lane.deficitCount ln, Lane.flagPeriod,
      fun ln => ln.speedWindows ln.brdg.periodIdx ln.lt, fun ln => ln.ssiTriggers 0 ln.lt,
      fun ln => obs.foldl Lane.kernelTake ln, Lane.shadowPeriod]

/-! ### The commands of the table -/

/-- A control frame begins (R46, R47). -/
def execControlFrameStart (l : LaneId) (bad : List Nat) (s : State) : Host.Outcome State Fault Refusal :=
  .next ((s.setLane l ((s.lane l).controlFrame bad)).gates)

/-- A PWM period begins (R47). -/
def execPwmPeriodStart (l : LaneId) (obs : List KernelObs) (bad : List Nat) (s : State) : Host.Outcome State Fault Refusal :=
  onLane s l (fun ln => ln.pwmStart obs bad)

end Sys2Proof.Machine
end

