-- ==== Sys2Proof/Machine/RegAccess.lean ====
section
/-!
DEFINITION. Reads and writes of the peripheral registers by the helm (R10, R98 to R101, R108, R467): the plain access of
each code and, for a register whose access does more, its chapter's effect. Also the test port's instruction (R541).
-/

namespace Sys2Proof.Machine

open Sys2Proof

/-! ### Pending interrupt sources (R107 to R109) -/

/-- The twenty-one sources, in order. -/
def Lane.irqSources (ln : Lane) : List Bool :=
  [ln.is STOP_HB_OUT, ln.irqCmd, ln.irqVote, ln.irqSplice, ln.irqBrdg, ln.irqComm, ln.is TIME_CSTAT_FRM,
    ln.is TIME_CSTAT_PER, ln.irqLayFrame, ln.irqPos, ln.irqLoop, ln.irqSect, ln.is LCTL_MBSTAT_PUB, ln.irqLay,
    ln.irqCan, ln.irqGnss, ln.irqMem, ln.irqPwr, ln.irqWear, ln.irqUpd, ln.irqTime]

/-- The word of a list of flags, the first in bit 0. -/
def flagWord (l : List Bool) : Word := l.foldr (fun b w => (w <<< 1) ||| BitVec.ofNat 32 (b2n b)) 0

/-- LCTL_IRQ_PEND. -/
def Lane.irqPend (ln : Lane) : Word := flagWord ln.irqSources

/-! ### Reads of registers that are held once per lane -/

/-- A read without an effect. -/
def Lane.plainRead (ln : Lane) (row : RegRow) (a : Reg) : Word × Lane := (accessRead row (ln.rd a), ln)

/-- The log line's loss flag ends at this read (log 15). -/
def Lane.seenLost (ln : Lane) : Lane := { ln with log := { ln.log with lostRise := false } }

/-- Reads with an effect or a computed value, by register: POS results. -/
def Lane.readPos (ln : Lane) (row : RegRow) (a : Reg) : Word × Lane :=
  match (List.range 16).find? (fun k => a == POS_SR_STAT k), (List.range 2).find? (fun m => a == POS_SS_STAT m) with
  | some k, _ => ln.latch (POS_SR_STAT k) [POS_SR_SPDL k, POS_SR_SPDH k, POS_SR_TEND k]
  | none, some m => ln.latch (POS_SS_STAT m) [POS_SS_POS m, POS_SS_TS m]
  | none, none => ln.plainRead row a

/-- Lay results and queues. -/
def Lane.readLay (ln : Lane) (row : RegRow) (a : Reg) : Word × Lane :=
  if a = LAY_YQSTAT then ln.readYqstat
  else if a = LAY_YQDATA then ln.readYqdata
  else if a = LAY_CQSTAT then ln.readCqstat
  else match (List.range 64).find? (fun b => a == LAY_RXSTAT b) with
    | some b => ln.readRxstat b
    | none => ln.plainRead row a

/-- TALLY results; TALLY_AGDATA beyond the agreed state is a bus error (R335). -/
def Lane.readTally (ln : Lane) (row : RegRow) (a : Reg) : Option (Word × Lane) :=
  if a = TALLY_VSTAT then some (ln.latch TALLY_VSTAT ((List.range 4).map TALLY_VTAL))
  else if a = TALLY_SCK then some (ln.latch TALLY_SCK [])
  else if a = TALLY_AGDATA then (if ln.zWords ≤ ln.get TALLY_AGIDX_IDX then none else some (ln.agAccess none))
  else if a = TALLY_HDATA then some ln.readHistory
  else some (ln.plainRead row a)

/-- MEM: the selected table entry and fuse words. -/
def Lane.readMemReg (ln : Lane) (row : RegRow) (a : Reg) : Word × Lane :=
  if a = MEM_CEENT then (ln.ceentWord, ln)
  else match (List.range 9).find? (fun m => a == MEM_FUSE m) with
    | some m => (ln.fuseWord m, ln)
    | none => ln.plainRead row a

/-- WEAR and LOG. -/
def Lane.readLog (ln : Lane) (row : RegRow) (a : Reg) : Word × Lane :=
  if a = LOG_RDATA then ln.readRdata
  else if a = LOG_FDATA then ln.readFdata
  else if a = LOG_LOST ∨ a = LOG_FSTAT then ln.seenLost.plainRead row a
  else ln.plainRead row a

/-- The remaining blocks. -/
def Lane.readOther (ln : Lane) (row : RegRow) (a : Reg) : Word × Lane :=
  if a = LCTL_IRQ_PEND then (ln.irqPend, ln)
  else if a = LCTL_BISTSTAT then ln.latch LCTL_BISTSTAT [LCTL_BISTCOV, LCTL_BISTDUR]
  else if a = TIME_NOW_LO then ln.readNowLo
  else if a = CAN_GSSTAT then ln.latch CAN_GSSTAT [CAN_GSPD, CAN_GDIST]
  else if a = GNSS_STAT then ln.latch GNSS_STAT gnssRegs
  else if a = UPD_STAT then ln.readUpdStat
  else ln.plainRead row a

/-- The block of an offset (R97). -/
def blockOf (a : Reg) : Nat := a / 65536

/-- A read of a single per-lane register: the word with its read effect (R99); none is a bus error (R101). -/
def Lane.readSingle (ln : Lane) (a : Reg) : Option (Word × Lane) :=
  match regRow a with
  | none => none
  | some row => match blockOf a with
    | 2 => ln.readTally row a
    | 4 => some (ln.readPos row a)
    | 9 => some (ln.readLay row a)
    | 13 => some (ln.readMemReg row a)
    | 15 => some (ln.readLog row a)
    | _ => some (ln.readOther row a)

/-! ### Reads of registers that are held once per copy (R98) -/

/-- Both copies read their own instance. -/
def Lane.readCopyReg (ln : Lane) (row : RegRow) (a : Reg) : Pair Word × Lane :=
  if a = LOOP_RSTAT then ln.latchBoth LOOP_RSTAT loopResultRegs
  else if a = LOOP_CAPSTAT then ln.latchBoth LOOP_CAPSTAT []
  else if a = LOOP_CAPDATA then ln.readCapdata
  else if a = SECT_ESTAT then ln.latchBoth SECT_ESTAT [SECT_EE, SECT_EN, SECT_EH]
  else (⟨accessRead row (ln.crd .p a), accessRead row (ln.crd .s a)⟩, ln)

/-- A word read of a peripheral register by both copies at one address; none is a bus error. -/
def Lane.regRead (ln : Lane) (a : Reg) : Option (Pair Word × Lane) :=
  match regRow a with
  | none => none
  | some row =>
    if row.copy then some (ln.readCopyReg row a) else (ln.readSingle a).map (fun r => (⟨r.1, r.1⟩, r.2))

/-! ### Writes -/

/-- A write to LK fields after configuration lock is discarded and recorded (R10, R432). -/
def Lane.lockedEvent (ln : Lane) (row : RegRow) (a : Reg) : Lane :=
  if ln.locked && row.lk != 0 then ln.logE 0x13 0 (0x40000000 + a) 0 else ln

/-- A write by the access codes alone. -/
def Lane.plainWrite (ln : Lane) (row : RegRow) (a : Reg) (v : Word) : Lane :=
  (ln.wr a (accessWrite row ln.locked (ln.rd a) v)).lockedEvent row a

/-- LCTL. -/
def Lane.writeLctl (ln : Lane) (row : RegRow) (a : Reg) (v : Word) : Lane :=
  if a = LCTL_MODEREQ then ln.writeModereq v
  else if a = LCTL_HBRESP then ln.heartbeatAnswer v ln.lt
  else if a = LCTL_GTACK then (if bit v 0 then { ln with mode := { ln.mode with gtack := true } } else ln)
  else ln.plainWrite row a v

/-- TIME and PACE. -/
def Lane.writeTime (ln : Lane) (row : RegRow) (a : Reg) (v : Word) : Lane :=
  if a = TIME_CMPHI then ln.writeCmphi v
  else if a = PACE_CTL then ln.writePaceCtl v
  else if a = PACE_RATE then ln.writePaceRate v
  else ln.plainWrite row a v

/-- TALLY. -/
def Lane.writeTally (ln : Lane) (row : RegRow) (a : Reg) (v : Word) : Option Lane :=
  if a = TALLY_AGDATA then
    (if ln.zWords ≤ ln.get TALLY_AGIDX_IDX then none else some (ln.agAccess (some v)).2)
  else some (ln.plainWrite row a v)

/-- BRDG. -/
def Lane.writeBrdg (ln : Lane) (row : RegRow) (a : Reg) (v : Word) : Lane :=
  if a = BRDG_SCCLR then ln.writeScclr (v.setWidth 18) ln.belowTrip
  else if a = BRDG_CHCLR then ln.writeChclr v ln.brdg.chopMa
  else ln.plainWrite row a v

/-- LAY. -/
def Lane.writeLay (ln : Lane) (row : RegRow) (a : Reg) (v : Word) : Lane :=
  if a = LAY_CTL then ln.transmitOn v
  else if a = LAY_YQACK then ln.yqAck v
  else if a = LAY_CQACK then ln.cqAck v
  else match (List.range 64).find? (fun b => a == LAY_TXCTL b), (List.range 2).find? (fun b => a == LAY_YTXCTL b) with
    | some b, _ => ln.commitBuffer b v
    | none, some b => ln.commitBuffer (64 + b) v
    | none, none => ln.plainWrite row a v

/-- MEM. -/
def Lane.writeMemReg (ln : Lane) (row : RegRow) (a : Reg) (v : Word) : Lane :=
  if a = MEM_CBTEST then ln.writeCbtest v
  else if a = MEM_CBGEN then ln.writeCbgen v
  else ln.plainWrite row a v

/-- WEAR and LOG. -/
def Lane.writeLog (ln : Lane) (row : RegRow) (a : Reg) (v : Word) : Lane :=
  if a = WEAR_CMD then ln.writeWearCmd v
  else if a = LOG_RSEL then ln.writeRsel v
  else if a = LOG_USER then ln.logE 0xF0 v 0 0
  else ln.plainWrite row a v

/-- A write to a single per-lane register; none is a bus error: in the STOP block (R101), beyond the agreed state
(R335), and where no register exists (log 28). -/
def Lane.writeSingle (ln : Lane) (a : Reg) (v : Word) : Option Lane :=
  match regRow a with
  | none => none
  | some row => match blockOf a with
    | 0 => some (ln.writeLctl row a v)
    | 1 => some (ln.writeTime row a v)
    | 2 => ln.writeTally row a v
    | 4 => some (if a = POS_CMD then ln.writePosCmd v else ln.plainWrite row a v)
    | 5 => some (if a = COMM_CMD then ln.writeCommCmd v else ln.plainWrite row a v)
    | 6 => some (ln.writeBrdg row a v)
    | 9 => some (ln.writeLay row a v)
    | 12 => none
    | 13 => some (ln.writeMemReg row a v)
    | 14 => some (if a = PWR_DOMCTL then ln.writeDomctl v else ln.plainWrite row a v)
    | 15 => some (ln.writeLog row a v)
    | _ => some (ln.plainWrite row a v)

/-- A copy's loop unit takes a store into its staging set (R126). -/
def Lane.stageWord (ln : Lane) (c : Copy) (a : Reg) (v : Word) : Lane :=
  let f (l : LoopCopy) : LoopCopy := { l with stage := keyPut l.stage a v }
  { ln with loop := match c with | .p => { ln.loop with p := f ln.loop.p } | .s => { ln.loop with s := f ln.loop.s } }

/-- A store of one copy to its own instance of a per-copy register. -/
def Lane.writeCopyReg (ln : Lane) (c : Copy) (row : RegRow) (a : Reg) (v : Word) : Lane :=
  if a = LOOP_CMD then ln.writeLoopCmd c v
  else if row.staged then ln.stageWord c a (v &&& row.rw)
  else
    let ln := ln.cwr c a (accessWrite row ln.locked (ln.crd c a) v)
    match c with
    | .p => ln.lockedEvent row a
    | .s => ln

/-- The section output whose record a store commits. -/
def nxtOf (a : Reg) : Option Nat := (List.range 48).find? (fun j => a == SECT_NXT_C j)

/-- One word written by both copies to a register; none is a bus error. -/
def Lane.regWrite (ln : Lane) (a : Reg) (v : Word) : Option Lane :=
  match regRow a with
  | none => none
  | some row =>
    if row.copy then
      match nxtOf a with
      | some j => some (ln.commitRec j v)
      | none => some ((ln.writeCopyReg .p row a v).writeCopyReg .s row a v)
    else ln.writeSingle a v

/-! ### The commands of the table -/

/-- A write to a register (R10): both copies' store reaches it; one that is refused changes nothing. The address is
the lane's map address (R97). -/
def execRegisterWrite (l : LaneId) (addr v : Word) (s : State) : Host.Outcome State Fault Refusal :=
  onLane s l (fun ln =>
    if addr.toNat < 0x40000000 then ln else (ln.regWrite (addr.toNat - 0x40000000) v).getD ln)

/-- Whether the test port takes EXTEST (R541). -/
def Lane.extestOk (ln : Lane) : Bool := ln.modeNow == modeInit || ln.modeNow == modeShutdown

/-- An instruction is loaded on the test port (R541). -/
def execBoundaryScanInstruction (l : LaneId) (i : JtagInstr) (s : State) : Host.Outcome State Fault Refusal :=
  onLane s l (fun ln => { ln with jtag := if i == .extest && !ln.extestOk then .bypass else i })

end Sys2Proof.Machine
end

