-- ==== Sys2Proof/Machine/HelmPair.lean ====
section
/-!
DEFINITION. The helm pair: what holds at an instruction boundary, issue through the joint gate, retirement, exception
entry, posted stores, the tally window's close and the output hold queue (R73, R76, R86 to R89, R93 to R121, R300 to
R307, R389, R546, R547, R554).
-/

namespace Sys2Proof.Machine

open Sys2Proof

/-! ### Both copies -/

/-- Change both helm copies. -/
def Lane.mapHelm (ln : Lane) (f : HelmCopy → HelmCopy) : Lane := { ln with helm := { ln.helm with c := ln.helm.c.map f } }

/-- Replace both helm copies. -/
def Lane.setHelm (ln : Lane) (c : Pair HelmCopy) : Lane := { ln with helm := { ln.helm with c := c } }

/-- Change one helm copy. -/
def Lane.modHelm (ln : Lane) (k : Copy) (f : HelmCopy → HelmCopy) : Lane :=
  match k with
  | .p => ln.setHelm { ln.helm.c with p := f ln.helm.c.p }
  | .s => ln.setHelm { ln.helm.c with s := f ln.helm.c.s }

/-- The pair issues: neither stopped by a fault nor waiting. -/
def Lane.helmRuns (ln : Lane) : Bool := ln.helm.run == .running

/-! ### Exception entry (R93, R94, R113, R114, R546) -/

/-- The vector of a cause in one copy. -/
def HelmCopy.vector (c : HelmCopy) (code : Nat) : Word := (c.vbase &&& 0xFFFFF000) + BitVec.ofNat 32 (16 * code)

/-- What an entry does in one copy: PIE, IE, the cause code, the return address and pc. -/
def HelmCopy.enter (c : HelmCopy) (code : Nat) : HelmCopy :=
  let ie := c.stat &&& 1
  { c with
    stat := (c.stat &&& ~~~(3 : Word)) ||| (ie <<< 1)
    cause := setBits c.cause 7 0 code
    epc := c.pc
    pc := c.vector code }

/-- The exception depth, shown in LCTL_HFAULT. -/
def Lane.setDepth (ln : Lane) (n : Nat) : Lane := { ln with helm := { ln.helm with depth := n } }.put LCTL_HFAULT_DEPTH n

/-- An entry of both copies for a cause, after `f` has set what the cause sets beside its code; a wait ends, and the pc
is where execution resumes. An entry that would raise the depth to 4, or whose vector lies outside code SRAM, withdraws
the lane instead. -/
def Lane.enterExc (ln : Lane) (code : Nat) (f : HelmCopy → HelmCopy) : Lane :=
  let vp := ln.helm.c.p.vector code
  let vs := ln.helm.c.s.vector code
  if 3 ≤ ln.helm.depth then ln.helmFault 0x04 3 0
  else if !inCode vp || !inCode vs then ln.helmFault 0x0C (sideCode (!inCode vp) (!inCode vs)) (if inCode vp then vs else vp)
  else
    let ln := (ln.setDepth (ln.helm.depth + 1)).mapHelm (fun c => (f c).enter code)
    { ln with helm := { ln.helm with run := .running } }

/-- The faulting address that an entry records. -/
def HelmCopy.setBad (a : Word) (c : HelmCopy) : HelmCopy := { c with badaddr := a }

/-- What each copy found: its cause and the address that goes with it. -/
abbrev Found := Option (Nat × Option Word)

/-- Both copies met an exception, or one did: different causes withdraw the lane (R128). -/
def Lane.raise (ln : Lane) (p s : Found) : Lane :=
  match p, s with
  | some (kp, ap), some (ks, as) =>
    if kp = ks then
      let ln := match ap with
        | some a => ln.modHelm .p (HelmCopy.setBad a)
        | none => ln
      let ln := match as with
        | some a => ln.modHelm .s (HelmCopy.setBad a)
        | none => ln
      ln.enterExc kp (fun c => c)
    else ln.helmFault 0x03 3 0
  | none, none => ln
  | _, _ => ln.helmFault 0x03 3 0

/-- Both copies meet one cause without an address. -/
def Lane.raiseBoth (ln : Lane) (code : Nat) : Lane := ln.raise (some (code, none)) (some (code, none))

/-! ### Posted stores (R73, R76, R98, R389, R547) -/

/-- The memory numbers of a helm copy's code and data SRAM and of its drive copy's memories (R388). -/
def codeMem : Copy → Nat
  | .p => 0 | .s => 1
def dataMem : Copy → Nat
  | .p => 2 | .s => 3
def progMem : Copy → Nat
  | .p => 4 | .s => 5
def coefMem : Copy → Nat
  | .p => 6 | .s => 7

/-- The side of a fault found in one copy. -/
def copySide : Copy → Nat
  | .p => 1 | .s => 2

/-- A store reaches a word of an SRAM: whole, or by reading, merging and writing back; an uncorrectable merge read
writes nothing and withdraws the lane. -/
def Lane.drainMem (ln : Lane) (k : Copy) (m off : Nat) (st : StoreOp) : Lane :=
  let wadr := off / 4
  if st.be = 0xF then ln.storeMem m wadr st.data st.be
  else
    let r := ln.loadMem m wadr
    match r.1 with
    | some w => r.2.storeMem m wadr (mergeBytes w st.data st.be) 0xF
    | none => r.2.helmFault 0x02 (copySide k) st.addr

/-- A drained store completed with a bus error: the window keeps the first one (R87). -/
def Lane.storeError (ln : Lane) (k : Copy) (a : Word) : Lane :=
  ln.modHelm k (fun c => if c.busErr.isSome then c else { c with busErr := some a })

/-- The effect of one copy's oldest posted store, for the areas that only that copy reaches. -/
def Lane.drainOwn (ln : Lane) (k : Copy) (st : StoreOp) : Lane :=
  match helmArea st.addr with
  | .data off => if ln.domOn 6 then ln.drainMem k (dataMem k) off st else ln.storeError k st.addr
  | .drvData off => if ln.domOn 7 then ln.drainMem k (coefMem k) off st else ln.storeError k st.addr
  | .periph off => match regRow off with
    | some row => if st.be = 0xF then ln.writeCopyReg k row off st.data else ln.storeError k st.addr
    | none => ln.storeError k st.addr
  | _ => ln.storeError k st.addr

/-- A store goes to a single per-lane register: a word store to a register that is there and not held per copy. -/
def StoreOp.single (st : StoreOp) : Option Reg :=
  match helmArea st.addr with
  | .periph off => if st.be = 0xF && (regRow off).isSome && !isCopyReg off then some off else none
  | _ => none

/-- The oldest posted store of each copy drains; one to a single register reaches it once, with copy P's word (log 29). -/
def Lane.drainHelm (ln : Lane) : Lane :=
  match ln.helm.c.p.sbuf, ln.helm.c.s.sbuf with
  | p :: tp, s :: ts =>
    let ln := (ln.modHelm .p (fun c => { c with sbuf := tp })).modHelm .s (fun c => { c with sbuf := ts })
    match p.single with
    | some off => match ln.writeSingle off p.data with
      | some ln => ln
      | none => (ln.storeError .p p.addr).storeError .s s.addr
    | none => (ln.drainOwn .p p).drainOwn .s s
  | p :: tp, [] => (ln.modHelm .p (fun c => { c with sbuf := tp })).drainOwn .p p
  | [], s :: ts => (ln.modHelm .s (fun c => { c with sbuf := ts })).drainOwn .s s
  | [], [] => ln

/-- The longer store buffer. -/
def Lane.helmPosted (ln : Lane) : Nat := max ln.helm.c.p.sbuf.length ln.helm.c.s.sbuf.length

/-- Every posted store drains, in order, until one withdraws the lane. -/
def drainAll : Nat → Lane → Lane
  | 0, ln => ln
  | n + 1, ln => if ln.helm.run == .stopped then ln else drainAll n ln.drainHelm

/-- Every posted store of the helm pair drains. -/
def Lane.drainHelmAll (ln : Lane) : Lane := drainAll ln.helmPosted ln

/-! ### What is due at a boundary (R87, R89, R110, R111, R116, R305, R306, R554) -/

/-- A queue has reached 16 entries with one of the present window. -/
def HelmCopy.holdFull (c : HelmCopy) : Bool := decide (16 ≤ c.hold.length) && c.hold.any (fun e => !e.ok)

/-- The window closes whatever instruction is next. -/
def Lane.closeDue (ln : Lane) : Bool :=
  decide (256 ≤ ln.helm.count) || ln.helm.c.p.holdFull || (ln.helm.frameSince && ln.helm.windowOpen) ||
    ((ln.helm.run == .fence || ln.helm.run == .waiting) && decide (0 < ln.helm.count))

/-- The window closes before an instruction: also where held stores end (R116). -/
def Lane.closeBefore (ln : Lane) (heldNext : Bool) : Bool := ln.closeDue || (ln.helm.lastHeld && !heldNext)

/-- Interrupts are enabled in CS_STAT. -/
def Lane.helmIe (ln : Lane) : Bool := bit ln.helm.c.p.stat 0

/-- A release error is due (R89), deferred ones by R554. -/
def Lane.releaseDue (ln : Lane) : Bool :=
  ln.helm.relErr.isSome && (!ln.helm.deferred || ln.helmIe || ln.helm.eretSince)

/-- The lowest-numbered source that is pending and enabled. -/
def Lane.irqNext (ln : Lane) : Option Nat := (List.range 21).find? (fun n => bit (ln.irqPend &&& ln.rd LCTL_IRQ_EN) n)

/-- An interrupt is taken at the next boundary (R110). -/
def Lane.irqDue (ln : Lane) : Bool := ln.helmIe && ln.irqNext.isSome

/-! ### Retirement and tally (R70, R301, R302, R305) -/

/-- One copy's instruction has retired. -/
def HelmCopy.retire (c : HelmCopy) : HelmCopy := { c with retired := c.retired + 1 }

/-- On to the next instruction. -/
def HelmCopy.skip (c : HelmCopy) : HelmCopy := { c with pc := c.pc + 4 }

/-- An instruction retires in both copies; `held` where it is a held store. -/
def Lane.retireHelm (ln : Lane) (held : Bool) : Lane :=
  let ln := ln.mapHelm HelmCopy.retire
  { ln with helm := { ln.helm with count := ln.helm.count + 1, lastHeld := held } }

/-- A wfe whose wait has ended retires (R110). -/
def Lane.wakeHelm (ln : Lane) : Lane :=
  if ln.helm.run == .waiting && ln.irqPend != 0 && !ln.irqDue then
    ({ ln with helm := { ln.helm with run := .running } }.mapHelm HelmCopy.skip).retireHelm false
  else ln

/-- Nothing of the helm pair's stores is left. -/
def Lane.helmDrained (ln : Lane) : Bool :=
  ln.helm.c.p.sbuf.isEmpty && ln.helm.c.s.sbuf.isEmpty && ln.helm.c.p.hold.isEmpty && ln.helm.c.s.hold.isEmpty

/-- A fence whose wait has ended retires. -/
def Lane.endFence (ln : Lane) : Lane :=
  if ln.helm.run == .fence && ln.helmDrained then
    ({ ln with helm := { ln.helm with run := .running } }.mapHelm HelmCopy.skip).retireHelm false
  else ln

/-! ### Issue (R105 to R107, R128) -/

/-- The pair may issue an instruction at this boundary. -/
def Lane.helmMay (ln : Lane) (heldNext : Bool) : Bool :=
  ln.helmRuns && ln.domOn 1 && !ln.closeBefore heldNext && !ln.releaseDue && !ln.irqDue

/-- The fetch of both copies: the lane with its errors counted; none where one is uncorrectable and withdraws it. -/
def Lane.fetch (ln : Lane) (body : Lane → Lane) : Lane :=
  let pp := ln.helm.c.p.pc
  let ps := ln.helm.c.s.pc
  if !inCode pp || !inCode ps then
    ln.raise (if inCode pp then none else some (0x02, some pp)) (if inCode ps then none else some (0x02, some ps))
  else
    let rp := ln.loadMem 0 (pp.toNat / 4)
    let rs := rp.2.loadMem 1 (ps.toNat / 4)
    if rp.1.isNone || rs.1.isNone then
      rs.2.helmFault 0x01 (sideCode rp.1.isNone rs.1.isNone) (if rp.1.isNone then pp else ps)
    else body rs.2

/-- One instruction comes to the joint issue gate. While it may not issue, nothing happens. -/
def Lane.issueHelm (ln : Lane) (i : HelmIssue) (heldNext : Bool) (body : Lane → Lane) : Lane :=
  let ln := ln.wakeHelm
  if !ln.helmMay heldNext then ln
  else if !i.agree then ln.helmFault 0x05 3 0
  else ln.fetch body

/-- An instruction that reads and writes only the registers of its copy: ILLEGAL, or its effect where its predicate
holds, and on to the next. -/
def Lane.plainInstr (ln : Lane) (i : HelmIssue) (illegal : Bool) (f : HelmCopy → HelmCopy) : Lane :=
  ln.issueHelm i false (fun ln =>
    if badPred i || illegal then ln.raiseBoth 0x01
    else (ln.mapHelm (fun c => (if c.takes i then f c else c).skip)).retireHelm false)

/-! ### The close of a window (R87, R303, R306, R307) -/

/-- The register items that a copy folds at a close, under its own live mask. -/
def Lane.foldRegs (ln : Lane) (k : Copy) (c : HelmCopy) : BitVec 64 :=
  let g := ln.crd k TALLY_LIVE
  let x := ln.crd k TALLY_LIVEX
  let t := (List.range 32).foldl (fun t n =>
    if n != 0 && bit g n then tallyFold t (regItem n ((vget c.g n 0).setWidth 72)) else t) c.tally
  let t := if bit x 0 then tallyFold t (regItem 32 c.ha) else t
  let t := if bit x 1 then tallyFold t (regItem 33 c.hb) else t
  if bit x 2 then tallyFold t (regItem 34 ((c.q.extractLsb' 1 3).setWidth 72)) else t

/-- The STORE_BUS of R87 at a close: both copies have an error, or one has and the causes differ. -/
def Lane.storeBus (ln : Lane) : Lane :=
  let ep := ln.helm.c.p.busErr
  let es := ln.helm.c.s.busErr
  let ln := ln.mapHelm (fun c => { c with busErr := none })
  let ln := if ep.isSome && ln.helm.relErr.isSome && !ln.helm.deferred then
      { ln with helm := { ln.helm with deferred := true, eretSince := false } }
    else ln
  let ln := if ep.isSome then ln.mapHelm (fun c => { c with cause := setBits c.cause 16 16 0 }) else ln
  ln.raise (ep.map (fun a => (0x08, some a))) (es.map (fun a => (0x08, some a)))

/-- The entries of the window that has compared equal may be released. -/
def HelmCopy.openWindow (c : HelmCopy) : HelmCopy :=
  { c with tally := tallyStart, hold := c.hold.map (fun (e : HoldEntry) => { e with ok := true }) }

/-- The window closes: posted stores drain, the tallies are compared, the next window opens, and STORE_BUS is taken. -/
def Lane.closeHelm (ln : Lane) : Lane :=
  let ln := ln.drainHelmAll
  if ln.helm.run == .stopped then ln
  else if ln.foldRegs .p ln.helm.c.p ≠ ln.foldRegs .s ln.helm.c.s then ln.helmFault 0x08 3 0
  else
    let ln := ln.mapHelm HelmCopy.openWindow
    let ln := { ln with helm := { ln.helm with
      win := ln.helm.win + 1, count := 0, lastHeld := false, frameSince := false } }
    ln.storeBus.endFence

/-! ### The output hold queue (R117, R118, R89, R547) -/

/-- A release has completed with a bus error: the first since the last entry for one is kept (R89). -/
def Lane.releaseError (ln : Lane) (a : Word) : Lane :=
  if ln.helm.relErr.isSome then ln else { ln with helm := { ln.helm with relErr := some a } }

/-- What a released entry does; none is a bus error. -/
def Lane.releaseEntry (ln : Lane) (e : HoldEntry) : Option Lane :=
  if e.be ≠ 0xF then none
  else match helmArea e.addr with
    | .cmd k => some (ln.mapMbox (fun m => m.write k e.data))
    | .bell => ln.ringBell e.data
    | .periph off => ln.regWrite off e.data
    | _ => none

/-- The entry's target is a drive mailbox. -/
def HoldEntry.mailbox (e : HoldEntry) : Bool :=
  match helmArea e.addr with
  | .cmd _ | .bell => true
  | _ => false

/-- The oldest entry of each copy is released, if its window has compared equal: compared between the copies, and
drained into its target. `miss` names a copy in which alone a mailbox entry completes with a bus error. -/
def Lane.releaseHelm (ln : Lane) (miss : Option Copy) : Lane :=
  match ln.helm.c.p.hold, ln.helm.c.s.hold with
  | p :: tp, s :: ts =>
    if ln.helm.run == .stopped || !p.ok || !s.ok then ln
    else if p ≠ s then ln.helmFault 0x06 3 p.addr
    else
      let ln := (ln.modHelm .p (fun c => { c with hold := tp })).modHelm .s (fun c => { c with hold := ts })
      match if p.mailbox then miss else none with
      | some k => ln.helmFault 0x0B (copySide k) p.addr
      | none => ((ln.releaseEntry p).getD (ln.releaseError p.addr)).endFence
  | _, _ => ln

/-- The STORE_BUS of a release error (R89). -/
def Lane.enterReleaseError (ln : Lane) : Lane :=
  match ln.helm.relErr with
  | none => ln
  | some a =>
    let ln := { ln with helm := { ln.helm with relErr := none, deferred := false, eretSince := false } }
    ln.enterExc 0x08 (fun c => { c with badaddr := a, cause := setBits c.cause 16 16 1 })

/-- The pair stands at a boundary at which an interrupt or a release error can be taken: no close comes first. -/
def Lane.atBoundary (ln : Lane) : Bool := ln.helm.run != .stopped && ln.helm.run != .armed && ln.domOn 1 && !ln.closeDue

end Sys2Proof.Machine
end

