-- ==== Sys2Proof/Machine/HelmMem.lean ====
section
/-!
DEFINITION. Helm loads and stores (R64, R73, R76, R83 to R88, R98 to R102, R120, R125, R126, R547), and the events of
posted stores, tally windows and the output hold queue of the helm pair.
-/

namespace Sys2Proof.Machine

open Sys2Proof

/-! ### Loads -/

/-- What a copy's load finds. -/
inductive LoadRes where
  | skip
  | val (w : Word)
  | bus
  | ecc
  deriving DecidableEq, Repr

/-- The bytes of a word that pending posted stores hold, oldest first: data and enables (R76). -/
def pendingWord (l : List StoreOp) (a : Word) : Word × BitVec 4 :=
  l.foldl (fun (r : Word × BitVec 4) st =>
    if st.addr.toNat / 4 = a.toNat / 4 then (mergeBytes r.1 st.data st.be, r.2 ||| st.be) else r) (0, 0)

/-- A word of an SRAM as a load sees it: a pending store's data where it holds all the bytes that the load names, else
the memory's word with pending bytes over it. -/
def Lane.loadWord (ln : Lane) (m off : Nat) (pend : Word × BitVec 4) (be : BitVec 4) : LoadRes × Lane :=
  if pend.2 &&& be = be then (.val pend.1, ln)
  else
    let r := (ln.latchCb m (off / 4)).loadMem m (off / 4)
    match r.1 with
    | some w => (.val (mergeBytes w pend.1 pend.2), r.2)
    | none => (.ecc, r.2)

/-- A copy's load from what only that copy reaches; the status mailbox and the peripheral blocks apart. -/
def Lane.loadOwn (ln : Lane) (k : Copy) (a : Word) (be : BitVec 4) : LoadRes × Lane :=
  let pend := pendingWord (ln.helm.c.get k).sbuf a
  let if1 (d m off : Nat) : LoadRes × Lane := if ln.domOn d then ln.loadWord m off pend be else (.bus, ln)
  match helmArea a with
  | .code off => if1 6 (codeMem k) off
  | .data off => if1 6 (dataMem k) off
  | .drvProg off => if1 7 (progMem k) off
  | .drvData off => if1 7 (coefMem k) off
  | .status w => (.val (vget (ln.drv.c.get k).mbox.latched w 0), ln)
  | _ => (.bus, ln)

/-- A word of a load's result in one copy. -/
def resOf (takes : Bool) (w : Option Word) : LoadRes :=
  if takes then (match w with | some x => .val x | none => .bus) else .skip

/-- Both copies' loads. Status word 0 latches the status (R125); a single per-lane register is read once, and captures
that still differ withdraw the lane (R99); the others are each copy's own. -/
def Lane.loadBoth (ln : Lane) (differ : Nat) (tp ts : Bool) (ap as : Word) (n : Nat) : LoadRes × LoadRes × Lane :=
  let ln := if (tp && helmArea ap == .status 0) || (ts && helmArea as == .status 0) then ln.latchStatus.2 else ln
  let own (ln : Lane) (t : Bool) (k : Copy) (a : Word) : LoadRes × Lane := if t then ln.loadOwn k a (enables a n) else (.skip, ln)
  match helmArea (if tp then ap else as), helmArea (if ts then as else ap) with
  | .periph op, .periph os =>
    if !tp && !ts then (.skip, .skip, ln)
    else if n ≠ 4 then (resOf tp none, resOf ts none, ln)
    else if isCopyReg op && isCopyReg os && op != os then
      let rp := ln.regRead op
      let rs := ln.regRead os
      (resOf tp (rp.map (fun r => r.1.p)), resOf ts (rs.map (fun r => r.1.s)), ln)
    else if op != os || (!isCopyReg op && decide (4 ≤ differ)) then (.skip, .skip, ln.inputWithdraw 0xFF)
    else match ln.regRead op with
      | some r => (resOf tp (some r.1.p), resOf ts (some r.1.s), r.2)
      | none => (resOf tp none, resOf ts none, ln)
  | _, _ =>
    let rp := own ln tp .p ap
    let rs := own rp.2 ts .s as
    (rp.1, rs.1, rs.2)

/-- A misaligned access of a copy (R64). -/
def misaligned (takes : Bool) (code : Nat) (a : Word) (n : Nat) : Found :=
  if takes && !alignedTo a n then some (code, some a) else none

/-- What a copy's load found, as an exception. -/
def LoadRes.found (r : LoadRes) (a : Word) : Found :=
  match r with
  | .bus => some (0x05, some a)
  | _ => none

/-- A copy takes the loaded word. -/
def LoadRes.write (r : LoadRes) (gd : Reg5) (a : Word) (n : Nat) (signed : Bool) (c : HelmCopy) : HelmCopy :=
  match r with
  | .val w => c.wg gd (fromLanes a w n signed)
  | _ => c

/-- The loads come to their end: uncorrectable errors withdraw the lane, bus errors raise LOAD_BUS, else the registers
are written and the instruction retires. -/
def Lane.endLoad (ln : Lane) (rp rs : LoadRes) (ap as : Word) (gd : Reg5) (n : Nat) (signed : Bool) : Lane :=
  if ln.helm.run == .stopped then ln
  else if rp == .ecc || rs == .ecc then ln.helmFault 0x02 (sideCode (rp == .ecc) (rs == .ecc)) (if rp == .ecc then ap else as)
  else if rp == .bus || rs == .bus then ln.raise (rp.found ap) (rs.found as)
  else
    let c := ln.helm.c
    (ln.setHelm ⟨(rp.write gd ap n signed c.p).skip, (rs.write gd as n signed c.s).skip⟩).retireHelm false

/-- A load of `n` bytes. One from the drive-engine window or a peripheral block waits until earlier held stores have been
released, and earlier posted stores drain first (R76, R120). -/
def Lane.loadInstr (ln : Lane) (i : HelmIssue) (gd ga : Reg5) (imm : Imm13) (n : Nat) (signed : Bool) : Lane :=
  ln.issueHelm i false (fun ln =>
    let tp := ln.helm.c.p.takes i
    let ts := ln.helm.c.s.takes i
    let ap := ln.helm.c.p.ea ga imm
    let as := ln.helm.c.s.ea ga imm
    let mp := misaligned tp 0x04 ap n
    let ms := misaligned ts 0x04 as n
    let far := (tp && (helmArea ap).far) || (ts && (helmArea as).far)
    if badPred i then ln.raiseBoth 0x01
    else if mp.isSome || ms.isSome then ln.raise mp ms
    else if far && !(ln.helm.c.p.hold.isEmpty && ln.helm.c.s.hold.isEmpty) then ln
    else
      let ln := if far then ln.drainHelmAll else ln
      if ln.helm.run == .stopped then ln
      else
        let r := ln.loadBoth i.differ tp ts ap as n
        r.2.2.endLoad r.1 r.2.1 ap as gd n signed)

/-! ### Stores -/

/-- The exception a store meets at issue (R64, R85). -/
def storeFound (takes : Bool) (a : Word) (n : Nat) : Found :=
  if !takes then none
  else if !alignedTo a n then some (0x07, some a)
  else if inCode a then some (0x09, some a)
  else none

/-- A store to TALLY_LIVE or TALLY_LIVEX: it takes effect when it retires (R127). -/
def liveReg (a : Word) (be : BitVec 4) : Option Reg :=
  match helmArea a with
  | .periph off => if be = 0xF && (off == TALLY_LIVE || off == TALLY_LIVEX) then some off else none
  | _ => none

/-- A copy's store retires: its item enters the tally, and it is queued. -/
def HelmCopy.queueStore (c : HelmCopy) (a v : Word) (be : BitVec 4) (win : Nat) : HelmCopy :=
  let held := (helmArea a).held
  let c := { c with tally := tallyFold c.tally (storeItem held be a v) }
  if held then { c with hold := c.hold ++ [⟨a, v, be, win, false⟩] }
  else if (liveReg a be).isSome then c
  else { c with sbuf := c.sbuf ++ [⟨a, v, be⟩] }

/-- A live mask is written in one copy. -/
def Lane.storeLive (ln : Lane) (k : Copy) (takes : Bool) (a v : Word) (be : BitVec 4) : Lane :=
  match (if takes then liveReg a be else none) with
  | some off => match regRow off with
    | some row => ln.writeCopyReg k row off v
    | none => ln
  | none => ln

/-- A copy's part of a store that retires. -/
def HelmCopy.store (c : HelmCopy) (i : HelmIssue) (gs ga : Reg5) (imm : Imm13) (n win : Nat) : HelmCopy :=
  let a := c.ea ga imm
  (if c.takes i then c.queueStore a (toLanes a (c.rg gs) n) (enables a n) win else c).skip

/-- The next instruction is a held store (R116). -/
def Lane.heldStore (ln : Lane) (i : HelmIssue) (ga : Reg5) (imm : Imm13) : Bool :=
  ln.helm.c.p.takes i && (helmArea (ln.helm.c.p.ea ga imm)).held

/-- A store of `n` bytes; a held one waits while the queue is full (R115). -/
def Lane.storeInstr (ln : Lane) (i : HelmIssue) (gs ga : Reg5) (imm : Imm13) (n : Nat) : Lane :=
  let held := ln.heldStore i ga imm
  ln.issueHelm i held (fun ln =>
    let p := ln.helm.c.p
    let s := ln.helm.c.s
    let ap := p.ea ga imm
    let as := s.ea ga imm
    let fp := storeFound (p.takes i) ap n
    let fs := storeFound (s.takes i) as n
    if badPred i then ln.raiseBoth 0x01
    else if fp.isSome || fs.isSome then ln.raise fp fs
    else if held && decide (16 ≤ p.hold.length) then ln
    else
      let ln := (ln.mapHelm (fun c => c.store i gs ga imm n ln.helm.win)).retireHelm held
      let ln := ln.storeLive .p (p.takes i) ap (toLanes ap (p.rg gs) n) (enables ap n)
      ln.storeLive .s (s.takes i) as (toLanes as (s.rg gs) n) (enables as n))

/-! ### The instructions -/

/-- ldw. -/
def execLdw (i : HelmIssue) (gd ga : Reg5) (imm : Imm13) (s : State) : Host.Outcome State Fault Refusal :=
  onLane s i.lane (fun ln => ln.loadInstr i gd ga imm 4 false)

/-- ldh. -/
def execLdh (i : HelmIssue) (gd ga : Reg5) (imm : Imm13) (s : State) : Host.Outcome State Fault Refusal :=
  onLane s i.lane (fun ln => ln.loadInstr i gd ga imm 2 true)

/-- ldhu. -/
def execLdhu (i : HelmIssue) (gd ga : Reg5) (imm : Imm13) (s : State) : Host.Outcome State Fault Refusal :=
  onLane s i.lane (fun ln => ln.loadInstr i gd ga imm 2 false)

/-- ldb. -/
def execLdb (i : HelmIssue) (gd ga : Reg5) (imm : Imm13) (s : State) : Host.Outcome State Fault Refusal :=
  onLane s i.lane (fun ln => ln.loadInstr i gd ga imm 1 true)

/-- ldbu. -/
def execLdbu (i : HelmIssue) (gd ga : Reg5) (imm : Imm13) (s : State) : Host.Outcome State Fault Refusal :=
  onLane s i.lane (fun ln => ln.loadInstr i gd ga imm 1 false)

/-- stw; the gd field names the stored register. -/
def execStw (i : HelmIssue) (gd ga : Reg5) (imm : Imm13) (s : State) : Host.Outcome State Fault Refusal :=
  onLane s i.lane (fun ln => ln.storeInstr i gd ga imm 4)

/-- sth. -/
def execSth (i : HelmIssue) (gd ga : Reg5) (imm : Imm13) (s : State) : Host.Outcome State Fault Refusal :=
  onLane s i.lane (fun ln => ln.storeInstr i gd ga imm 2)

/-- stb. -/
def execStb (i : HelmIssue) (gd ga : Reg5) (imm : Imm13) (s : State) : Host.Outcome State Fault Refusal :=
  onLane s i.lane (fun ln => ln.storeInstr i gd ga imm 1)

/-! ### Mailboxes -/

/-- A doorbell store of the helm is released (R122). -/
def execDoorbell (l : LaneId) (v : Word) (s : State) : Host.Outcome State Fault Refusal :=
  onLane s l (fun ln => (ln.ringBell v).getD (ln.releaseError 0x20080080))

/-- The helm loads status mailbox word 0 (R125): copy P's word is the one shown. -/
def execStatusMailboxRead (l : LaneId) (s : State) : Host.Outcome State Fault Refusal :=
  readLane s l (fun ln => let r := ln.latchStatus; (r.1.p, r.2))

/-- A drive store to status word 0 is released (R152). -/
def execStatusPublish (l : LaneId) (s : State) : Host.Outcome State Fault Refusal :=
  onLane s l Lane.publishStatus

end Sys2Proof.Machine
end

