-- ==== Sys2Proof/Machine/DriveEngine.lean ====
section
/-!
DEFINITION. The drive pair (chapter 5): the address map, issue through the joint gate, bundles, loops, control bundles,
the output hold queue and the tally window (R133 to R162), and the drain, close and release events of both engines.
-/

namespace Sys2Proof.Machine

open Sys2Proof

/-! ### The drive engine's map (R148) -/

inductive DriveArea where
  | data (off : Nat)
  | bank (k : Nat)
  | status (k : Nat)
  | leg (k : Nat)
  | chan (k : Nat)
  | input (k : Nat)
  | unmapped
  deriving DecidableEq, Repr

/-- The area of an address. -/
def driveArea (a : Word) : DriveArea :=
  let n := a.toNat
  if 0x40000 ≤ n ∧ n < 0x80000 then .data (n - 0x40000)
  else if 0x80000 ≤ n ∧ n < 0x80040 then .bank ((n - 0x80000) / 4)
  else if 0x80100 ≤ n ∧ n < 0x80180 then .status ((n - 0x80100) / 4)
  else if 0xA0000 ≤ n ∧ n < 0xA0048 then .leg ((n - 0xA0000) / 4)
  else if 0xA0080 ≤ n ∧ n < 0xA0098 then .chan ((n - 0xA0080) / 4)
  else if 0xB0000 ≤ n ∧ n < 0xB0400 then .input ((n - 0xB0000) / 4)
  else .unmapped

/-- An aligned address that may be loaded from (R149). -/
def driveMayLoad (a : Word) : Bool :=
  alignedTo a 4 && (match driveArea a with | .data _ | .bank _ | .input _ => true | _ => false)

/-- An aligned address that may be stored to. -/
def driveMayStore (a : Word) : Bool :=
  alignedTo a 4 && (match driveArea a with | .data _ | .status _ | .leg _ | .chan _ => true | _ => false)

/-- A store to it is held (R151). -/
def driveHeld (a : Word) : Bool :=
  match driveArea a with
  | .status _ | .leg _ | .chan _ => true
  | _ => false

/-! ### Both copies -/

/-- Replace both drive copies. -/
def Lane.setDrv (ln : Lane) (c : Pair DriveCopy) : Lane := { ln with drv := { ln.drv with c := c } }

/-- Change one drive copy. -/
def Lane.modDrv (ln : Lane) (k : Copy) (f : DriveCopy → DriveCopy) : Lane :=
  match k with
  | .p => ln.setDrv { ln.drv.c with p := f ln.drv.c.p }
  | .s => ln.setDrv { ln.drv.c with s := f ln.drv.c.s }

/-- A fault found in copies, at the bundle that copy P, or else copy S, stands at. -/
def Lane.bundleFault (ln : Lane) (code : Nat) (p s : Bool) : Lane :=
  ln.driveFault code (sideCode p s) (if p then ln.drv.c.p.pc else ln.drv.c.s.pc)

/-! ### Posted stores -/

/-- A copy's posted store reaches data SRAM. -/
def Lane.drainCoef (ln : Lane) (k : Copy) (st : StoreOp) : Lane :=
  match driveArea st.addr with
  | .data off => ln.storeMem (coefMem k) (off / 4) st.data st.be
  | _ => ln

/-- The oldest posted store of each drive copy drains. -/
def Lane.drainDrive (ln : Lane) : Lane :=
  match ln.drv.c.p.sbuf, ln.drv.c.s.sbuf with
  | p :: tp, s :: ts =>
    (((ln.modDrv .p (fun c => { c with sbuf := tp })).modDrv .s (fun c => { c with sbuf := ts })).drainCoef .p p).drainCoef .s s
  | p :: tp, [] => (ln.modDrv .p (fun c => { c with sbuf := tp })).drainCoef .p p
  | [], s :: ts => (ln.modDrv .s (fun c => { c with sbuf := ts })).drainCoef .s s
  | [], [] => ln

/-- Every posted store of the drive pair drains. -/
def Lane.drainDriveAll (ln : Lane) : Lane :=
  (List.range (max ln.drv.c.p.sbuf.length ln.drv.c.s.sbuf.length)).foldl (fun ln _ => ln.drainDrive) ln

/-- Nothing of the drive pair's stores is left. -/
def Lane.driveDrained (ln : Lane) : Bool :=
  ln.drv.c.p.sbuf.isEmpty && ln.drv.c.s.sbuf.isEmpty && ln.drv.c.p.hold.isEmpty && ln.drv.c.s.hold.isEmpty

/-! ### Retirement -/

/-- A bundle retires in both copies; `held` where it holds a held store. -/
def Lane.retireDrive (ln : Lane) (held : Bool) : Lane :=
  { ln with drv := { ln.drv with count := ln.drv.count + 1, lastHeld := held } }

/-- On to the next bundle. -/
def DriveCopy.nextPc (d : DriveCopy) : DriveCopy := { d with pc := d.pc + 1 }

/-- A drive fence whose wait has ended retires. -/
def Lane.endDriveFence (ln : Lane) : Lane :=
  if ln.drv.run == .fence && ln.driveDrained then
    ({ ln with drv := { ln.drv with run := .running } }.mapDrv DriveCopy.nextPc).retireDrive false
  else ln

/-! ### The tally window (R160, R301 to R307) -/

/-- A queue has reached 32 entries with one of the present window. -/
def DriveCopy.holdFull (d : DriveCopy) : Bool := decide (32 ≤ d.hold.length) && d.hold.any (fun e => !e.ok)

/-- The drive window closes whatever bundle is next. -/
def Lane.driveCloseDue (ln : Lane) : Bool :=
  decide (256 ≤ ln.drv.count) || ln.drv.c.p.holdFull || (ln.drv.run == .fence && decide (0 < ln.drv.count))

/-- The items of the fixed live set. -/
def DriveCopy.foldRegs (d : DriveCopy) : BitVec 64 :=
  let t := (List.range 16).foldl (fun t n => tallyFold t (regItem n ((vget d.w (48 + n) 0).setWidth 72))) d.tally
  let t := (List.range 4).foldl (fun t n => tallyFold t (regItem (16 + n) (vget d.acc n 0))) t
  let t := (List.range 8).foldl (fun t n => tallyFold t (regItem (20 + n) ((d.ptr n).setWidth 72))) t
  (List.range 8).foldl (fun t n => tallyFold t (regItem (28 + n) ((d.ofs n).setWidth 72))) t

/-- The entries of the window that has compared equal may be released. -/
def DriveCopy.openWindow (d : DriveCopy) : DriveCopy :=
  { d with tally := tallyStart, hold := d.hold.map (fun (e : HoldEntry) => { e with ok := true }) }

/-- The drive window closes. -/
def Lane.closeDrive (ln : Lane) : Lane :=
  let ln := ln.drainDriveAll
  if ln.drv.c.p.foldRegs ≠ ln.drv.c.s.foldRegs then ln.driveFault 0x09 3 0
  else
    let ln := ln.mapDrv DriveCopy.openWindow
    ({ ln with drv := { ln.drv with win := ln.drv.win + 1, count := 0, lastHeld := false } }).endDriveFence

/-! ### Issue (R135, R154, R162) -/

/-- The pair may issue a bundle at this boundary. -/
def Lane.driveMay (ln : Lane) (heldNext : Bool) : Bool :=
  ln.drv.run == .running && ln.domOn 3 && !ln.driveCloseDue && !(ln.drv.lastHeld && !heldNext)

/-- The fetch of both copies; a bundle counter beyond program SRAM is an address fault (log 32). -/
def Lane.fetchBundle (ln : Lane) (body : Lane → Lane) : Lane :=
  let pp := ln.drv.c.p.pc
  let ps := ln.drv.c.s.pc
  let out (k : Nat) : Bool := decide (16384 ≤ k)
  if out pp || out ps then ln.bundleFault 0x02 (out pp) (out ps)
  else
    let r0 := ln.loadMem 4 (2 * pp)
    let r1 := r0.2.loadMem 4 (2 * pp + 1)
    let r2 := r1.2.loadMem 5 (2 * ps)
    let r3 := r2.2.loadMem 5 (2 * ps + 1)
    let badP := r0.1.isNone || r1.1.isNone
    let badS := r2.1.isNone || r3.1.isNone
    if badP || badS then r3.2.bundleFault 0x03 badP badS else body r3.2

/-- One bundle comes to the joint issue gate. While it may not issue, nothing happens. -/
def Lane.issueDrive (ln : Lane) (agree heldNext : Bool) (body : Lane → Lane) : Lane :=
  if !ln.driveMay heldNext then ln
  else if !agree then ln.driveFault 0x07 3 0
  else ln.fetchBundle body

/-- A bundle's STG is one that its place allows (R154). -/
def DriveCopy.stgOk (d : DriveCopy) (stg : Nat) : Bool :=
  match d.loop with
  | some l => decide (stg < l.stages)
  | none => stg == 0

/-- A bundle takes effect in the present pass (R153). -/
def DriveCopy.enabled (d : DriveCopy) (stg : Nat) : Bool :=
  match d.loop with
  | some l => decide (stg ≤ l.pass ∧ l.pass + 1 ≤ l.iters + stg)
  | none => true

/-- The bundle counter moves on, round the body of a running loop (R153). -/
def DriveCopy.advance (d : DriveCopy) : DriveCopy :=
  match d.loop with
  | none => d.nextPc
  | some l =>
    if d.pc + 1 < l.start + l.len then d.nextPc
    else
      let d := { d with rot := (d.rot + 1) % 48 }
      if l.pass + 1 < l.iters + l.stages - 1 then { d with pc := l.start, loop := some { l with pass := l.pass + 1 } }
      else { d with pc := l.start + l.len, loop := none }

/-! ### Data accesses -/

/-- What a copy's load finds: a word, or an uncorrectable error. -/
def Lane.driveLoad (ln : Lane) (k : Copy) (a : Word) : LoadRes × Lane :=
  match driveArea a with
  | .data off => ln.loadWord (coefMem k) off (pendingWord (ln.drv.c.get k).sbuf a) 0xF
  | .bank w => (.val ((ln.drv.c.get k).mbox.ownedWord w), ln)
  | .input w => (.val ((keyGet ln.comm.inputs w).getD 0), ln)
  | _ => (.bus, ln)

/-- The loaded word. -/
def LoadRes.word : LoadRes → Word
  | .val w => w
  | _ => 0

/-- A copy's store retires into its queue (R151, R302). -/
def DriveCopy.queueStore (d : DriveCopy) (a v : Word) (win : Nat) : DriveCopy :=
  let held := driveHeld a
  let d := { d with tally := tallyFold d.tally (storeItem held 0xF a v) }
  if held then { d with hold := d.hold ++ [⟨a, v, 0xF, win, false⟩] } else { d with sbuf := d.sbuf ++ [⟨a, v, 0xF⟩] }

/-- Slot M's address breaks R149 in a copy. -/
def DriveCopy.badAccess (d : DriveCopy) (m : SlotM) : Bool :=
  let a := d.ptr m.p.toNat
  (mLoads m && !driveMayLoad a) || (mStores m && !driveMayStore a)

/-- The bundle holds a held store that takes effect. -/
def DriveCopy.holdsStore (d : DriveCopy) (stg : Nat) (m : SlotM) : Bool :=
  d.enabled stg && mStores m && driveHeld (d.ptr m.p.toNat)

/-- A bundle with slots: `illegal` and `refused` in a copy, and the writes given the loaded word. -/
def Lane.runBundle (ln : Lane) (stg : Nat) (m : SlotM) (illegal refused : DriveCopy → Bool)
    (write : Word → DriveCopy → DriveCopy) (held : Bool) : Lane :=
  let p := ln.drv.c.p
  let s := ln.drv.c.s
  let bad (d : DriveCopy) : Bool := illegal d || !d.stgOk stg || (d.enabled stg && refused d)
  let off (d : DriveCopy) : Bool := d.enabled stg && d.badAccess m
  if bad p || bad s then ln.bundleFault 0x01 (bad p) (bad s)
  else if off p || off s then ln.bundleFault 0x02 (off p) (off s)
  else if held && decide (32 ≤ p.hold.length) then ln
  else
    let load (ln : Lane) (k : Copy) (d : DriveCopy) : LoadRes × Lane :=
      if d.enabled stg && mLoads m then ln.driveLoad k (d.ptr m.p.toNat) else (.skip, ln)
    let rp := load ln .p p
    let rs := load rp.2 .s s
    let ln := rs.2
    if rp.1 == .ecc || rs.1 == .ecc then ln.bundleFault 0x04 (rp.1 == .ecc) (rs.1 == .ecc)
    else
      let one (d : DriveCopy) (r : LoadRes) : DriveCopy :=
        if d.enabled stg then
          let d' := write r.word d
          if mStores m then d'.queueStore (d.ptr m.p.toNat) (d.rw m.w.toNat) ln.drv.win else d'
        else d
      (ln.setDrv ⟨(one p rp.1).advance, (one s rs.1).advance⟩).retireDrive held

/-- An operation bundle (R134). -/
def execOperationBundle (i : DriveIssue) (b : OpBundle) (s : State) : Host.Outcome State Fault Refusal :=
  onLane s i.lane (fun ln =>
    let held := ln.drv.c.p.holdsStore b.stg.toNat b.m
    ln.issueDrive i.agree held (fun ln =>
      ln.runBundle b.stg.toNat b.m (fun d => opIllegal d b) (fun d => opRefused d b) (opWrite b) held))

/-- An immediate bundle is illegal. -/
def immIllegal (wd : BitVec 6) (rsv : Byte) (m : SlotM) : Bool :=
  rsv != 0 || mIllegal m || (mDests m).contains (.reg wd.toNat)

/-- An immediate bundle: wd takes imm32, beside slot M (R134). -/
def execImmediateBundle (i : DriveIssue) (stg : BitVec 3) (wd : BitVec 6) (rsv : Byte) (imm : Word) (m : SlotM) (s : State) :
    Host.Outcome State Fault Refusal :=
  onLane s i.lane (fun ln =>
    let held := ln.drv.c.p.holdsStore stg.toNat m
    ln.issueDrive i.agree held (fun ln =>
      ln.runBundle stg.toNat m (fun _ => immIllegal wd rsv m) (fun d => mRefused d m)
        (fun v d => mWrite d m v (d.ww wd.toNat imm)) held))

/-! ### Control bundles -/

/-- A control bundle: illegal with an unused bit set or inside a loop body (R133, R154); `bad` gives a copy's fault
code beyond that; `f` is its effect. -/
def Lane.controlBundle (ln : Lane) (i : DriveIssue) (rsvBad : Bool) (bad : DriveCopy → Option Nat)
    (f : DriveCopy → DriveCopy) : Lane :=
  ln.issueDrive i.agree false (fun ln =>
    let p := ln.drv.c.p
    let s := ln.drv.c.s
    if rsvBad || p.loop.isSome || s.loop.isSome then
      ln.bundleFault 0x01 (rsvBad || p.loop.isSome) (rsvBad || s.loop.isSome)
    else match bad p, bad s with
      | some k, x => ln.bundleFault k true x.isSome
      | none, some k => ln.bundleFault k false true
      | none, none => (ln.mapDrv f).retireDrive false)

/-- The iteration count of a loop. -/
def DriveCopy.loopCount (d : DriveCopy) (cs : Bool) (wn : BitVec 6) (imm : BitVec 16) : Nat :=
  if cs then bits (d.rw wn.toNat) 15 0 else imm.toNat

/-- loop (R153): the body follows; with no iteration it is passed over. -/
def DriveCopy.beginLoop (d : DriveCopy) (n stages len : Nat) : DriveCopy :=
  let d := { d with rot := 0, looped := true }
  if n = 0 then { d with pc := d.pc + 1 + len }
  else { d with pc := d.pc + 1, loop := some ⟨d.pc + 1, len, stages, n, 0⟩ }

/-- loop; its unused bits are 0 (log 33). -/
def execLoop (i : DriveIssue) (cs : Bool) (wn : BitVec 6) (imm : BitVec 16) (s1 : BitVec 3) (l1 : BitVec 10)
    (rsv : BitVec 20) (s : State) : Host.Outcome State Fault Refusal :=
  onLane s i.lane (fun ln =>
    ln.controlBundle i (rsv != 0) (fun _ => none)
      (fun d => d.beginLoop (d.loopCount cs wn imm) (s1.toNat + 1) (l1.toNat + 1)))

/-- The target of a branch: none outside program SRAM. -/
def DriveCopy.branchTo (d : DriveCopy) (off : BitVec 24) : Option Nat :=
  let t : Int := (d.pc : Int) + off.toInt
  if 0 ≤ t ∧ t < 16384 then some t.toNat else none

/-- The fault of a branch that is taken. -/
def DriveCopy.branchBad (d : DriveCopy) (taken : Bool) (off : BitVec 24) : Option Nat :=
  if taken && (d.branchTo off).isNone then some 0x02 else none

/-- A branch, taken or not. -/
def DriveCopy.branch (d : DriveCopy) (taken : Bool) (off : BitVec 24) : DriveCopy :=
  if taken then { d with pc := (d.branchTo off).getD d.pc } else d.nextPc

/-- bf: branch where a flag is 1. -/
def execBf (i : DriveIssue) (f : BitVec 2) (rsv : BitVec 30) (off : BitVec 24) (s : State) :
    Host.Outcome State Fault Refusal :=
  onLane s i.lane (fun ln =>
    ln.controlBundle i (rsv != 0) (fun d => d.branchBad (d.rf f.toNat) off) (fun d => d.branch (d.rf f.toNat) off))

/-- bnf: branch where a flag is 0. -/
def execBnf (i : DriveIssue) (f : BitVec 2) (rsv : BitVec 30) (off : BitVec 24) (s : State) :
    Host.Outcome State Fault Refusal :=
  onLane s i.lane (fun ln =>
    ln.controlBundle i (rsv != 0) (fun d => d.branchBad (!d.rf f.toNat) off) (fun d => d.branch (!d.rf f.toNat) off))

/-- br. -/
def execDriveBranch (i : DriveIssue) (rsv : Word) (off : BitVec 24) (s : State) : Host.Outcome State Fault Refusal :=
  onLane s i.lane (fun ln => ln.controlBundle i (rsv != 0) (fun d => d.branchBad true off) (fun d => d.branch true off))

/-- call: pc + 1 is pushed; a full stack is fault 0x05, a target outside 0x02. -/
def execDriveCall (i : DriveIssue) (rsv : Word) (off : BitVec 24) (s : State) : Host.Outcome State Fault Refusal :=
  onLane s i.lane (fun ln =>
    ln.controlBundle i (rsv != 0)
      (fun d => if 4 ≤ d.stack.length then some 0x05 else d.branchBad true off)
      (fun d => { d.branch true off with stack := (d.pc + 1) :: d.stack }))

/-- ret. -/
def execRet (i : DriveIssue) (rsv : BitVec 56) (s : State) : Host.Outcome State Fault Refusal :=
  onLane s i.lane (fun ln =>
    ln.controlBundle i (rsv != 0) (fun d => if d.stack.isEmpty then some 0x05 else none)
      (fun d => { d with pc := d.stack.headD d.pc, stack := d.stack.tail }))

/-- fence: waits until every earlier store has drained or been released. -/
def execDriveFence (i : DriveIssue) (rsv : BitVec 56) (s : State) : Host.Outcome State Fault Refusal :=
  onLane s i.lane (fun ln =>
    if ln.driveDrained then ln.controlBundle i (rsv != 0) (fun _ => none) DriveCopy.nextPc
    else ln.issueDrive i.agree false (fun ln =>
      if rsv != 0 || ln.drv.c.p.loop.isSome || ln.drv.c.s.loop.isSome then
        ln.bundleFault 0x01 (rsv != 0 || ln.drv.c.p.loop.isSome) (rsv != 0 || ln.drv.c.s.loop.isSome)
      else { ln with drv := { ln.drv with run := .fence } }))

/-! ### wfp (R155, R156, R158) -/

/-- Lane time from the period start to its wfp, in 8 ns units. -/
def Lane.showUsed (ln : Lane) : Lane := ln.put LCTL_DSTAT_USED (min (since ln.lt ln.drv.periodStart / 64) 0xFFFF)

/-- wfp waits, or ends at once where an urgent event or an overrun is latched. -/
def Lane.beginWait (ln : Lane) : Lane :=
  let ln := ((ln.mapDrv DriveCopy.nextPc).retireDrive false).showUsed
  let why := 2 * b2n ln.drv.urgent + 4 * b2n ln.drv.overrun
  let ln := { ln with drv := { ln.drv with urgent := false, overrun := false } }
  if why = 0 then { ln with drv := { ln.drv with run := .waiting } }.put LCTL_DSTAT_WAIT 1 else ln.endWfp why

/-- The window closes before a wfp (R305). -/
def Lane.closeForWfp (ln : Lane) : Lane :=
  if ln.drv.run == .running && ln.domOn 3 && decide (0 < ln.drv.count) then ln.closeDrive else ln

def execWfp (i : DriveIssue) (rsv : BitVec 56) (s : State) : Host.Outcome State Fault Refusal :=
  onLane s i.lane (fun ln =>
    ln.closeForWfp.issueDrive i.agree false (fun ln =>
      if rsv != 0 || ln.drv.c.p.loop.isSome || ln.drv.c.s.loop.isSome then
        ln.bundleFault 0x01 (rsv != 0 || ln.drv.c.p.loop.isSome) (rsv != 0 || ln.drv.c.s.loop.isSome)
      else ln.beginWait))

/-! ### The output hold queue (R151, R152, R157) -/

/-- What a released entry of the drive pair does. -/
def Lane.driveRelease (ln : Lane) (e : HoldEntry) : Lane :=
  match driveArea e.addr with
  | .status 0 => ln.publishStatus
  | .status k => ln.mapMbox (fun m => m.setStatus k e.data)
  | .leg k => ln.releaseLeg k e.data
  | .chan k => ln.releaseChan k e.data
  | _ => ln

/-- The oldest entry of each drive copy is released, if its window has compared equal. -/
def Lane.releaseDrive (ln : Lane) : Lane :=
  match ln.drv.c.p.hold, ln.drv.c.s.hold with
  | p :: tp, s :: ts =>
    if ln.drv.run == .stopped || !p.ok || !s.ok then ln
    else if p ≠ s then ln.driveFault 0x08 3 0
    else
      ((((ln.modDrv .p (fun c => { c with hold := tp })).modDrv .s (fun c => { c with hold := ts })).driveRelease p)).endDriveFence
  | _, _ => ln

/-! ### Drain, close and release -/

/-- A posted store drains (R73). -/
def execStoreDrain (l : LaneId) (e : Engine) (s : State) : Host.Outcome State Fault Refusal :=
  onLane s l (fun ln =>
    match e with
    | .helm => ln.drainHelm.endFence
    | .drive => ln.drainDrive.endDriveFence)

/-- A tally window closes where R305 has it. -/
def execTallyWindowClose (l : LaneId) (e : Engine) (s : State) : Host.Outcome State Fault Refusal :=
  onLane s l (fun ln =>
    match e with
    | .helm => if ln.helm.run != .stopped && ln.domOn 1 && ln.closeBefore false then ln.closeHelm else ln
    | .drive =>
      if ln.drv.run != .stopped && ln.domOn 3 && (ln.driveCloseDue || ln.drv.lastHeld) then ln.closeDrive else ln)

/-- A held entry of an equal window is released (R117, R118, R151). -/
def execHeldEntryRelease (l : LaneId) (e : Engine) (miss : Option Copy) (t : LTime) (s : State) :
    Host.Outcome State Fault Refusal :=
  onLane s l (fun ln =>
    let ln := ln.at t
    match e with
    | .helm => ln.releaseHelm miss
    | .drive => ln.releaseDrive)

end Sys2Proof.Machine
end

