-- ==== Sys2Proof/Machine/HelmAlu.lean ====
section
/-!
DEFINITION. The helm's register instructions (chapter 3): register ALU, immediates, multiply and divide, accumulators,
compares, predicates and predicate moves. Each meaning is the instruction's own line of the chapter's tables over the
shared issue of HelmPair.
-/

namespace Sys2Proof.Machine

open Sys2Proof

/-! ### Shapes -/

/-- Format A: gd takes a result of ga and gb. -/
def Lane.aluInstr (ln : Lane) (i : HelmIssue) (illegal : Bool) (gd ga gb : Reg5) (op : Word → Word → Word) : Lane :=
  ln.plainInstr i illegal (fun c => c.wg gd (op (c.rg ga) (c.rg gb)))

/-- Format A with saturation: SV where the result saturates (R66). -/
def Lane.satInstr (ln : Lane) (i : HelmIssue) (illegal : Bool) (gd ga gb : Reg5) (op : Word → Word → Word × Bool) : Lane :=
  ln.plainInstr i illegal (fun c => let r := op (c.rg ga) (c.rg gb); (c.wg gd r.1).setSv r.2)

/-- A shift: by the low bits of gb, or by the gb field itself. -/
def Lane.shiftInstr (ln : Lane) (i : HelmIssue) (imm : Bool) (gd ga gb : Reg5) (op : Word → Nat → Word × Bool) : Lane :=
  ln.plainInstr i false (fun c =>
    let sh := if imm then gb.toNat else (c.rg gb).toNat % 32
    let r := op (c.rg ga) sh
    (c.wg gd r.1).setSv r.2)

/-- A divide with its flags (R82). -/
def Lane.divInstr (ln : Lane) (i : HelmIssue) (gd ga gb : Reg5) (op : Word → Word → DivResult) : Lane :=
  ln.plainInstr i false (fun c => let r := op (c.rg ga) (c.rg gb); ((c.wg gd r.val).setSv r.sv).setDz r.dz)

/-- An accumulator takes a saturated sum (R66, R67). -/
def Lane.accInstr (ln : Lane) (i : HelmIssue) (hb : Bool) (gd ga gb : Reg5) (op : Acc → Word → Word → Acc × Bool) : Lane :=
  ln.plainInstr i (gd != 0) (fun c => let r := op (c.ra hb) (c.rg ga) (c.rg gb); (c.wa hb r.1).setAv r.2)

/-- A register takes a part of an accumulator; `sh` is the gb field. -/
def Lane.fromAcc (ln : Lane) (i : HelmIssue) (hb illegal : Bool) (gd : Reg5) (op : Acc → Word × Bool) : Lane :=
  ln.plainInstr i illegal (fun c => let r := op (c.ra hb); (c.wg gd r.1).setSv r.2)

/-- A predicate takes a result of two registers. -/
def Lane.cmpInstr (ln : Lane) (i : HelmIssue) (illegal : Bool) (qd : BitVec 2) (f : HelmCopy → Bool) : Lane :=
  ln.plainInstr i (illegal || qd == 0) (fun c => c.wq qd (f c))

/-- The full products of two registers. -/
def prodS (a b : Word) : Int := a.toInt * b.toInt
def prodU (a b : Word) : Nat := a.toNat * b.toNat

/-! ### Register ALU: opcodes 0x00 and 0x05 -/

/-- add: gd takes ga + gb. -/
def execAdd (i : HelmIssue) (gd ga gb : Reg5) (s : State) : Host.Outcome State Fault Refusal :=
  onLane s i.lane (fun ln => ln.aluInstr i false gd ga gb (fun a b => a + b))

/-- sub: gd takes ga - gb. -/
def execSub (i : HelmIssue) (gd ga gb : Reg5) (s : State) : Host.Outcome State Fault Refusal :=
  onLane s i.lane (fun ln => ln.aluInstr i false gd ga gb (fun a b => a - b))

/-- and. -/
def execAnd (i : HelmIssue) (gd ga gb : Reg5) (s : State) : Host.Outcome State Fault Refusal :=
  onLane s i.lane (fun ln => ln.aluInstr i false gd ga gb (fun a b => a &&& b))

/-- or. -/
def execOr (i : HelmIssue) (gd ga gb : Reg5) (s : State) : Host.Outcome State Fault Refusal :=
  onLane s i.lane (fun ln => ln.aluInstr i false gd ga gb (fun a b => a ||| b))

/-- xor. -/
def execXor (i : HelmIssue) (gd ga gb : Reg5) (s : State) : Host.Outcome State Fault Refusal :=
  onLane s i.lane (fun ln => ln.aluInstr i false gd ga gb (fun a b => a ^^^ b))

/-- andn: ga AND NOT gb. -/
def execAndn (i : HelmIssue) (gd ga gb : Reg5) (s : State) : Host.Outcome State Fault Refusal :=
  onLane s i.lane (fun ln => ln.aluInstr i false gd ga gb (fun a b => a &&& ~~~b))

/-- sll: logical left shift. -/
def execSll (i : HelmIssue) (imm : Bool) (gd ga gb : Reg5) (s : State) : Host.Outcome State Fault Refusal :=
  onLane s i.lane (fun ln => ln.shiftInstr i imm gd ga gb (fun a n => (a <<< n, false)))

/-- srl: logical right shift. -/
def execSrl (i : HelmIssue) (imm : Bool) (gd ga gb : Reg5) (s : State) : Host.Outcome State Fault Refusal :=
  onLane s i.lane (fun ln => ln.shiftInstr i imm gd ga gb (fun a n => (a >>> n, false)))

/-- sra: arithmetic right shift. -/
def execSra (i : HelmIssue) (imm : Bool) (gd ga gb : Reg5) (s : State) : Host.Outcome State Fault Refusal :=
  onLane s i.lane (fun ln => ln.shiftInstr i imm gd ga gb (fun a n => (a.sshiftRight n, false)))

/-- slt: 1 where ga is below gb, signed. -/
def execSlt (i : HelmIssue) (gd ga gb : Reg5) (s : State) : Host.Outcome State Fault Refusal :=
  onLane s i.lane (fun ln => ln.aluInstr i false gd ga gb (fun a b => boolWord (a.slt b)))

/-- sltu: 1 where ga is below gb, unsigned. -/
def execSltu (i : HelmIssue) (gd ga gb : Reg5) (s : State) : Host.Outcome State Fault Refusal :=
  onLane s i.lane (fun ln => ln.aluInstr i false gd ga gb (fun a b => boolWord (a.ult b)))

/-- min: the signed minimum. -/
def execMin (i : HelmIssue) (gd ga gb : Reg5) (s : State) : Host.Outcome State Fault Refusal :=
  onLane s i.lane (fun ln => ln.aluInstr i false gd ga gb (fun a b => if a.slt b then a else b))

/-- max: the signed maximum. -/
def execMax (i : HelmIssue) (gd ga gb : Reg5) (s : State) : Host.Outcome State Fault Refusal :=
  onLane s i.lane (fun ln => ln.aluInstr i false gd ga gb (fun a b => if b.slt a then a else b))

/-- minu: the unsigned minimum. -/
def execMinu (i : HelmIssue) (gd ga gb : Reg5) (s : State) : Host.Outcome State Fault Refusal :=
  onLane s i.lane (fun ln => ln.aluInstr i false gd ga gb (fun a b => if a.ult b then a else b))

/-- maxu: the unsigned maximum. -/
def execMaxu (i : HelmIssue) (gd ga gb : Reg5) (s : State) : Host.Outcome State Fault Refusal :=
  onLane s i.lane (fun ln => ln.aluInstr i false gd ga gb (fun a b => if b.ult a then a else b))

/-- abs: wrapping absolute value; ga only. -/
def execAbs (i : HelmIssue) (gd ga gb : Reg5) (s : State) : Host.Outcome State Fault Refusal :=
  onLane s i.lane (fun ln => ln.aluInstr i (gb != 0) gd ga gb (fun a _ => absOf a))

/-- clz: leading zeros; ga only. -/
def execClz (i : HelmIssue) (gd ga gb : Reg5) (s : State) : Host.Outcome State Fault Refusal :=
  onLane s i.lane (fun ln => ln.aluInstr i (gb != 0) gd ga gb (fun a _ => clzOf a))

/-- pop: set bits; ga only. -/
def execPop (i : HelmIssue) (gd ga gb : Reg5) (s : State) : Host.Outcome State Fault Refusal :=
  onLane s i.lane (fun ln => ln.aluInstr i (gb != 0) gd ga gb (fun a _ => popOf a))

/-- sxb: sign-extended byte; ga only. -/
def execSxb (i : HelmIssue) (gd ga gb : Reg5) (s : State) : Host.Outcome State Fault Refusal :=
  onLane s i.lane (fun ln => ln.aluInstr i (gb != 0) gd ga gb (fun a _ => (a.extractLsb' 0 8).signExtend 32))

/-- sxh: sign-extended halfword; ga only. -/
def execSxh (i : HelmIssue) (gd ga gb : Reg5) (s : State) : Host.Outcome State Fault Refusal :=
  onLane s i.lane (fun ln => ln.aluInstr i (gb != 0) gd ga gb (fun a _ => (a.extractLsb' 0 16).signExtend 32))

/-- zxb: zero-extended byte; ga only. -/
def execZxb (i : HelmIssue) (gd ga gb : Reg5) (s : State) : Host.Outcome State Fault Refusal :=
  onLane s i.lane (fun ln => ln.aluInstr i (gb != 0) gd ga gb (fun a _ => (a.extractLsb' 0 8).setWidth 32))

/-- zxh: zero-extended halfword; ga only. -/
def execZxh (i : HelmIssue) (gd ga gb : Reg5) (s : State) : Host.Outcome State Fault Refusal :=
  onLane s i.lane (fun ln => ln.aluInstr i (gb != 0) gd ga gb (fun a _ => (a.extractLsb' 0 16).setWidth 32))

/-- qadd: saturating sum. -/
def execQadd (i : HelmIssue) (gd ga gb : Reg5) (s : State) : Host.Outcome State Fault Refusal :=
  onLane s i.lane (fun ln => ln.satInstr i false gd ga gb (fun a b => sat32 (a.toInt + b.toInt)))

/-- qsub: saturating difference. -/
def execQsub (i : HelmIssue) (gd ga gb : Reg5) (s : State) : Host.Outcome State Fault Refusal :=
  onLane s i.lane (fun ln => ln.satInstr i false gd ga gb (fun a b => sat32 (a.toInt - b.toInt)))

/-- qneg: saturating negative; ga only. -/
def execQneg (i : HelmIssue) (gd ga gb : Reg5) (s : State) : Host.Outcome State Fault Refusal :=
  onLane s i.lane (fun ln => ln.satInstr i (gb != 0) gd ga gb (fun a _ => sat32 (-a.toInt)))

/-- qabs: saturating absolute value; ga only. -/
def execQabs (i : HelmIssue) (gd ga gb : Reg5) (s : State) : Host.Outcome State Fault Refusal :=
  onLane s i.lane (fun ln => ln.satInstr i (gb != 0) gd ga gb (fun a _ => sat32 (if a.msb then -a.toInt else a.toInt)))

/-- qshl: saturating left shift. -/
def execQshl (i : HelmIssue) (imm : Bool) (gd ga gb : Reg5) (s : State) : Host.Outcome State Fault Refusal :=
  onLane s i.lane (fun ln => ln.shiftInstr i imm gd ga gb (fun a n => sat32 (a.toInt * 2 ^ n)))

/-! ### Immediates: opcodes 0x01 to 0x07 -/

/-- addi: the sign-extended immediate is added. -/
def execAddi (i : HelmIssue) (gd ga : Reg5) (imm : Imm13) (s : State) : Host.Outcome State Fault Refusal :=
  onLane s i.lane (fun ln => ln.plainInstr i false (fun c => c.wg gd (c.rg ga + sext13 imm)))

/-- andi: zero-extended immediate. -/
def execAndi (i : HelmIssue) (gd ga : Reg5) (imm : Imm13) (s : State) : Host.Outcome State Fault Refusal :=
  onLane s i.lane (fun ln => ln.plainInstr i false (fun c => c.wg gd (c.rg ga &&& zext13 imm)))

/-- ori: zero-extended immediate. -/
def execOri (i : HelmIssue) (gd ga : Reg5) (imm : Imm13) (s : State) : Host.Outcome State Fault Refusal :=
  onLane s i.lane (fun ln => ln.plainInstr i false (fun c => c.wg gd (c.rg ga ||| zext13 imm)))

/-- xori: zero-extended immediate. -/
def execXori (i : HelmIssue) (gd ga : Reg5) (imm : Imm13) (s : State) : Host.Outcome State Fault Refusal :=
  onLane s i.lane (fun ln => ln.plainInstr i false (fun c => c.wg gd (c.rg ga ^^^ zext13 imm)))

/-- lui: imm18 << 14. -/
def execLui (i : HelmIssue) (gd : Reg5) (imm : BitVec 18) (s : State) : Host.Outcome State Fault Refusal :=
  onLane s i.lane (fun ln => ln.plainInstr i false (fun c => c.wg gd (imm ++ (0 : BitVec 14))))

/-- oril: gd OR imm18[13:0]; imm18[17:14] must be 0. -/
def execOril (i : HelmIssue) (gd : Reg5) (imm : BitVec 18) (s : State) : Host.Outcome State Fault Refusal :=
  onLane s i.lane (fun ln =>
    ln.plainInstr i (imm.extractLsb' 14 4 != 0) (fun c => c.wg gd (c.rg gd ||| (imm.extractLsb' 0 14).setWidth 32)))

/-! ### Multiply and divide: opcodes 0x08 and 0x09 -/

/-- mul: the low word of the product. -/
def execMul (i : HelmIssue) (gd ga gb : Reg5) (s : State) : Host.Outcome State Fault Refusal :=
  onLane s i.lane (fun ln => ln.aluInstr i false gd ga gb (fun a b => a * b))

/-- mulh: the high word of the signed product. -/
def execMulh (i : HelmIssue) (gd ga gb : Reg5) (s : State) : Host.Outcome State Fault Refusal :=
  onLane s i.lane (fun ln => ln.aluInstr i false gd ga gb (fun a b => wordI (prodS a b / 4294967296)))

/-- mulhu: the high word of the unsigned product. -/
def execMulhu (i : HelmIssue) (gd ga gb : Reg5) (s : State) : Host.Outcome State Fault Refusal :=
  onLane s i.lane (fun ln => ln.aluInstr i false gd ga gb (fun a b => BitVec.ofNat 32 (prodU a b / 4294967296)))

/-- qmul: rounded saturating Q1.31 product (R81). -/
def execQmul (i : HelmIssue) (gd ga gb : Reg5) (s : State) : Host.Outcome State Fault Refusal :=
  onLane s i.lane (fun ln => ln.satInstr i false gd ga gb (qmulOf))

/-- div: signed quotient, truncated towards zero (R82). -/
def execDiv (i : HelmIssue) (gd ga gb : Reg5) (s : State) : Host.Outcome State Fault Refusal :=
  onLane s i.lane (fun ln => ln.divInstr i gd ga gb divOf)

/-- divu: unsigned quotient (R82). -/
def execDivu (i : HelmIssue) (gd ga gb : Reg5) (s : State) : Host.Outcome State Fault Refusal :=
  onLane s i.lane (fun ln => ln.divInstr i gd ga gb divuOf)

/-- rem: signed remainder (R82). -/
def execRem (i : HelmIssue) (gd ga gb : Reg5) (s : State) : Host.Outcome State Fault Refusal :=
  onLane s i.lane (fun ln => ln.divInstr i gd ga gb remOf)

/-- remu: unsigned remainder (R82). -/
def execRemu (i : HelmIssue) (gd ga gb : Reg5) (s : State) : Host.Outcome State Fault Refusal :=
  onLane s i.lane (fun ln => ln.divInstr i gd ga gb remuOf)

/-! ### Accumulators: opcode 0x0A -/

/-- mac: the signed product is added. -/
def execMac (i : HelmIssue) (hb : Bool) (gd ga gb : Reg5) (s : State) : Host.Outcome State Fault Refusal :=
  onLane s i.lane (fun ln => ln.accInstr i hb gd ga gb (fun x a b => sat72 (x.toInt + prodS a b)))

/-- msu: the signed product is subtracted. -/
def execMsu (i : HelmIssue) (hb : Bool) (gd ga gb : Reg5) (s : State) : Host.Outcome State Fault Refusal :=
  onLane s i.lane (fun ln => ln.accInstr i hb gd ga gb (fun x a b => sat72 (x.toInt - prodS a b)))

/-- macu: the unsigned product is added. -/
def execMacu (i : HelmIssue) (hb : Bool) (gd ga gb : Reg5) (s : State) : Host.Outcome State Fault Refusal :=
  onLane s i.lane (fun ln => ln.accInstr i hb gd ga gb (fun x a b => sat72 (x.toInt + (prodU a b : Int))))

/-- mst: the signed product. -/
def execMst (i : HelmIssue) (hb : Bool) (gd ga gb : Reg5) (s : State) : Host.Outcome State Fault Refusal :=
  onLane s i.lane (fun ln => ln.accInstr i hb gd ga gb (fun _ a b => (BitVec.ofInt 72 (prodS a b), false)))

/-- clr: 0; no field is used. -/
def execClr (i : HelmIssue) (hb : Bool) (gd ga gb : Reg5) (s : State) : Host.Outcome State Fault Refusal :=
  onLane s i.lane (fun ln => ln.plainInstr i (gd != 0 || ga != 0 || gb != 0) (fun c => c.wa hb 0))

/-- mtac: ga as the upper word and gb as the lower, sign-extended. -/
def execMtac (i : HelmIssue) (hb : Bool) (gd ga gb : Reg5) (s : State) : Host.Outcome State Fault Refusal :=
  onLane s i.lane (fun ln => ln.accInstr i hb gd ga gb (fun _ a b => ((a ++ b).signExtend 72, false)))

/-- mfal: bits 31:0. -/
def execMfal (i : HelmIssue) (hb : Bool) (gd ga gb : Reg5) (s : State) : Host.Outcome State Fault Refusal :=
  onLane s i.lane (fun ln => ln.fromAcc i hb (ga != 0 || gb != 0) gd (fun x => (x.extractLsb' 0 32, false)))

/-- mfah: bits 63:32. -/
def execMfah (i : HelmIssue) (hb : Bool) (gd ga gb : Reg5) (s : State) : Host.Outcome State Fault Refusal :=
  onLane s i.lane (fun ln => ln.fromAcc i hb (ga != 0 || gb != 0) gd (fun x => (x.extractLsb' 32 32, false)))

/-- mfag: the guard bits, sign-extended. -/
def execMfag (i : HelmIssue) (hb : Bool) (gd ga gb : Reg5) (s : State) : Host.Outcome State Fault Refusal :=
  onLane s i.lane (fun ln => ln.fromAcc i hb (ga != 0 || gb != 0) gd (fun x => ((x.extractLsb' 64 8).signExtend 32, false)))

/-- exq: rounded saturated Q1.31 extract. -/
def execExq (i : HelmIssue) (hb : Bool) (gd ga gb : Reg5) (s : State) : Host.Outcome State Fault Refusal :=
  onLane s i.lane (fun ln => ln.fromAcc i hb (ga != 0 || gb != 0) gd (exqOf))

/-- exs: shifted saturated extract; the gb field is the shift. -/
def execExs (i : HelmIssue) (hb : Bool) (gd ga gb : Reg5) (s : State) : Host.Outcome State Fault Refusal :=
  onLane s i.lane (fun ln => ln.fromAcc i hb (ga != 0) gd (fun x => exsOf x gb.toNat))

/-! ### Compares and predicates: opcodes 0x28 to 0x2B -/

/-- cmp: ga against gb; bits [7:0] must be 0, 0b111 is no condition. -/
def execCmp (i : HelmIssue) (qd : BitVec 2) (ga gb : Reg5) (cond : BitVec 3) (rsv : Byte) (s : State) :
    Host.Outcome State Fault Refusal :=
  onLane s i.lane (fun ln =>
    ln.cmpInstr i (cond == 7 || rsv != 0) qd (fun c => condOf cond.toNat (c.rg ga) (c.rg gb)))

/-- cmpi: ga against the sign-extended immediate. -/
def execCmpi (i : HelmIssue) (qd : BitVec 2) (ga : Reg5) (cond : BitVec 3) (imm : Imm13) (s : State) :
    Host.Outcome State Fault Refusal :=
  onLane s i.lane (fun ln => ln.cmpInstr i (cond == 7) qd (fun c => condOf cond.toNat (c.rg ga) (sext13 imm)))

/-- qand: q[qa] AND q[qb]; bits [13:0] must be 0. -/
def execQand (i : HelmIssue) (qd qa qb : BitVec 2) (rsv : BitVec 14) (s : State) : Host.Outcome State Fault Refusal :=
  onLane s i.lane (fun ln => ln.cmpInstr i (rsv != 0) qd (fun c => c.rq qa && c.rq qb))

/-- qor: q[qa] OR q[qb]; bits [13:0] must be 0. -/
def execQor (i : HelmIssue) (qd qa qb : BitVec 2) (rsv : BitVec 14) (s : State) : Host.Outcome State Fault Refusal :=
  onLane s i.lane (fun ln => ln.cmpInstr i (rsv != 0) qd (fun c => c.rq qa || c.rq qb))

/-- qxor: q[qa] XOR q[qb]; bits [13:0] must be 0. -/
def execQxor (i : HelmIssue) (qd qa qb : BitVec 2) (rsv : BitVec 14) (s : State) : Host.Outcome State Fault Refusal :=
  onLane s i.lane (fun ln => ln.cmpInstr i (rsv != 0) qd (fun c => c.rq qa != c.rq qb))

/-- qandn: q[qa] AND NOT q[qb]; bits [13:0] must be 0. -/
def execQandn (i : HelmIssue) (qd qa qb : BitVec 2) (rsv : BitVec 14) (s : State) : Host.Outcome State Fault Refusal :=
  onLane s i.lane (fun ln => ln.cmpInstr i (rsv != 0) qd (fun c => c.rq qa && !c.rq qb))

/-- mfq: the predicates as a word; bit 0 reads 1. -/
def execMfq (i : HelmIssue) (gd ga gb : Reg5) (s : State) : Host.Outcome State Fault Refusal :=
  onLane s i.lane (fun ln => ln.plainInstr i (ga != 0 || gb != 0) (fun c => c.wg gd ((c.q ||| 1).setWidth 32)))

/-- mtq: q1 to q3 from ga[3:1]. -/
def execMtq (i : HelmIssue) (gd ga gb : Reg5) (s : State) : Host.Outcome State Fault Refusal :=
  onLane s i.lane (fun ln =>
    ln.plainInstr i (gd != 0 || gb != 0) (fun c => { c with q := ((c.rg ga).setWidth 4) ||| 1 }))

end Sys2Proof.Machine
end

