-- ==== Sys2Proof/Machine/HelmCtl.lean ====
section
/-!
DEFINITION. The helm's branches and jumps, system instructions, and the entries of interrupts and release errors (R78,
R80, R89 to R96, R106 to R114, R554).
-/

namespace Sys2Proof.Machine

open Sys2Proof

/-! ### Branches and jumps (R90) -/

/-- A target that code SRAM does not hold. -/
def badTarget (a : Word) : Bool := !alignedTo a 4 || !inCode a

/-- What a taken branch to a bad target raises. -/
def targetFound (takes : Bool) (a : Word) : Found := if takes && badTarget a then some (0x02, some a) else none

/-- A branch or jump: `target` gives a copy's target, `link` the register that takes the return address. -/
def Lane.jumpInstr (ln : Lane) (i : HelmIssue) (illegal : Bool) (target : HelmCopy → Word) (link : Reg5) : Lane :=
  ln.issueHelm i false (fun ln =>
    let fp := targetFound (ln.helm.c.p.takes i) (target ln.helm.c.p)
    let fs := targetFound (ln.helm.c.s.takes i) (target ln.helm.c.s)
    if badPred i || illegal then ln.raiseBoth 0x01
    else if fp.isSome || fs.isSome then ln.raise fp fs
    else (ln.mapHelm (fun c =>
      if c.takes i then { c.wg link (c.pc + 4) with pc := target c } else c.skip)).retireHelm false)

/-- br. -/
def execBr (i : HelmIssue) (off : BitVec 23) (s : State) : Host.Outcome State Fault Refusal :=
  onLane s i.lane (fun ln => ln.jumpInstr i false (fun c => branchTarget c.pc off) 0)

/-- call: g31 takes the return address. -/
def execCall (i : HelmIssue) (off : BitVec 23) (s : State) : Host.Outcome State Fault Refusal :=
  onLane s i.lane (fun ln => ln.jumpInstr i false (fun c => branchTarget c.pc off) 31)

/-- jr: only ga is used. -/
def execJr (i : HelmIssue) (gd ga gb : Reg5) (fn : Byte) (s : State) : Host.Outcome State Fault Refusal :=
  onLane s i.lane (fun ln => ln.jumpInstr i (gd != 0 || gb != 0 || fn != 0) (fun c => c.rg ga) 0)

/-- jalr: gd takes the return address, pc the old ga. -/
def execJalr (i : HelmIssue) (gd ga gb : Reg5) (fn : Byte) (s : State) : Host.Outcome State Fault Refusal :=
  onLane s i.lane (fun ln => ln.jumpInstr i (gb != 0 || fn != 0) (fun c => c.rg ga) gd)

/-! ### Control registers (R91, R95) -/

/-- mfcs: an index above 7 is illegal. -/
def execMfcs (i : HelmIssue) (gd cs ga : Reg5) (rsv : Byte) (s : State) : Host.Outcome State Fault Refusal :=
  onLane s i.lane (fun ln =>
    ln.plainInstr i (decide (7 < cs.toNat) || ga != 0 || rsv != 0) (fun c => c.wg gd (c.readCs i.lane cs.toNat)))

/-- mtcs. -/
def execMtcs (i : HelmIssue) (gd cs ga : Reg5) (rsv : Byte) (s : State) : Host.Outcome State Fault Refusal :=
  onLane s i.lane (fun ln =>
    ln.plainInstr i (decide (7 < cs.toNat) || gd != 0 || rsv != 0) (fun c => c.writeCs cs.toNat (c.rg ga)))

/-! ### trap, eret, fence, wfe -/

/-- A window that this retirement has made due closes before the exception that follows it (R306). -/
def Lane.closeIfDue (ln : Lane) : Lane := if ln.closeDue then ln.closeHelm else ln

/-- The trap exception of both copies, with its number. -/
def Lane.enterTrap (ln : Lane) (no : Nat) : Lane :=
  if ln.helm.run == .stopped then ln else ln.enterExc 0x0A (fun c => { c with cause := setBits c.cause 15 8 no })

/-- trap retires, then raises its exception (R92). -/
def Lane.trapInstr (ln : Lane) (i : HelmIssue) (illegal : Bool) (no : Nat) : Lane :=
  ln.issueHelm i false (fun ln =>
    let takes := ln.helm.c.p.takes i
    if badPred i || illegal then ln.raiseBoth 0x01
    else if takes != ln.helm.c.s.takes i then ln.helmFault 0x03 3 0
    else
      let ln := (ln.mapHelm HelmCopy.skip).retireHelm false
      if takes then ln.closeIfDue.enterTrap no else ln)

/-- trap: only code[7:0] may be other than 0. -/
def execTrap (i : HelmIssue) (rsv : BitVec 7) (code : BitVec 16) (s : State) : Host.Outcome State Fault Refusal :=
  onLane s i.lane (fun ln => ln.trapInstr i (rsv != 0 || code.extractLsb' 8 8 != 0) (code.extractLsb' 0 8).toNat)

/-- A copy returns from an exception: IE takes PIE, pc takes CS_EPC. -/
def HelmCopy.eret (c : HelmCopy) : HelmCopy :=
  { c with stat := (c.stat &&& ~~~(1 : Word)) ||| ((c.stat >>> 1) &&& 1), pc := c.epc }

/-- eret: the depth falls by 1, never below 0 (R114); a target outside code SRAM raises FETCH_ADDR (R90). -/
def Lane.eretInstr (ln : Lane) (i : HelmIssue) (illegal : Bool) : Lane :=
  ln.issueHelm i false (fun ln =>
    let tp := ln.helm.c.p.takes i
    let ts := ln.helm.c.s.takes i
    let fp := targetFound tp ln.helm.c.p.epc
    let fs := targetFound ts ln.helm.c.s.epc
    if badPred i || illegal then ln.raiseBoth 0x01
    else if fp.isSome || fs.isSome then ln.raise fp fs
    else
      let ln := (ln.mapHelm (fun c => if c.takes i then c.eret else c.skip)).retireHelm false
      if tp then
        let ln := ln.setDepth (ln.helm.depth - 1)
        { ln with helm := { ln.helm with eretSince := ln.helm.deferred } }
      else ln)

/-- eret: no field is used. -/
def execEret (i : HelmIssue) (rsv : BitVec 23) (s : State) : Host.Outcome State Fault Refusal :=
  onLane s i.lane (fun ln => ln.eretInstr i (rsv != 0))

/-- An instruction that waits: `done` says that it need not, and `run` how the pair waits. While it waits it has not
retired. -/
def Lane.waitInstr (ln : Lane) (i : HelmIssue) (illegal : Bool) (done : Lane → Bool) (run : Run) : Lane :=
  ln.issueHelm i false (fun ln =>
    if badPred i || illegal then ln.raiseBoth 0x01
    else if !ln.helm.c.p.takes i || done ln then (ln.mapHelm HelmCopy.skip).retireHelm false
    else { ln with helm := { ln.helm with run := run } })

/-- fence: until every posted store has drained and every held one has been released. -/
def execFence (i : HelmIssue) (rsv : BitVec 23) (s : State) : Host.Outcome State Fault Refusal :=
  onLane s i.lane (fun ln => ln.waitInstr i (rsv != 0) Lane.helmDrained .fence)

/-- wfe: until an interrupt request is pending, whether enabled or not (R110). -/
def execWfe (i : HelmIssue) (rsv : BitVec 23) (s : State) : Host.Outcome State Fault Refusal :=
  onLane s i.lane (fun ln => ln.waitInstr i (rsv != 0) (fun ln => ln.irqPend != 0) .waiting)

/-! ### Interrupts and release errors -/

/-- The lowest-numbered source that is enabled and pending is taken at a boundary (R106, R110, R111, R113). -/
def Lane.takeIrq (ln : Lane) : Lane :=
  if ln.atBoundary && !ln.releaseDue && ln.helmIe then
    match ln.irqNext with
    | some n => ln.enterExc (0x40 + n) (fun c => c)
    | none => ln
  else ln

/-- An interrupt is taken. -/
def execInterruptEntry (l : LaneId) (s : State) : Host.Outcome State Fault Refusal := onLane s l Lane.takeIrq

/-- A release error raises STORE_BUS at the boundary after the release (R89). -/
def execReleaseErrorEntry (l : LaneId) (s : State) : Host.Outcome State Fault Refusal :=
  onLane s l (fun ln => if ln.atBoundary && !ln.helm.deferred then ln.enterReleaseError else ln)

/-- A deferred release error is taken where R554 has it. -/
def execDeferredReleaseError (l : LaneId) (s : State) : Host.Outcome State Fault Refusal :=
  onLane s l (fun ln => if ln.atBoundary && ln.helm.deferred && ln.releaseDue then ln.enterReleaseError else ln)

end Sys2Proof.Machine
end

