-- ==== Sys2Proof/Machine/Dispatch.lean ====
section
/-!
DEFINITION. The meaning of each command: one arm per constructor, each a direct call of the command's own meaning.
-/

namespace Sys2Proof.Machine

open Sys2Proof

def exec (i : Instr) (s : State) : Host.Outcome State Fault Refusal :=
  match i with
  | .feedPresent l f t => Sys2Proof.Machine.execFeedPresent l f t s
  | .feedLoss l f t => Sys2Proof.Machine.execFeedLoss l f t s
  | .reverseCurrentTurnOff l f => Sys2Proof.Machine.execReverseCurrentTurnOff l f s
  | .feedVoltageRefresh l mv1 mv2 t => Sys2Proof.Machine.execFeedVoltageRefresh l mv1 mv2 t s
  | .pwrDomctlWrite l v => Sys2Proof.Machine.execPwrDomctlWrite l v s
  | .domainQuietAcknowledge l d => Sys2Proof.Machine.execDomainQuietAcknowledge l d s
  | .domainRailStable l d => Sys2Proof.Machine.execDomainRailStable l d s
  | .domainRailOff l d => Sys2Proof.Machine.execDomainRailOff l d s
  | .crystalCheck l missNs ppm t => Sys2Proof.Machine.execCrystalCheck l missNs ppm t s
  | .controlFrameStart l bad => Sys2Proof.Machine.execControlFrameStart l bad s
  | .pwmPeriodStart l obs bad => Sys2Proof.Machine.execPwmPeriodStart l obs bad s
  | .paceCtlWrite l v => Sys2Proof.Machine.execPaceCtlWrite l v s
  | .paceRateWrite l v => Sys2Proof.Machine.execPaceRateWrite l v s
  | .coreVoltageReached l => Sys2Proof.Machine.execCoreVoltageReached l s
  | .timeNowLoRead l t => Sys2Proof.Machine.execTimeNowLoRead l t s
  | .timeCmphiWrite l v t => Sys2Proof.Machine.execTimeCmphiWrite l v t s
  | .compareMatch l => Sys2Proof.Machine.execCompareMatch l s
  | .add iss gd ga gb => Sys2Proof.Machine.execAdd iss gd ga gb s
  | .sub iss gd ga gb => Sys2Proof.Machine.execSub iss gd ga gb s
  | .and iss gd ga gb => Sys2Proof.Machine.execAnd iss gd ga gb s
  | .or iss gd ga gb => Sys2Proof.Machine.execOr iss gd ga gb s
  | .xor iss gd ga gb => Sys2Proof.Machine.execXor iss gd ga gb s
  | .andn iss gd ga gb => Sys2Proof.Machine.execAndn iss gd ga gb s
  | .sll iss imm gd ga gb => Sys2Proof.Machine.execSll iss imm gd ga gb s
  | .srl iss imm gd ga gb => Sys2Proof.Machine.execSrl iss imm gd ga gb s
  | .sra iss imm gd ga gb => Sys2Proof.Machine.execSra iss imm gd ga gb s
  | .slt iss gd ga gb => Sys2Proof.Machine.execSlt iss gd ga gb s
  | .sltu iss gd ga gb => Sys2Proof.Machine.execSltu iss gd ga gb s
  | .min iss gd ga gb => Sys2Proof.Machine.execMin iss gd ga gb s
  | .max iss gd ga gb => Sys2Proof.Machine.execMax iss gd ga gb s
  | .minu iss gd ga gb => Sys2Proof.Machine.execMinu iss gd ga gb s
  | .maxu iss gd ga gb => Sys2Proof.Machine.execMaxu iss gd ga gb s
  | .abs iss gd ga gb => Sys2Proof.Machine.execAbs iss gd ga gb s
  | .clz iss gd ga gb => Sys2Proof.Machine.execClz iss gd ga gb s
  | .pop iss gd ga gb => Sys2Proof.Machine.execPop iss gd ga gb s
  | .sxb iss gd ga gb => Sys2Proof.Machine.execSxb iss gd ga gb s
  | .sxh iss gd ga gb => Sys2Proof.Machine.execSxh iss gd ga gb s
  | .zxb iss gd ga gb => Sys2Proof.Machine.execZxb iss gd ga gb s
  | .zxh iss gd ga gb => Sys2Proof.Machine.execZxh iss gd ga gb s
  | .qadd iss gd ga gb => Sys2Proof.Machine.execQadd iss gd ga gb s
  | .qsub iss gd ga gb => Sys2Proof.Machine.execQsub iss gd ga gb s
  | .qneg iss gd ga gb => Sys2Proof.Machine.execQneg iss gd ga gb s
  | .qabs iss gd ga gb => Sys2Proof.Machine.execQabs iss gd ga gb s
  | .qshl iss imm gd ga gb => Sys2Proof.Machine.execQshl iss imm gd ga gb s
  | .addi iss gd ga imm => Sys2Proof.Machine.execAddi iss gd ga imm s
  | .andi iss gd ga imm => Sys2Proof.Machine.execAndi iss gd ga imm s
  | .ori iss gd ga imm => Sys2Proof.Machine.execOri iss gd ga imm s
  | .xori iss gd ga imm => Sys2Proof.Machine.execXori iss gd ga imm s
  | .lui iss gd imm => Sys2Proof.Machine.execLui iss gd imm s
  | .oril iss gd imm => Sys2Proof.Machine.execOril iss gd imm s
  | .mul iss gd ga gb => Sys2Proof.Machine.execMul iss gd ga gb s
  | .mulh iss gd ga gb => Sys2Proof.Machine.execMulh iss gd ga gb s
  | .mulhu iss gd ga gb => Sys2Proof.Machine.execMulhu iss gd ga gb s
  | .qmul iss gd ga gb => Sys2Proof.Machine.execQmul iss gd ga gb s
  | .div iss gd ga gb => Sys2Proof.Machine.execDiv iss gd ga gb s
  | .divu iss gd ga gb => Sys2Proof.Machine.execDivu iss gd ga gb s
  | .rem iss gd ga gb => Sys2Proof.Machine.execRem iss gd ga gb s
  | .remu iss gd ga gb => Sys2Proof.Machine.execRemu iss gd ga gb s
  | .mac iss hb gd ga gb => Sys2Proof.Machine.execMac iss hb gd ga gb s
  | .msu iss hb gd ga gb => Sys2Proof.Machine.execMsu iss hb gd ga gb s
  | .macu iss hb gd ga gb => Sys2Proof.Machine.execMacu iss hb gd ga gb s
  | .mst iss hb gd ga gb => Sys2Proof.Machine.execMst iss hb gd ga gb s
  | .clr iss hb gd ga gb => Sys2Proof.Machine.execClr iss hb gd ga gb s
  | .mtac iss hb gd ga gb => Sys2Proof.Machine.execMtac iss hb gd ga gb s
  | .mfal iss hb gd ga gb => Sys2Proof.Machine.execMfal iss hb gd ga gb s
  | .mfah iss hb gd ga gb => Sys2Proof.Machine.execMfah iss hb gd ga gb s
  | .mfag iss hb gd ga gb => Sys2Proof.Machine.execMfag iss hb gd ga gb s
  | .exq iss hb gd ga gb => Sys2Proof.Machine.execExq iss hb gd ga gb s
  | .exs iss hb gd ga gb => Sys2Proof.Machine.execExs iss hb gd ga gb s
  | .ldw iss gd ga imm => Sys2Proof.Machine.execLdw iss gd ga imm s
  | .ldh iss gd ga imm => Sys2Proof.Machine.execLdh iss gd ga imm s
  | .ldhu iss gd ga imm => Sys2Proof.Machine.execLdhu iss gd ga imm s
  | .ldb iss gd ga imm => Sys2Proof.Machine.execLdb iss gd ga imm s
  | .ldbu iss gd ga imm => Sys2Proof.Machine.execLdbu iss gd ga imm s
  | .stw iss gd ga imm => Sys2Proof.Machine.execStw iss gd ga imm s
  | .sth iss gd ga imm => Sys2Proof.Machine.execSth iss gd ga imm s
  | .stb iss gd ga imm => Sys2Proof.Machine.execStb iss gd ga imm s
  | .br iss off => Sys2Proof.Machine.execBr iss off s
  | .call iss off => Sys2Proof.Machine.execCall iss off s
  | .jr iss gd ga gb fn => Sys2Proof.Machine.execJr iss gd ga gb fn s
  | .jalr iss gd ga gb fn => Sys2Proof.Machine.execJalr iss gd ga gb fn s
  | .cmp iss qd ga gb cond rsv => Sys2Proof.Machine.execCmp iss qd ga gb cond rsv s
  | .cmpi iss qd ga cond imm => Sys2Proof.Machine.execCmpi iss qd ga cond imm s
  | .qand iss qd qa qb rsv => Sys2Proof.Machine.execQand iss qd qa qb rsv s
  | .qor iss qd qa qb rsv => Sys2Proof.Machine.execQor iss qd qa qb rsv s
  | .qxor iss qd qa qb rsv => Sys2Proof.Machine.execQxor iss qd qa qb rsv s
  | .qandn iss qd qa qb rsv => Sys2Proof.Machine.execQandn iss qd qa qb rsv s
  | .mfq iss gd ga gb => Sys2Proof.Machine.execMfq iss gd ga gb s
  | .mtq iss gd ga gb => Sys2Proof.Machine.execMtq iss gd ga gb s
  | .mfcs iss gd cs ga rsv => Sys2Proof.Machine.execMfcs iss gd cs ga rsv s
  | .mtcs iss gd cs ga rsv => Sys2Proof.Machine.execMtcs iss gd cs ga rsv s
  | .trap iss rsv code => Sys2Proof.Machine.execTrap iss rsv code s
  | .eret iss rsv => Sys2Proof.Machine.execEret iss rsv s
  | .fence iss rsv => Sys2Proof.Machine.execFence iss rsv s
  | .wfe iss rsv => Sys2Proof.Machine.execWfe iss rsv s
  | .interruptEntry l => Sys2Proof.Machine.execInterruptEntry l s
  | .releaseErrorEntry l => Sys2Proof.Machine.execReleaseErrorEntry l s
  | .deferredReleaseError l => Sys2Proof.Machine.execDeferredReleaseError l s
  | .storeDrain l e => Sys2Proof.Machine.execStoreDrain l e s
  | .tallyWindowClose l e => Sys2Proof.Machine.execTallyWindowClose l e s
  | .heldEntryRelease l e miss t => Sys2Proof.Machine.execHeldEntryRelease l e miss t s
  | .doorbell l v => Sys2Proof.Machine.execDoorbell l v s
  | .statusMailboxRead l => Sys2Proof.Machine.execStatusMailboxRead l s
  | .statusPublish l => Sys2Proof.Machine.execStatusPublish l s
  | .operationBundle iss b => Sys2Proof.Machine.execOperationBundle iss b s
  | .immediateBundle iss stg wd rsv imm m => Sys2Proof.Machine.execImmediateBundle iss stg wd rsv imm m s
  | .loop iss cs wn imm s1 l1 rsv => Sys2Proof.Machine.execLoop iss cs wn imm s1 l1 rsv s
  | .bf iss f rsv off => Sys2Proof.Machine.execBf iss f rsv off s
  | .bnf iss f rsv off => Sys2Proof.Machine.execBnf iss f rsv off s
  | .driveBranch iss rsv off => Sys2Proof.Machine.execDriveBranch iss rsv off s
  | .driveCall iss rsv off => Sys2Proof.Machine.execDriveCall iss rsv off s
  | .ret iss rsv => Sys2Proof.Machine.execRet iss rsv s
  | .driveFence iss rsv => Sys2Proof.Machine.execDriveFence iss rsv s
  | .wfp iss rsv => Sys2Proof.Machine.execWfp iss rsv s
  | .edgeAccepted l n e t => Sys2Proof.Machine.execEdgeAccepted l n e t s
  | .refinementDeadline l k0 => Sys2Proof.Machine.execRefinementDeadline l k0 s
  | .zeroSpeedTimeout l k0 => Sys2Proof.Machine.execZeroSpeedTimeout l k0 s
  | .hallTransition l h lines t => Sys2Proof.Machine.execHallTransition l h lines t s
  | .hallInvalidStateTimeout l h => Sys2Proof.Machine.execHallInvalidStateTimeout l h s
  | .ssiFrameEnd l m d t => Sys2Proof.Machine.execSsiFrameEnd l m d t s
  | .echoEdge l k t => Sys2Proof.Machine.execEchoEdge l k t s
  | .clearFault l target => Sys2Proof.Machine.execClearFault l target s
  | .reReferenceIndex l target => Sys2Proof.Machine.execReReferenceIndex l target s
  | .clearDriftStatistic l target => Sys2Proof.Machine.execClearDriftStatistic l target s
  | .speedResultRead l k0 => Sys2Proof.Machine.execSpeedResultRead l k0 s
  | .ssiResultRead l m => Sys2Proof.Machine.execSsiResultRead l m s
  | .commutationAtCt l c => Sys2Proof.Machine.execCommutationAtCt l c s
  | .sample l c d t => Sys2Proof.Machine.execSample l c d t s
  | .demagnetisationEnd l c => Sys2Proof.Machine.execDemagnetisationEnd l c s
  | .shortRecatch l c t => Sys2Proof.Machine.execShortRecatch l c t s
  | .shortTimeout l c => Sys2Proof.Machine.execShortTimeout l c s
  | .alignEnd l c => Sys2Proof.Machine.execAlignEnd l c s
  | .lowSpeed l c => Sys2Proof.Machine.execLowSpeed l c s
  | .hallCrossCheckFault l c emfOk => Sys2Proof.Machine.execHallCrossCheckFault l c emfOk s
  | .driveDeficit l c => Sys2Proof.Machine.execDriveDeficit l c s
  | .bootstrapRefresh l leg => Sys2Proof.Machine.execBootstrapRefresh l leg s
  | .startForward l c => Sys2Proof.Machine.execStartForward l c s
  | .startReverse l c => Sys2Proof.Machine.execStartReverse l c s
  | .channelStop l c => Sys2Proof.Machine.execChannelStop l c s
  | .channelClear l c => Sys2Proof.Machine.execChannelClear l c s
  | .manualOn l slot => Sys2Proof.Machine.execManualOn l slot s
  | .manualOff l slot => Sys2Proof.Machine.execManualOff l slot s
  | .preset l slot => Sys2Proof.Machine.execPreset l slot s
  | .injectStart l => Sys2Proof.Machine.execInjectStart l s
  | .injectStop l => Sys2Proof.Machine.execInjectStop l s
  | .captureStart l => Sys2Proof.Machine.execCaptureStart l s
  | .captureStop l => Sys2Proof.Machine.execCaptureStop l s
  | .sweepEnd l => Sys2Proof.Machine.execSweepEnd l s
  | .captureEnd l => Sys2Proof.Machine.execCaptureEnd l s
  | .loopRstatRead l => Sys2Proof.Machine.execLoopRstatRead l s
  | .loopCapstatRead l => Sys2Proof.Machine.execLoopCapstatRead l s
  | .loopCapdataRead l => Sys2Proof.Machine.execLoopCapdataRead l s
  | .lockOutEngage l t => Sys2Proof.Machine.execLockOutEngage l t s
  | .lockOutRelease l t => Sys2Proof.Machine.execLockOutRelease l t s
  | .blankingEnd l leg low above t => Sys2Proof.Machine.execBlankingEnd l leg low above t s
  | .shortDetected l leg low hard t => Sys2Proof.Machine.execShortDetected l leg low hard t s
  | .softTurnOffEnd l leg => Sys2Proof.Machine.execSoftTurnOffEnd l leg s
  | .brdgScclr l legs below => Sys2Proof.Machine.execBrdgScclr l legs below s
  | .reserveStageSwitch l o => Sys2Proof.Machine.execReserveStageSwitch l o s
  | .vbusConversion l code t => Sys2Proof.Machine.execVbusConversion l code t s
  | .chopperOn l t => Sys2Proof.Machine.execChopperOn l t s
  | .chopperOff l t => Sys2Proof.Machine.execChopperOff l t s
  | .chopperCurrentSample l ma => Sys2Proof.Machine.execChopperCurrentSample l ma s
  | .chopperOverTimeout l => Sys2Proof.Machine.execChopperOverTimeout l s
  | .chopperShort l => Sys2Proof.Machine.execChopperShort l s
  | .overvoltageLine l t => Sys2Proof.Machine.execOvervoltageLine l t s
  | .overvoltageClear l => Sys2Proof.Machine.execOvervoltageClear l s
  | .brdgChclr l v ma => Sys2Proof.Machine.execBrdgChclr l v ma s
  | .spliceLinkLost l sd => Sys2Proof.Machine.execSpliceLinkLost l sd s
  | .spliceLinkRestored l sd => Sys2Proof.Machine.execSpliceLinkRestored l sd s
  | .agreementPacketReceived l sd relayed p t => Sys2Proof.Machine.execAgreementPacketReceived l sd relayed p t s
  | .roundTimeout l => Sys2Proof.Machine.execRoundTimeout l s
  | .statePacketReceived l sd blk data crcOk => Sys2Proof.Machine.execStatePacketReceived l sd blk data crcOk s
  | .withdrawalCodeReceived l src => Sys2Proof.Machine.execWithdrawalCodeReceived l src s
  | .withdrawalDemandReceived l src => Sys2Proof.Machine.execWithdrawalDemandReceived l src s
  | .voteCut l => Sys2Proof.Machine.execVoteCut l s
  | .agreementPoint l => Sys2Proof.Machine.execAgreementPoint l s
  | .shareCut l => Sys2Proof.Machine.execShareCut l s
  | .unmatchedCommand l t => Sys2Proof.Machine.execUnmatchedCommand l t s
  | .comparatorSelfCheckDone l miss => Sys2Proof.Machine.execComparatorSelfCheckDone l miss s
  | .tallyVstatRead l => Sys2Proof.Machine.execTallyVstatRead l s
  | .tallySckRead l => Sys2Proof.Machine.execTallySckRead l s
  | .tallyAgdataAccess l wr => Sys2Proof.Machine.execTallyAgdataAccess l wr s
  | .tallyHdataRead l => Sys2Proof.Machine.execTallyHdataRead l s
  | .safetyInputFiltered l inp closed t => Sys2Proof.Machine.execSafetyInputFiltered l inp closed t s
  | .discrepancy l guard => Sys2Proof.Machine.execDiscrepancy l guard s
  | .challenge l t => Sys2Proof.Machine.execChallenge l t s
  | .heartbeatResponse l v t => Sys2Proof.Machine.execHeartbeatResponse l v t s
  | .challengeMiss l => Sys2Proof.Machine.execChallengeMiss l s
  | .noValidLane l => Sys2Proof.Machine.execNoValidLane l s
  | .chopBoundary l c => Sys2Proof.Machine.execChopBoundary l c s
  | .chopEnd l c => Sys2Proof.Machine.execChopEnd l c s
  | .applyTimeEnd l => Sys2Proof.Machine.execApplyTimeEnd l s
  | .stopperLoss l cause => Sys2Proof.Machine.execStopperLoss l cause s
  | .outputSwitchTestDone l pass => Sys2Proof.Machine.execOutputSwitchTestDone l pass s
  | .lctlGtack l v => Sys2Proof.Machine.execLctlGtack l v s
  | .standstillTimeElapsed l => Sys2Proof.Machine.execStandstillTimeElapsed l s
  | .limpTimeElapsed l => Sys2Proof.Machine.execLimpTimeElapsed l s
  | .requestStandby l => Sys2Proof.Machine.execRequestStandby l s
  | .requestArmed l => Sys2Proof.Machine.execRequestArmed l s
  | .requestService l => Sys2Proof.Machine.execRequestService l s
  | .requestRun3 l => Sys2Proof.Machine.execRequestRun3 l s
  | .requestRun2 l => Sys2Proof.Machine.execRequestRun2 l s
  | .requestSleep l => Sys2Proof.Machine.execRequestSleep l s
  | .requestShutdown l => Sys2Proof.Machine.execRequestShutdown l s
  | .requestUpdate l named => Sys2Proof.Machine.execRequestUpdate l named s
  | .reducedBistDone l r => Sys2Proof.Machine.execReducedBistDone l r s
  | .sramFillDone l bad => Sys2Proof.Machine.execSramFillDone l bad s
  | .imageLoaded l r => Sys2Proof.Machine.execImageLoaded l r s
  | .configurationLock l => Sys2Proof.Machine.execConfigurationLock l s
  | .shutdownLogFlushed l => Sys2Proof.Machine.execShutdownLogFlushed l s
  | .fieldFuseRepair l => Sys2Proof.Machine.execFieldFuseRepair l s
  | .zeroisationConfirmed l => Sys2Proof.Machine.execZeroisationConfirmed l s
  | .zeroisationTimeout l => Sys2Proof.Machine.execZeroisationTimeout l s
  | .logicBistDone l pass => Sys2Proof.Machine.execLogicBistDone l pass s
  | .memoryBistDone l sramOk mramOk => Sys2Proof.Machine.execMemoryBistDone l sramOk mramOk s
  | .bistRecordWritten l ms => Sys2Proof.Machine.execBistRecordWritten l ms s
  | .keyHigh l t => Sys2Proof.Machine.execKeyHigh l t s
  | .sleepDomainAnswer l a => Sys2Proof.Machine.execSleepDomainAnswer l a s
  | .sleepAnswerTimeout l => Sys2Proof.Machine.execSleepAnswerTimeout l s
  | .wake l w t => Sys2Proof.Machine.execWake l w t s
  | .wakeTimer l t => Sys2Proof.Machine.execWakeTimer l t s
  | .scrubRead l m wadr upset => Sys2Proof.Machine.execScrubRead l m wadr upset s
  | .correctiveWriteBack l => Sys2Proof.Machine.execCorrectiveWriteBack l s
  | .memCbtest l v => Sys2Proof.Machine.execMemCbtest l v s
  | .memCbgen l v => Sys2Proof.Machine.execMemCbgen l v s
  | .sectorProgram l blk sec crc ok => Sys2Proof.Machine.execSectorProgram l blk sec crc ok s
  | .eraseDone l blk ok => Sys2Proof.Machine.execEraseDone l blk ok s
  | .sectorReadCheck l blk sec r => Sys2Proof.Machine.execSectorReadCheck l blk sec r s
  | .blockRefresh l blk eraseOk => Sys2Proof.Machine.execBlockRefresh l blk eraseOk s
  | .retentionRead l blk margin => Sys2Proof.Machine.execRetentionRead l blk margin s
  | .chafeWindow l d n tj => Sys2Proof.Machine.execChafeWindow l d n tj s
  | .plannerThreshold l th => Sys2Proof.Machine.execPlannerThreshold l th s
  | .wearRecord l => Sys2Proof.Machine.execWearRecord l s
  | .baselinePeriodEnd l o rise fall => Sys2Proof.Machine.execBaselinePeriodEnd l o rise fall s
  | .converterTakeover l k => Sys2Proof.Machine.execConverterTakeover l k s
  | .base l => Sys2Proof.Machine.execBase l s
  | .logEventWrite l => Sys2Proof.Machine.execLogEventWrite l s
  | .frozenRecordCopy l => Sys2Proof.Machine.execFrozenRecordCopy l s
  | .logUser l v => Sys2Proof.Machine.execLogUser l v s
  | .logRselWrite l v => Sys2Proof.Machine.execLogRselWrite l v s
  | .logRdataRead l => Sys2Proof.Machine.execLogRdataRead l s
  | .logFdataRead l => Sys2Proof.Machine.execLogFdataRead l s
  | .layFrameValid l f t => Sys2Proof.Machine.execLayFrameValid l f t s
  | .layCycleStart l t => Sys2Proof.Machine.execLayCycleStart l t s
  | .missingReferenceFrame l => Sys2Proof.Machine.execMissingReferenceFrame l s
  | .referenceFrameSend l rbOk t => Sys2Proof.Machine.execReferenceFrameSend l rbOk t s
  | .strandFrameSend l b rbOk => Sys2Proof.Machine.execStrandFrameSend l b rbOk s
  | .yarnSlotEnd l h dur => Sys2Proof.Machine.execYarnSlotEnd l h dur s
  | .yarnFrameSend l h rbOk => Sys2Proof.Machine.execYarnFrameSend l h rbOk s
  | .takeover l => Sys2Proof.Machine.execTakeover l s
  | .coldStart l t => Sys2Proof.Machine.execColdStart l t s
  | .coldStartCollision l bad t => Sys2Proof.Machine.execColdStartCollision l bad t s
  | .coldStartRetry l t => Sys2Proof.Machine.execColdStartRetry l t s
  | .transmitCommit l b v => Sys2Proof.Machine.execTransmitCommit l b v s
  | .layYqack l v => Sys2Proof.Machine.execLayYqack l v s
  | .layCqack l v => Sys2Proof.Machine.execLayCqack l v s
  | .transmitterOn l v => Sys2Proof.Machine.execTransmitterOn l v s
  | .layRxstatRead l b => Sys2Proof.Machine.execLayRxstatRead l b s
  | .layYqstatRead l => Sys2Proof.Machine.execLayYqstatRead l s
  | .layYqdataRead l => Sys2Proof.Machine.execLayYqdataRead l s
  | .layCqstatRead l => Sys2Proof.Machine.execLayCqstatRead l s
  | .summary l k => Sys2Proof.Machine.execSummary l k s
  | .mode l k => Sys2Proof.Machine.execMode l k s
  | .hostStop l k => Sys2Proof.Machine.execHostStop l k s
  | .release l k => Sys2Proof.Machine.execRelease l k s
  | .channel l k => Sys2Proof.Machine.execChannel l k s
  | .loopcmd l k => Sys2Proof.Machine.execLoopcmd l k s
  | .setval l k => Sys2Proof.Machine.execSetval l k s
  | .hostClear l k => Sys2Proof.Machine.execHostClear l k s
  | .logread l k => Sys2Proof.Machine.execLogread l k s
  | .frozenread l k => Sys2Proof.Machine.execFrozenread l k s
  | .frozenreadDone l => Sys2Proof.Machine.execFrozenreadDone l s
  | .result l k => Sys2Proof.Machine.execResult l k s
  | .attest l k => Sys2Proof.Machine.execAttest l k s
  | .attestDone l => Sys2Proof.Machine.execAttestDone l s
  | .unknownOpcode l k => Sys2Proof.Machine.execUnknownOpcode l k s
  | .openSession l k => Sys2Proof.Machine.execOpenSession l k s
  | .openEraseDone l => Sys2Proof.Machine.execOpenEraseDone l s
  | .closeSession l k => Sys2Proof.Machine.execCloseSession l k s
  | .closeVerifyDone l => Sys2Proof.Machine.execCloseVerifyDone l s
  | .arm l k => Sys2Proof.Machine.execArm l k s
  | .abort l k => Sys2Proof.Machine.execAbort l k s
  | .commit l k => Sys2Proof.Machine.execCommit l k s
  | .rollback l k => Sys2Proof.Machine.execRollback l k s
  | .status l k => Sys2Proof.Machine.execStatus l k s
  | .revoke l k => Sys2Proof.Machine.execRevoke l k s
  | .updateChunk l c => Sys2Proof.Machine.execUpdateChunk l c s
  | .trialTimeout l => Sys2Proof.Machine.execTrialTimeout l s
  | .updStatRead l => Sys2Proof.Machine.execUpdStatRead l s
  | .lctlBiststatRead l => Sys2Proof.Machine.execLctlBiststatRead l s
  | .addressClaim l addr name => Sys2Proof.Machine.execAddressClaim l addr name s
  | .request l pgn src dst => Sys2Proof.Machine.execRequest l pgn src dst s
  | .transportPacket l p t => Sys2Proof.Machine.execTransportPacket l p t s
  | .proprietaryACommand l src data t => Sys2Proof.Machine.execProprietaryACommand l src data t s
  | .dm3 l => Sys2Proof.Machine.execDm3 l s
  | .busOffRecovery l => Sys2Proof.Machine.execBusOffRecovery l s
  | .statusMessage l => Sys2Proof.Machine.execStatusMessage l s
  | .wheelBasedSpeed l => Sys2Proof.Machine.execWheelBasedSpeed l s
  | .groundBasedSpeed l spd dir dist => Sys2Proof.Machine.execGroundBasedSpeed l spd dir dist s
  | .canGsstatRead l => Sys2Proof.Machine.execCanGsstatRead l s
  | .gnssSentence l k0 t => Sys2Proof.Machine.execGnssSentence l k0 t s
  | .gnssPpsEdge l t => Sys2Proof.Machine.execGnssPpsEdge l t s
  | .ppsPairingTimeout l => Sys2Proof.Machine.execPpsPairingTimeout l s
  | .gnssStatRead l => Sys2Proof.Machine.execGnssStatRead l s
  | .sectionEdge l j => Sys2Proof.Machine.execSectionEdge l j s
  | .scheduleCommit l j v => Sys2Proof.Machine.execScheduleCommit l j v s
  | .sectionForce l upper v => Sys2Proof.Machine.execSectionForce l upper v s
  | .validLineChange l => Sys2Proof.Machine.execValidLineChange l s
  | .gateDisagreement j src => Sys2Proof.Machine.execGateDisagreement j src s
  | .sectEstatRead l => Sys2Proof.Machine.execSectEstatRead l s
  | .registerWrite l addr v => Sys2Proof.Machine.execRegisterWrite l addr v s
  | .feedSourceChange l mv1 mv2 => Sys2Proof.Machine.execFeedSourceChange l mv1 mv2 s
  | .feedReversedPolarity l f => Sys2Proof.Machine.execFeedReversedPolarity l f s
  | .catchSample l c vu vv vw t => Sys2Proof.Machine.execCatchSample l c vu vv vw t s
  | .pwmEdge l o on ns t => Sys2Proof.Machine.execPwmEdge l o on ns t s
  | .shortPulseCurrentLimit l leg => Sys2Proof.Machine.execShortPulseCurrentLimit l leg s
  | .busOff l => Sys2Proof.Machine.execBusOff l s
  | .boundaryScanInstruction l iss => Sys2Proof.Machine.execBoundaryScanInstruction l iss s

end Sys2Proof.Machine
end

