-- ==== Sys2Proof/Safety.lean ====
section
/-!
DEFINITION. What a good state is: every register file and memory in canonical form, and each lane at its place.
-/

namespace Sys2Proof.Machine

open Sys2Proof

/-! ### Good states -/

/-- Each lane carries the letter of its place (R95). -/
def State.placed (s : State) : Prop := s.a.id = .a ∧ s.b.id = .b ∧ s.c.id = .c

/-- A register file in canonical form. -/
def rfWf (f : RegFile) : Bool := sparseWf regReset f

/-- An SRAM in canonical form. -/
def Sram.wf (m : Sram) : Bool := memWf m.bytes && sparseWf (fun _ => 0) m.flips

/-- A lane with all of its register files and memories in canonical form. -/
def Lane.wf (ln : Lane) : Bool :=
  rfWf ln.regs && rfWf ln.cregs.p && rfWf ln.cregs.s && rfWf ln.pub && rfWf ln.cpub.p && rfWf ln.cpub.s &&
    (List.range 8).all (fun m => (ln.sram m).wf)

/-- A good state. -/
def State.wf (s : State) : Bool := s.a.wf && s.b.wf && s.c.wf

/-- A run is safe while no step stops the block. -/
def safeStep (s : State) : Prop := ∃ t, step s = .next t

/-! ### The helm pair at an instruction boundary -/

/-- A fetched word has no wrong bit in either copy's code SRAM. -/
def Lane.codeClean (ln : Lane) : Prop :=
  inCode ln.helm.c.p.pc = true ∧ inCode ln.helm.c.s.pc = true ∧ ln.flipAt 0 (ln.helm.c.p.pc.toNat / 4) = 0 ∧
    ln.flipAt 1 (ln.helm.c.s.pc.toNat / 4) = 0

/-- Nothing comes before the helm pair's next instruction: the pair runs with its domain on, no window closes first, no
release error and no interrupt is due (R89, R105, R110, R305, R306). `held` says that the instruction is a held store. -/
def Lane.helmFree (ln : Lane) (held : Bool) : Prop :=
  ln.helm.run = .running ∧ ln.domOn 1 = true ∧ ln.closeBefore held = false ∧ ln.releaseDue = false ∧ ln.irqDue = false

/-- The instruction passes the joint gate, and its fetch meets no error (R105, R107). -/
def Lane.helmGate (ln : Lane) (i : HelmIssue) (held : Bool) : Prop := ln.helmFree held ∧ i.agree = true ∧ ln.codeClean

/-- It passes the gate with a legal predicate (R69). -/
def Lane.helmReady (ln : Lane) (i : HelmIssue) (held : Bool) : Prop := ln.helmGate i held ∧ badPred i = false

/-- A copy after an instruction of its own that goes on to the next one: its effect where q[PQ] equals NOT PN, pc past
the word, one more retired (R62, R69, R70, R95). -/
def HelmCopy.after (c : HelmCopy) (i : HelmIssue) (f : HelmCopy → HelmCopy) : HelmCopy :=
  { (if c.takes i then f c else c) with pc := c.pc + 4, retired := c.retired + 1 }

/-- The lane after an instruction whose copies become `c`: the window counts it, and nothing else changes. -/
def Lane.afterHelm (ln : Lane) (c : Pair HelmCopy) (held : Bool) : Lane :=
  { ln with helm := { ln.helm with c := c, count := ln.helm.count + 1, lastHeld := held } }

/-- Both copies take an instruction that goes on to the next one. -/
def Lane.goesOn (ln : Lane) (i : HelmIssue) (f : HelmCopy → HelmCopy) : Lane :=
  ln.afterHelm ⟨ln.helm.c.p.after i f, ln.helm.c.s.after i f⟩ false

/-- A copy after a branch, jump or return: where it takes effect, `f` and the target, else the next instruction. -/
def HelmCopy.jumped (c : HelmCopy) (i : HelmIssue) (f : HelmCopy → HelmCopy) (target : HelmCopy → Word) : HelmCopy :=
  if c.takes i then { f c with pc := target c, retired := c.retired + 1 }
  else { c with pc := c.pc + 4, retired := c.retired + 1 }

/-- Both copies take a branch, jump or return. -/
def Lane.jumps (ln : Lane) (i : HelmIssue) (f : HelmCopy → HelmCopy) (target : HelmCopy → Word) : Lane :=
  ln.afterHelm ⟨ln.helm.c.p.jumped i f target, ln.helm.c.s.jumped i f target⟩ false

/-- The instruction takes effect in both copies, and `q` holds of both. -/
def Lane.bothTake (ln : Lane) (i : HelmIssue) (q : HelmCopy → Prop) : Prop :=
  ln.helm.c.p.takes i = true ∧ ln.helm.c.s.takes i = true ∧ q ln.helm.c.p ∧ q ln.helm.c.s

/-- In each copy in which the instruction takes effect, `q` holds. -/
def Lane.whereTaken (ln : Lane) (i : HelmIssue) (q : HelmCopy → Prop) : Prop :=
  (ln.helm.c.p.takes i = true → q ln.helm.c.p) ∧ (ln.helm.c.s.takes i = true → q ln.helm.c.s)

/-- A target that R90 allows. -/
def goodTarget (a : Word) : Prop := a.toNat % 4 = 0 ∧ a.toNat < 0x200000

/-- The command ends in the next state whose lane `l` is `t` and whose rest is that of `s`. -/
def Gives (x : Instr) (s : State) (l : LaneId) (t : Lane) : Prop := exec x s = .next (s.setLane l t)

/-- The command ends in a next state that changes lane `l` alone, and of that lane `P` holds afterwards. -/
def Ends (x : Instr) (s : State) (l : LaneId) (P : Lane → Prop) : Prop := ∃ t, Gives x s l t ∧ P t

/-- No register held once per lane changes but those named. -/
def Lane.sameRegs (u t : Lane) (rs : List Reg) : Prop := ∀ r, r ∉ rs → t.rd r = u.rd r

/-- Only registers held once per lane change, and of them only those named. -/
def Lane.onlyRegs (u t : Lane) (rs : List Reg) : Prop := t = { u with regs := t.regs } ∧ u.sameRegs t rs

/-- The instruction goes on to the next, its effect in each copy being `f`. -/
def Runs (x : Instr) (s : State) (i : HelmIssue) (f : HelmCopy → HelmCopy) : Prop :=
  Gives x s i.lane ((s.lane i.lane).goesOn i f)

/-- Both vectors of a cause lie in code SRAM and the depth stays below 4 (R90, R114). -/
def Lane.canEnter (ln : Lane) (code : Nat) : Prop :=
  ln.helm.depth < 3 ∧ inCode (ln.helm.c.p.vector code) = true ∧ inCode (ln.helm.c.s.vector code) = true

/-- A copy that has entered the exception of a cause (R93): PIE takes IE, IE is 0, CS_EPC takes pc, CS_CAUSE.CODE the
cause, pc the vector. -/
def HelmCopy.entered (c : HelmCopy) (code : Nat) : HelmCopy :=
  { c with
    stat := (c.stat &&& 0xFFFFFFFC) ||| ((c.stat &&& 1) <<< 1)
    cause := setBits c.cause 7 0 code
    epc := c.pc
    pc := (c.vbase &&& 0xFFFFF000) + BitVec.ofNat 32 (16 * code) }

/-- The lane after an entry of both copies, `f` being what the cause sets beside its code: the depth is one more, and
LCTL_HFAULT shows it (R93, R114). -/
def Lane.entersWith (ln : Lane) (code : Nat) (f : HelmCopy → HelmCopy) : Lane :=
  { ln.put LCTL_HFAULT_DEPTH (ln.helm.depth + 1) with
    helm := { ln.helm with
      run := .running, depth := ln.helm.depth + 1, c := ⟨(f ln.helm.c.p).entered code, (f ln.helm.c.s).entered code⟩ } }

/-- The entry of a cause that sets nothing but its code. -/
def Lane.enters (ln : Lane) (code : Nat) : Lane := ln.entersWith code (fun c => c)

/-! ### The drive pair at a bundle boundary -/

/-- The next bundle is fetched without an error. -/
def Lane.bundleClean (ln : Lane) : Prop :=
  ln.drv.c.p.pc < 16384 ∧ ln.drv.c.s.pc < 16384 ∧ ln.flipAt 4 (2 * ln.drv.c.p.pc) = 0 ∧
    ln.flipAt 4 (2 * ln.drv.c.p.pc + 1) = 0 ∧ ln.flipAt 5 (2 * ln.drv.c.s.pc) = 0 ∧ ln.flipAt 5 (2 * ln.drv.c.s.pc + 1) = 0

/-- The drive pair takes its next bundle: it runs with its domain on, no window closes first, both halves of the gate
agree and the fetch meets no error (R135, R305, R306). `held` says that the bundle holds a held store. -/
def Lane.driveReady (ln : Lane) (i : DriveIssue) (held : Bool) : Prop :=
  ln.drv.run = .running ∧ ln.domOn 3 = true ∧ ln.driveCloseDue = false ∧ (ln.drv.lastHeld = true → held = true) ∧
    i.agree = true ∧ ln.bundleClean

/-- A stage that the place of a bundle allows in both copies (R154). -/
def Lane.stageOk (ln : Lane) (stg : BitVec 3) : Prop :=
  ln.drv.c.p.stgOk stg.toNat = true ∧ ln.drv.c.s.stgOk stg.toNat = true

/-- A copy after a bundle: its effect where the present pass enables it, and the bundle counter moved on (R153). -/
def DriveCopy.bundled (d : DriveCopy) (stg : BitVec 3) (f : DriveCopy → DriveCopy) : DriveCopy :=
  (if d.enabled stg.toNat then f d else d).advance

/-- The lane after a bundle whose copies become `c`: the window counts it, and nothing else changes. -/
def Lane.afterBundle (ln : Lane) (c : Pair DriveCopy) (held : Bool) : Lane :=
  { ln with drv := { ln.drv with c := c, count := ln.drv.count + 1, lastHeld := held } }

/-- Both copies take a bundle. -/
def Lane.bundles (ln : Lane) (stg : BitVec 3) (f : DriveCopy → DriveCopy) : Lane :=
  ln.afterBundle ⟨ln.drv.c.p.bundled stg f, ln.drv.c.s.bundled stg f⟩ false

/-- The lane after a control bundle whose effect in each copy is `f`. -/
def Lane.controls (ln : Lane) (f : DriveCopy → DriveCopy) : Lane := ln.afterBundle ⟨f ln.drv.c.p, f ln.drv.c.s⟩ false

/-- No loop runs in either copy. -/
def Lane.noLoop (ln : Lane) : Prop := ln.drv.c.p.loop = none ∧ ln.drv.c.s.loop = none

/-- Empty slots. -/
def nopXY : SlotXY := ⟨0, 0, 0, 0⟩
def nopM : SlotM := ⟨0, 0, 0⟩

/-- An operation bundle runs with the effect `f` in each copy. -/
def Bundles (s : State) (i : DriveIssue) (b : OpBundle) (f : DriveCopy → DriveCopy) : Prop :=
  Gives (.operationBundle i b) s i.lane ((s.lane i.lane).bundles b.stg f)

/-- An operation of slot X or Y alone in its bundle runs with the effect `f`, in either slot. -/
def SlotRuns (s : State) (i : DriveIssue) (stg : BitVec 3) (x : SlotXY) (f : DriveCopy → DriveCopy) : Prop :=
  Bundles s i ⟨stg, x, nopXY, nopM⟩ f ∧ Bundles s i ⟨stg, nopXY, x, nopM⟩ f

/-- An operation of slot M alone in its bundle runs with the effect `f`. -/
def MemSlotRuns (s : State) (i : DriveIssue) (stg : BitVec 3) (m : SlotM) (f : DriveCopy → DriveCopy) : Prop :=
  Bundles s i ⟨stg, nopXY, nopXY, m⟩ f

/-- A drive fault (R129, R162): issue stops, both hold queues are emptied, LCTL_DFAULT shows it, and the lane withdraws
for reason 0x05. -/
def DriveFaults (x : Instr) (s : State) (i : DriveIssue) (code side pc : Nat) : Prop :=
  Gives x s i.lane ((s.lane i.lane).driveFault code side pc)

end Sys2Proof.Machine
end

