-- ==== Sys2Proof/Certificates/Slice0/Obligations.lean ====
section
/-!
DEFINITION. The statements for the provers, one `def Obligations.<Name> : Prop` each, chapter by chapter of the spec.
-/

open Sys2Proof Sys2Proof.Machine

/-! ### The machine -/

/-- A step runs the command at the front of the queue on the machine with the rest of the queue; on an empty queue the
machine idles (log 34). -/
def Obligations.StepRunsFront : Prop :=
  (∀ (s : State) (c : Instr), step { s with pending := c :: s.pending } = exec c s) ∧
  (∀ s : State, s.pending = [] → step s = .next s)

/-- Every command completes in a next state and takes nothing from the queue, but for a feed voltage outside the absolute
limits of -36 V and 58 V, which R535 says the module does not survive. -/
def Obligations.CommandsComplete : Prop := ∀ (c : Instr) (s : State),
  (∃ t, exec c s = .next t ∧ t.pending = s.pending) ∨
  (∃ (l : LaneId) (v w : Int), (v < -36000 ∨ 58000 < v ∨ w < -36000 ∨ 58000 < w) ∧ exec c s = .fault .absoluteLimit ∧
    (c = .feedSourceChange l v w ∨ ∃ t, c = .feedVoltageRefresh l v w t))

/-- A command changes at most one lane; only the four that move the section gates also change, in the other lanes, the
words that read the gates and count their disagreements, and a valid line ends the trigger of no valid lane (R2, R341, R496,
R497). -/
def Obligations.LanesAreSeparate : Prop := ∀ (c : Instr) (s t : State), exec c s = .next t → ∃ l : LaneId, ∀ k, k ≠ l →
  (t.lane k = s.lane k ∨
    ((∃ bad, c = .controlFrameStart l bad) ∨ (∃ j, c = .sectionEdge l j) ∨ (∃ j, c = .gateDisagreement j l)) ∧
      t.lane k = { s.lane k with regs := (t.lane k).regs } ∧
      (∀ r, r ≠ SECT_GOUTA → r ≠ SECT_GOUTB → r ≠ SECT_GDIS → (t.lane k).rd r = (s.lane k).rd r) ∨
    c = .validLineChange l ∧
      t.lane k = { s.lane k with regs := (t.lane k).regs, stop := { (s.lane k).stop with quietSince := (t.lane k).stop.quietSince } } ∧
      (∀ r, r ≠ SECT_GOUTA → r ≠ SECT_GOUTB → r ≠ STOP_STAT → (t.lane k).rd r = (s.lane k).rd r) ∧
      (t.lane k = { s.lane k with regs := (t.lane k).regs } ∨ (s.lane k).is STOP_STAT_NOLANE = true))

/-- Every step keeps each lane at its place, so that a lane's letter never changes (R95). -/
def Obligations.LanesKeepPlace : Prop := ∀ s t : State, s.placed → step s = .next t → t.placed

/-- A drive copy whose rotation, return stack, modulus and selected context are legal (R130, R132, R144). -/
def DriveCopy.legal (d : DriveCopy) : Prop :=
  d.rot < 48 ∧ d.stack.length ≤ 4 ∧ (d.trm = 2 ∨ d.trm = 4 ∨ d.trm = 6 ∨ d.trm = 8) ∧ d.sel < 6

/-- Every bundle keeps both drive copies of every lane legal, whatever the bundle's fields (R130, R132, R144, R153). -/
def Obligations.DriveStaysLegal : Prop := ∀ (c : Instr) (s t : State), (driveIssue? c).isSome = true →
  (∀ l k, DriveCopy.legal ((s.lane l).drv.c.get k)) → exec c s = .next t →
    ∀ l k, DriveCopy.legal ((t.lane l).drv.c.get k)

/-- The state after reset: lanes at their places and in canonical form, an empty queue, the drive copies legal, CS_VBASE
0x0000_1000, DC_TRM 6, the tallies at their start value and both pairs of every lane stopped (R95, R96, R144, R302). -/
def Obligations.ResetState : Prop :=
  State.reset.placed ∧ State.reset.wf = true ∧ State.reset.pending = [] ∧
  ∀ (l : LaneId) (k : Copy),
    let ln := State.reset.lane l
    let h := ln.helm.c.get k
    let d := ln.drv.c.get k
    DriveCopy.legal d ∧ h.vbase = 0x1000 ∧ h.pc = 0 ∧ h.stat = 0 ∧ h.cause = 0 ∧ h.retired = 0 ∧ (∀ r, h.rg r = 0) ∧ d.trm = 6 ∧
    (∀ r, d.rw r = 0) ∧ h.tally = 0xFFFFFFFFFFFFFFFF ∧ d.tally = 0xFFFFFFFFFFFFFFFF ∧
    ln.helm.run = .stopped ∧ ln.drv.run = .stopped ∧ (∀ r, ln.rd r = regReset r)

/-! ### Encodings -/

/-- The words that the spec writes out decode to the instructions it gives them (R68, R133). -/
def Obligations.WordsOfTheSpec : Prop := ∀ (l : LaneId) (agree : Bool) (differ : Nat),
  let i : HelmIssue := ⟨l, false, 0, agree, differ⟩
  let j : DriveIssue := ⟨l, agree⟩
  decodeHelm l agree differ 0x08128000 = some (.ldw i 4 20 0) ∧ decodeHelm l agree differ 0x0816_8004 = some (.ldw i 5 20 4) ∧
  decodeHelm l agree differ 0x001C8510 = some (.min i 7 4 5) ∧ decodeHelm l agree differ 0x00208511 = some (.max i 8 4 5) ∧
  decodeHelm l agree differ 0x0C1E800C = some (.stw i 7 20 12) ∧ decodeHelm l agree differ 0x05000004 = some (.clr i false 0 0 0) ∧
  decodeHelm l agree differ 0x05008500 = some (.mac i false 0 4 5) ∧ decodeHelm l agree differ 0x051C0009 = some (.exq i false 7 0 0) ∧
  decodeDrive l agree 0x4100001080200000 = some (.loop j false 0 8 2 2 0) ∧
  decodeDrive l agree 0x0000000000000490 = some (.operationBundle j ⟨0, nopXY, nopXY, ⟨2, 18, 0⟩⟩) ∧
  decodeDrive l agree 0x00000000000004B1 = some (.operationBundle j ⟨0, nopXY, nopXY, ⟨2, 22, 1⟩⟩) ∧
  decodeDrive l agree 0x14C0414000000000 = some (.operationBundle j ⟨2, ⟨0x13, 0, 16, 20⟩, nopXY, nopM⟩)

/-- Decoding the word of any helm instruction gives it back, with every operand at every value its field holds (R68). -/
def Obligations.HelmWordsRoundTrip : Prop := ∀ (x : Instr) (i : HelmIssue), helmIssue? x = some i →
  ∃ w : Word, encodeHelm x = some w ∧ decodeHelm i.lane i.agree i.differ w = some x

/-- Decoding the 64 bits of any drive bundle gives it back, with every operand at every value its field holds (R133). -/
def Obligations.DriveBundlesRoundTrip : Prop := ∀ (x : Instr) (i : DriveIssue), driveIssue? x = some i →
  ∃ w : BitVec 64, encodeDrive x = some w ∧ decodeDrive i.lane i.agree w = some x

/-- A word stored under byte enables reads back byte by byte, every other byte reads as before, and the memory keeps its
canonical form (R64, R390). -/
def Obligations.MemoryStores : Prop := ∀ (m : List Host.Cell) (a b : Nat) (v : Word) (be : BitVec 4),
  (memWf m = true → memWf (putWord m a v be) = true) ∧
  byteAt (putWord m a v be) b =
    (if a ≤ b ∧ b < a + 4 ∧ be.getLsbD (b - a) = true then v.extractLsb' (8 * (b - a)) 8 else byteAt m b) ∧
  wordAt (putWord m a v 0xF) a = v

/-! ### The helm's register instructions (chapter 3) -/

/-- Saturation writes the nearest limit and its flag says exactly that the result lay outside (R66); an accumulator
that holds at most n full-scale products of Q1.31 values takes one more without saturating while n is below 511 (R67). -/
def Obligations.SaturationAndHeadroom : Prop :=
  (∀ x : Int, (sat32 x).1.toInt = Max.max (-(2 ^ 31)) (Min.min x (2 ^ 31 - 1)) ∧
    ((sat32 x).2 = true ↔ x < -(2 ^ 31) ∨ 2 ^ 31 ≤ x)) ∧
  (∀ x : Int, (sat72 x).1.toInt = Max.max (-(2 ^ 71)) (Min.min x (2 ^ 71 - 1)) ∧
    ((sat72 x).2 = true ↔ x < -(2 ^ 71) ∨ 2 ^ 71 ≤ x)) ∧
  (∀ (n : Nat) (x : Acc) (a b : Word), n < 511 → x.toInt.natAbs ≤ n * 2 ^ 62 →
    (sat72 (x.toInt + a.toInt * b.toInt)).2 = false ∧
      (sat72 (x.toInt + a.toInt * b.toInt)).1.toInt.natAbs ≤ (n + 1) * 2 ^ 62)

/-- The logical, additive, comparing and bit-counting lines of the register ALU table: gd takes the line's result, g0
discards it, and a false predicate leaves everything but pc and the retired count (R61, R62, R69, R70).
Shifts use only the low five bits of gb, or the gb field itself, and the saturating lines set SV where they saturate
(R66).
Immediates, and the pair lui, oril, which loads any 32-bit constant.
Products and divisions with the special cases of R82, and qmul with its one saturating case (R81). -/
def Obligations.HelmArithmetic : Prop :=
  (∀ (s : State) (i : HelmIssue) (gd ga gb : Reg5),
  (s.lane i.lane).helmReady i false →
    Runs (.add i gd ga gb) s i (fun c => c.wg gd (c.rg ga + c.rg gb)) ∧
    Runs (.sub i gd ga gb) s i (fun c => c.wg gd (c.rg ga - c.rg gb)) ∧
    Runs (.and i gd ga gb) s i (fun c => c.wg gd (c.rg ga &&& c.rg gb)) ∧
    Runs (.or i gd ga gb) s i (fun c => c.wg gd (c.rg ga ||| c.rg gb)) ∧
    Runs (.xor i gd ga gb) s i (fun c => c.wg gd (c.rg ga ^^^ c.rg gb)) ∧
    Runs (.andn i gd ga gb) s i (fun c => c.wg gd (c.rg ga &&& ~~~c.rg gb)) ∧
    Runs (.slt i gd ga gb) s i (fun c => c.wg gd (if (c.rg ga).toInt < (c.rg gb).toInt then 1 else 0)) ∧
    Runs (.sltu i gd ga gb) s i (fun c => c.wg gd (if (c.rg ga).toNat < (c.rg gb).toNat then 1 else 0)) ∧
    Runs (.min i gd ga gb) s i (fun c => c.wg gd (BitVec.ofInt 32 (Min.min (c.rg ga).toInt (c.rg gb).toInt))) ∧
    Runs (.max i gd ga gb) s i (fun c => c.wg gd (BitVec.ofInt 32 (Max.max (c.rg ga).toInt (c.rg gb).toInt))) ∧
    Runs (.minu i gd ga gb) s i (fun c => c.wg gd (BitVec.ofNat 32 (Min.min (c.rg ga).toNat (c.rg gb).toNat))) ∧
    Runs (.maxu i gd ga gb) s i (fun c => c.wg gd (BitVec.ofNat 32 (Max.max (c.rg ga).toNat (c.rg gb).toNat))) ∧
    Runs (.abs i gd ga 0) s i (fun c => c.wg gd (BitVec.ofInt 32 ((c.rg ga).toInt.natAbs : Int))) ∧
    Runs (.pop i gd ga 0) s i
      (fun c => c.wg gd (BitVec.ofNat 32 ((List.range 32).countP (fun n => (c.rg ga).getLsbD n)))) ∧
    Runs (.sxb i gd ga 0) s i (fun c => c.wg gd (((c.rg ga).setWidth 8).signExtend 32)) ∧
    Runs (.sxh i gd ga 0) s i (fun c => c.wg gd (((c.rg ga).setWidth 16).signExtend 32)) ∧
    Runs (.zxb i gd ga 0) s i (fun c => c.wg gd (c.rg ga &&& 0xFF)) ∧
    Runs (.zxh i gd ga 0) s i (fun c => c.wg gd (c.rg ga &&& 0xFFFF)) ∧
    ∃ clz : Word → Nat, Runs (.clz i gd ga 0) s i (fun c => c.wg gd (BitVec.ofNat 32 (clz (c.rg ga)))) ∧
      ∀ w : Word, clz w ≤ 32 ∧ w.toNat < 2 ^ (32 - clz w) ∧ (clz w < 32 → 2 ^ (31 - clz w) ≤ w.toNat)) ∧
  (∀ (s : State) (i : HelmIssue) (imm : Bool) (gd ga gb : Reg5),
  (s.lane i.lane).helmReady i false →
    let sh (c : HelmCopy) : Nat := if imm then gb.toNat else (c.rg gb).toNat % 32
    let put (c : HelmCopy) (x : Int) : HelmCopy := (c.wg gd (sat32 x).1).setSv (sat32 x).2
    Runs (.sll i imm gd ga gb) s i (fun c => c.wg gd (c.rg ga <<< sh c)) ∧
    Runs (.srl i imm gd ga gb) s i (fun c => c.wg gd (c.rg ga >>> sh c)) ∧
    Runs (.sra i imm gd ga gb) s i (fun c => c.wg gd ((c.rg ga).sshiftRight (sh c))) ∧
    Runs (.qshl i imm gd ga gb) s i (fun c => put c ((c.rg ga).toInt * 2 ^ sh c)) ∧
    Runs (.qadd i gd ga gb) s i (fun c => put c ((c.rg ga).toInt + (c.rg gb).toInt)) ∧
    Runs (.qsub i gd ga gb) s i (fun c => put c ((c.rg ga).toInt - (c.rg gb).toInt)) ∧
    Runs (.qneg i gd ga 0) s i (fun c => put c (-(c.rg ga).toInt)) ∧
    Runs (.qabs i gd ga 0) s i (fun c => put c ((c.rg ga).toInt.natAbs : Int))) ∧
  (((∀ (s : State) (i : HelmIssue) (gd ga : Reg5) (imm : Imm13), (s.lane i.lane).helmReady i false →
    Runs (.addi i gd ga imm) s i (fun c => c.wg gd (BitVec.ofInt 32 ((c.rg ga).toInt + imm.toInt))) ∧
    Runs (.andi i gd ga imm) s i (fun c => c.wg gd (c.rg ga &&& BitVec.ofNat 32 imm.toNat)) ∧
    Runs (.ori i gd ga imm) s i (fun c => c.wg gd (c.rg ga ||| BitVec.ofNat 32 imm.toNat)) ∧
    Runs (.xori i gd ga imm) s i (fun c => c.wg gd (c.rg ga ^^^ BitVec.ofNat 32 imm.toNat))) ∧
  (∀ (s : State) (i : HelmIssue) (gd : Reg5) (imm : BitVec 18), (s.lane i.lane).helmReady i false →
    Runs (.lui i gd imm) s i (fun c => c.wg gd (BitVec.ofNat 32 (imm.toNat * 16384))) ∧
    (imm.toNat < 16384 → Runs (.oril i gd imm) s i (fun c => c.wg gd (c.rg gd ||| BitVec.ofNat 32 imm.toNat))))) ∧
  (∀ (s : State) (i : HelmIssue) (gd ga gb : Reg5),
  (s.lane i.lane).helmReady i false →
    Runs (.mul i gd ga gb) s i (fun c => c.wg gd (BitVec.ofNat 32 ((c.rg ga).toNat * (c.rg gb).toNat))) ∧
    Runs (.mulh i gd ga gb) s i (fun c => c.wg gd (BitVec.ofInt 32 ((c.rg ga).toInt * (c.rg gb).toInt / 2 ^ 32))) ∧
    Runs (.mulhu i gd ga gb) s i (fun c => c.wg gd (BitVec.ofNat 32 ((c.rg ga).toNat * (c.rg gb).toNat / 2 ^ 32))) ∧
    Runs (.qmul i gd ga gb) s i (fun c =>
      if c.rg ga = 0x80000000 ∧ c.rg gb = 0x80000000 then (c.wg gd 0x7FFFFFFF).setSv true
      else c.wg gd (BitVec.ofInt 32 (((c.rg ga).toInt * (c.rg gb).toInt + 2 ^ 30) / 2 ^ 31))) ∧
    Runs (.div i gd ga gb) s i (fun c =>
      if c.rg gb = 0 then (c.wg gd (if 0 ≤ (c.rg ga).toInt then 0x7FFFFFFF else 0x80000000)).setDz true
      else if c.rg ga = 0x80000000 ∧ c.rg gb = 0xFFFFFFFF then (c.wg gd 0x7FFFFFFF).setSv true
      else c.wg gd (BitVec.ofInt 32 ((c.rg ga).toInt.tdiv (c.rg gb).toInt))) ∧
    Runs (.divu i gd ga gb) s i (fun c =>
      if c.rg gb = 0 then (c.wg gd 0xFFFFFFFF).setDz true
      else c.wg gd (BitVec.ofNat 32 ((c.rg ga).toNat / (c.rg gb).toNat))) ∧
    Runs (.rem i gd ga gb) s i (fun c =>
      if c.rg gb = 0 then (c.wg gd (c.rg ga)).setDz true
      else c.wg gd (BitVec.ofInt 32 ((c.rg ga).toInt - (c.rg ga).toInt.tdiv (c.rg gb).toInt * (c.rg gb).toInt))) ∧
    Runs (.remu i gd ga gb) s i (fun c =>
      if c.rg gb = 0 then (c.wg gd (c.rg ga)).setDz true
      else c.wg gd (BitVec.ofNat 32 ((c.rg ga).toNat - (c.rg ga).toNat / (c.rg gb).toNat * (c.rg gb).toNat)))))

/-- The accumulator table: the selected accumulator takes the saturated sum and AV says that it saturated; the moves
out leave the accumulator (R67). -/
def Obligations.HelmAccumulators : Prop := ∀ (s : State) (i : HelmIssue) (hb : Bool) (gd ga gb : Reg5),
  (s.lane i.lane).helmReady i false →
    let acc (c : HelmCopy) : Acc := if hb then c.hb else c.ha
    let put (c : HelmCopy) (v : Acc) : HelmCopy := if hb then { c with hb := v } else { c with ha := v }
    let sum (c : HelmCopy) (x : Int) : HelmCopy := (put c (sat72 x).1).setAv (sat72 x).2
    let out (c : HelmCopy) (x : Int) : HelmCopy := (c.wg gd (sat32 x).1).setSv (sat32 x).2
    Runs (.mac i hb 0 ga gb) s i (fun c => sum c ((acc c).toInt + (c.rg ga).toInt * (c.rg gb).toInt)) ∧
    Runs (.msu i hb 0 ga gb) s i (fun c => sum c ((acc c).toInt - (c.rg ga).toInt * (c.rg gb).toInt)) ∧
    Runs (.macu i hb 0 ga gb) s i (fun c => sum c ((acc c).toInt + (c.rg ga).toNat * (c.rg gb).toNat)) ∧
    Runs (.mst i hb 0 ga gb) s i (fun c => put c (BitVec.ofInt 72 ((c.rg ga).toInt * (c.rg gb).toInt))) ∧
    Runs (.clr i hb 0 0 0) s i (fun c => put c 0) ∧
    Runs (.mtac i hb 0 ga gb) s i (fun c => put c ((c.rg ga ++ c.rg gb).signExtend 72)) ∧
    Runs (.mfal i hb gd 0 0) s i (fun c => c.wg gd ((acc c).extractLsb' 0 32)) ∧
    Runs (.mfah i hb gd 0 0) s i (fun c => c.wg gd ((acc c).extractLsb' 32 32)) ∧
    Runs (.mfag i hb gd 0 0) s i (fun c => c.wg gd (((acc c).extractLsb' 64 8).signExtend 32)) ∧
    Runs (.exq i hb gd 0 0) s i (fun c => out c (((acc c).toInt + 2 ^ 30) / 2 ^ 31)) ∧
    Runs (.exs i hb gd 0 gb) s i (fun c => out c ((acc c).toInt / 2 ^ gb.toNat))

/-- What a condition of cmp and cmpi says of two words. -/
def condition (cond : Nat) (a b : Word) : Prop :=
  match cond with
  | 0 => a = b
  | 1 => a ≠ b
  | 2 => a.toInt < b.toInt
  | 3 => b.toInt ≤ a.toInt
  | 4 => a.toNat < b.toNat
  | 5 => b.toNat ≤ a.toNat
  | _ => a &&& b ≠ 0

/-- A copy whose predicate q[qd] has become `b`, the others as they were. -/
def setQ (qd : BitVec 2) (b : Bool) (c d : HelmCopy) : Prop :=
  d = { c with q := d.q } ∧ d.q.getLsbD qd.toNat = b ∧ ∀ k, k ≠ qd.toNat → d.q.getLsbD k = c.q.getLsbD k

/-- Compares, predicate logic and predicate moves: the named predicate takes the result, q0 reads 1 (R62, R71).
The core control registers: mfcs reads each of the eight, CS_LANE as the lane letter; mtcs writes each under its
access codes (R91, R95). -/
def Obligations.HelmPredicatesAndControlRegisters : Prop :=
  ((∀ (s : State) (i : HelmIssue) (qd : BitVec 2) (ga gb : Reg5) (cond : BitVec 3) (imm : Imm13),
    (s.lane i.lane).helmReady i false → qd ≠ 0 → cond ≠ 7 →
      (∃ f, Runs (.cmp i qd ga gb cond 0) s i f ∧
        ∀ c, ∃ b, setQ qd b c (f c) ∧ (b = true ↔ condition cond.toNat (c.rg ga) (c.rg gb))) ∧
      (∃ f, Runs (.cmpi i qd ga cond imm) s i f ∧
        ∀ c, ∃ b, setQ qd b c (f c) ∧ (b = true ↔ condition cond.toNat (c.rg ga) (imm.signExtend 32)))) ∧
  (∀ (s : State) (i : HelmIssue) (qd qa qb : BitVec 2), (s.lane i.lane).helmReady i false → qd ≠ 0 →
      let q (c : HelmCopy) (k : BitVec 2) : Bool := k == 0 || c.q.getLsbD k.toNat
      (∃ f, Runs (.qand i qd qa qb 0) s i f ∧ ∀ c, setQ qd (q c qa && q c qb) c (f c)) ∧
      (∃ f, Runs (.qor i qd qa qb 0) s i f ∧ ∀ c, setQ qd (q c qa || q c qb) c (f c)) ∧
      (∃ f, Runs (.qxor i qd qa qb 0) s i f ∧ ∀ c, setQ qd (q c qa ^^ q c qb) c (f c)) ∧
      (∃ f, Runs (.qandn i qd qa qb 0) s i f ∧ ∀ c, setQ qd (q c qa && !q c qb) c (f c))) ∧
  (∀ (s : State) (i : HelmIssue) (gd ga : Reg5), (s.lane i.lane).helmReady i false →
      Runs (.mfq i gd 0 0) s i (fun c => c.wg gd (BitVec.ofNat 32 (c.q.toNat / 2 * 2 + 1))) ∧
      Runs (.mtq i 0 ga 0) s i (fun c => { c with q := (c.rg ga).setWidth 4 ||| 1 }))) ∧
  (∀ (s : State) (i : HelmIssue) (gd ga : Reg5),
  (s.lane i.lane).helmReady i false →
    Runs (.mfcs i gd 0 0 0) s i (fun c => c.wg gd c.stat) ∧
    Runs (.mfcs i gd 1 0 0) s i (fun c => c.wg gd c.epc) ∧
    Runs (.mfcs i gd 2 0 0) s i (fun c => c.wg gd c.cause) ∧
    Runs (.mfcs i gd 3 0 0) s i (fun c => c.wg gd c.badaddr) ∧
    Runs (.mfcs i gd 4 0 0) s i (fun c => c.wg gd c.vbase) ∧
    Runs (.mfcs i gd 5 0 0) s i (fun c => c.wg gd c.scratch) ∧
    Runs (.mfcs i gd 6 0 0) s i (fun c => c.wg gd c.retired) ∧
    Runs (.mfcs i gd 7 0 0) s i
      (fun c => c.wg gd (match i.lane with | .a => 1 | .b => 2 | .c => 3)) ∧
    Runs (.mtcs i 0 1 ga 0) s i (fun c => { c with epc := BitVec.ofNat 32 ((c.rg ga).toNat / 4 * 4) }) ∧
    Runs (.mtcs i 0 4 ga 0) s i (fun c => { c with vbase := BitVec.ofNat 32 ((c.rg ga).toNat / 4096 * 4096) }) ∧
    Runs (.mtcs i 0 5 ga 0) s i (fun c => { c with scratch := c.rg ga }) ∧
    (∀ cs : Reg5, cs = 2 ∨ cs = 3 ∨ cs = 6 ∨ cs = 7 → Runs (.mtcs i 0 cs ga 0) s i (fun c => c)) ∧
    ∃ f, Runs (.mtcs i 0 0 ga 0) s i f ∧ ∀ c, f c = { c with stat := (f c).stat } ∧
      ∀ n, (f c).stat.getLsbD n =
        if n < 2 then (c.rg ga).getLsbD n
        else if n < 5 then c.stat.getLsbD n && !(c.rg ga).getLsbD n
        else c.stat.getLsbD n)


/-! ### The helm's control transfer, exceptions and interrupts (chapters 3 and 4) -/

/-- Branches and jumps to a target in code SRAM: the pc takes it, call and jalr write the link, jalr with gd = ga jumps to
the old ga, and an instruction whose predicate is false goes on (R69, R70, R90).
A branch, jump or eret to a target outside code SRAM or not aligned raises FETCH_ADDR: it does not retire and writes
no link, CS_EPC takes its own address and CS_BADADDR the target (R90).
trap retires and then enters its handler with TRAPNO, CS_EPC at the instruction after it; eret returns, its depth one
lower and never below 0; with a false predicate both go on (R92, R93, R114). The window does not fall due at the trap.
fence goes on where nothing of the pair's stores is left, wfe where any source is pending, enabled or not; otherwise
each waits at its own address without retiring (R80, R110). -/
def Obligations.HelmControlFlow : Prop :=
  ((∀ (s : State) (i : HelmIssue) (off : BitVec 23) (gd ga : Reg5),
  (s.lane i.lane).helmReady i false →
    let ln := s.lane i.lane
    let rel (c : HelmCopy) : Word := c.pc + BitVec.ofInt 32 (4 * off.toInt)
    let reg (c : HelmCopy) : Word := c.rg ga
    (ln.whereTaken i (fun c => goodTarget (rel c)) →
      Gives (.br i off) s i.lane (ln.jumps i (fun c => c) rel) ∧
      Gives (.call i off) s i.lane (ln.jumps i (fun c => c.wg 31 (c.pc + 4)) rel)) ∧
    (ln.whereTaken i (fun c => goodTarget (reg c)) →
      Gives (.jr i 0 ga 0 0) s i.lane (ln.jumps i (fun c => c) reg) ∧
      Gives (.jalr i gd ga 0 0) s i.lane (ln.jumps i (fun c => c.wg gd (c.pc + 4)) reg))) ∧
  (∀ (s : State) (i : HelmIssue) (off : BitVec 23) (gd ga : Reg5),
  (s.lane i.lane).helmReady i false → (s.lane i.lane).canEnter 0x02 →
    let ln := s.lane i.lane
    let raises (x : Instr) (t : HelmCopy → Word) : Prop := ln.bothTake i (fun c => ¬ goodTarget (t c)) →
      Gives x s i.lane (ln.entersWith 0x02 (fun c => { c with badaddr := t c }))
    raises (.br i off) (fun c => c.pc + BitVec.ofInt 32 (4 * off.toInt)) ∧
    raises (.call i off) (fun c => c.pc + BitVec.ofInt 32 (4 * off.toInt)) ∧
    raises (.jr i 0 ga 0 0) (fun c => c.rg ga) ∧
    raises (.jalr i gd ga 0 0) (fun c => c.rg ga) ∧
    raises (.eret i 0) (fun c => c.epc))) ∧
  (∀ (s : State) (i : HelmIssue) (no : Byte),
  (s.lane i.lane).helmReady i false →
    let ln := s.lane i.lane
    (ln.bothTake i (fun _ => True) → (ln.goesOn i (fun c => c)).closeDue = false → ln.canEnter 0x0A →
      Gives (.trap i 0 (no.setWidth 16)) s i.lane
        ((ln.goesOn i (fun c => c)).entersWith 0x0A (fun c => { c with cause := setBits c.cause 15 8 no.toNat }))) ∧
    (ln.bothTake i (fun c => goodTarget c.epc) →
      let back (c : HelmCopy) : HelmCopy := { c with stat := (c.stat &&& 0xFFFFFFFE) ||| ((c.stat >>> 1) &&& 1) }
      let t := (ln.jumps i back (fun c => c.epc)).put LCTL_HFAULT_DEPTH (ln.helm.depth - 1)
      Gives (.eret i 0) s i.lane
        { t with helm := { t.helm with depth := ln.helm.depth - 1, eretSince := ln.helm.deferred } }) ∧
    (ln.helm.c.p.takes i = false → ln.helm.c.s.takes i = false →
      Gives (.trap i 0 (no.setWidth 16)) s i.lane (ln.goesOn i (fun c => c)) ∧
      Gives (.eret i 0) s i.lane (ln.goesOn i (fun c => c)))) ∧
  (∀ (s : State) (i : HelmIssue), (s.lane i.lane).helmReady i false →
  let ln := s.lane i.lane
  let c := ln.helm.c
  ((c.p.sbuf = [] ∧ c.s.sbuf = [] ∧ c.p.hold = [] ∧ c.s.hold = [] → Gives (.fence i 0) s i.lane (ln.goesOn i (fun c => c))) ∧
    (c.p.takes i = true → ¬ (c.p.sbuf = [] ∧ c.s.sbuf = [] ∧ c.p.hold = [] ∧ c.s.hold = []) →
      Gives (.fence i 0) s i.lane { ln with helm := { ln.helm with run := .fence } })) ∧
  ((ln.irqPend ≠ 0 → Gives (.wfe i 0) s i.lane (ln.goesOn i (fun c => c))) ∧
    (c.p.takes i = true → ln.irqPend = 0 →
      Gives (.wfe i 0) s i.lane { ln with helm := { ln.helm with run := .waiting } })) ∧
  (c.p.takes i = false → c.s.takes i = false →
    Gives (.fence i 0) s i.lane (ln.goesOn i (fun c => c)) ∧ Gives (.wfe i 0) s i.lane (ln.goesOn i (fun c => c))))

/-- The gate takes an interrupt only with CS_STAT.IE, the source's bit of LCTL_IRQ_EN and the source pending, and then
the lowest-numbered one, with cause 0x40 + n (R110, R113); otherwise nothing changes. wfe ends when any source is
pending, whatever IE and LCTL_IRQ_EN hold: at once, or, where it waits and no interrupt is due, before the next
instruction issues (R110). -/
def Obligations.HelmInterruptEntry : Prop := ∀ (s : State) (l : LaneId),
  let ln := s.lane l
  ln.helm.run ≠ .stopped → ln.helm.run ≠ .armed → ln.domOn 1 = true → ln.closeDue = false → ln.releaseDue = false →
    let due (n : Nat) : Prop := n < 21 ∧ ln.irqPend.getLsbD n = true ∧ (ln.rd LCTL_IRQ_EN).getLsbD n = true
    (∀ n, ln.helm.c.p.stat.getLsbD 0 = true → due n → (∀ k, k < n → ¬ due k) → ln.canEnter (0x40 + n) →
      Gives (.interruptEntry l) s l (ln.enters (0x40 + n))) ∧
    (ln.helm.c.p.stat.getLsbD 0 = false ∨ (∀ n, ¬ due n) → Gives (.interruptEntry l) s l ln) ∧
    (∀ (i : HelmIssue) (gd ga gb : Reg5), i.lane = l → ln.id = l → ln.irqPend ≠ 0 →
      (ln.helmReady i false → Gives (.wfe i 0) s l (ln.goesOn i (fun c => c))) ∧
      (ln.helm.run = .waiting → ln.helm.c.p.stat.getLsbD 0 = false ∨ (∀ n, ¬ due n) →
        let woken := ({ ln with helm := { ln.helm with run := .running } } : Lane).goesOn i (fun c => c)
        exec (.add i gd ga gb) s = exec (.add i gd ga gb) (s.setLane l woken)))

/-- An entry that would raise the depth to 4 withdraws the lane with LCTL_HFAULT.CODE 0x04, and one to a vector outside
code SRAM with 0x0C and the vector address in LCTL_HFADDR (R114, R546). -/
def Obligations.HelmEntryRefused : Prop := ∀ (ln : Lane) (code : Nat) (f : HelmCopy → HelmCopy),
  (ln.helm.depth = 3 → ln.enterExc code f = ln.helmFault 0x04 3 0) ∧
  (ln.helm.depth < 3 → ln.helm.c.p.vbase = ln.helm.c.s.vbase →
    let v := (ln.helm.c.p.vbase &&& 0xFFFFF000) + BitVec.ofNat 32 (16 * code)
    0x200000 ≤ v.toNat → ln.enterExc code f = ln.helmFault 0x0C 3 v)

/-- Whatever breaks a rule of an instruction's encoding raises ILLEGAL in both copies and has no other effect (R69, R71,
R93, R113).
A release error is taken at a boundary as STORE_BUS with CS_CAUSE.HELD 1 and the entry's address, at once or, where it
was deferred behind the STORE_BUS of R87, once interrupts are enabled or an eret has passed (R89, R554). -/
def Obligations.HelmIllegalFormsAndReleaseErrors : Prop :=
  (∀ (x : Instr) (s : State) (i : HelmIssue), helmIssue? x = some i →
  (fieldsLegal x = false ∨ badPred i = true) → (s.lane i.lane).helmGate i false → (s.lane i.lane).canEnter 0x01 →
    Gives x s i.lane ((s.lane i.lane).enters 0x01)) ∧
  (∀ (s : State) (l : LaneId) (a : Word),
  let ln := s.lane l
  ln.helm.run ≠ .stopped → ln.helm.run ≠ .armed → ln.domOn 1 = true → ln.closeDue = false → ln.helm.relErr = some a →
    ln.canEnter 0x08 →
    let t := { ln with helm := { ln.helm with relErr := none, deferred := false, eretSince := false } }
    let u := t.entersWith 0x08 (fun c => { c with badaddr := a, cause := setBits c.cause 16 16 1 })
    (ln.helm.deferred = false → Gives (.releaseErrorEntry l) s l u ∧ Gives (.deferredReleaseError l) s l ln) ∧
    (ln.helm.deferred = true → Gives (.releaseErrorEntry l) s l ln ∧
      (ln.helm.c.p.stat.getLsbD 0 = true ∨ ln.helm.eretSince = true → Gives (.deferredReleaseError l) s l u) ∧
      (ln.helm.c.p.stat.getLsbD 0 = false → ln.helm.eretSince = false → Gives (.deferredReleaseError l) s l ln)))


/-! ### Helm loads, stores, tally windows and the output hold queue (chapters 3 and 4) -/

/-- The value that a load of `n` bytes makes of a little-endian memory (R64). -/
def loaded (m : List Host.Cell) (a n : Nat) (signed : Bool) : Word :=
  match n, signed with
  | 1, true => (byteAt m a).signExtend 32
  | 1, false => (byteAt m a).setWidth 32
  | 2, true => (byteAt m (a + 1) ++ byteAt m a).signExtend 32
  | 2, false => (byteAt m (a + 1) ++ byteAt m a).setWidth 32
  | _, _ => byteAt m (a + 3) ++ byteAt m (a + 2) ++ byteAt m (a + 1) ++ byteAt m a

/-- The five loads with their widths. -/
def loadForms (i : HelmIssue) (gd ga : Reg5) (imm : Imm13) : List (Instr × Nat × Bool) :=
  [(.ldw i gd ga imm, 4, false), (.ldh i gd ga imm, 2, true), (.ldhu i gd ga imm, 2, false), (.ldb i gd ga imm, 1, true),
    (.ldbu i gd ga imm, 1, false)]

/-- A load from the copy's own data or code SRAM gives gd the bytes at ea, extended as the load does; nothing else changes
(R61, R64, R97, R98). No store is pending, no word has a wrong bit, and test mode is off.
A load from an address that holds a pending posted store returns that store's data, whatever stands in memory (R76).
A load from a single per-lane register is one read for the pair: both copies take its word, and a read effect happens
once; captures that differ a fourth time withdraw the lane with code 0x04 and DETAIL 0xFF (R99). -/
def Obligations.HelmLoadsOfEveryArea : Prop :=
  ((∀ (s : State) (i : HelmIssue) (gd ga : Reg5) (imm : Imm13) (x : Instr) (n : Nat) (signed : Bool),
    (x, n, signed) ∈ loadForms i gd ga imm → (s.lane i.lane).helmReady i false →
      let ln := s.lane i.lane
      let ea (c : HelmCopy) : Nat := (c.rg ga + imm.signExtend 32).toNat
      ln.domOn 6 = true → ln.helm.c.p.sbuf = [] → ln.helm.c.s.sbuf = [] → ln.get MEM_CBTEST_EN = 0 →
      (∀ m w, m < 4 → ln.flipAt m w = 0) →
        (ln.whereTaken i (fun c => ea c % n = 0 ∧ 0x10000000 ≤ ea c ∧ ea c < 0x10100000) →
          Runs x s i (fun c => c.wg gd (loaded c.data.bytes (ea c - 0x10000000) n signed))) ∧
        (ln.whereTaken i (fun c => ea c % n = 0 ∧ ea c < 0x200000) →
          Runs x s i (fun c => c.wg gd (loaded c.code.bytes (ea c) n signed)))) ∧
  (∀ (s : State) (i : HelmIssue) (gd ga : Reg5) (imm : Imm13)
  (v : HelmCopy → Word) (old : HelmCopy → List StoreOp), (s.lane i.lane).helmReady i false →
    let ln := s.lane i.lane
    let ea (c : HelmCopy) : Word := c.rg ga + imm.signExtend 32
    ln.domOn 6 = true →
    ln.whereTaken i (fun c => (ea c).toNat % 4 = 0 ∧ 0x10000000 ≤ (ea c).toNat ∧ (ea c).toNat < 0x10100000 ∧
      c.sbuf = old c ++ [⟨ea c, v c, 0xF⟩]) →
      Runs (.ldw i gd ga imm) s i (fun c => c.wg gd (v c)))) ∧
  (∀ (s : State) (i : HelmIssue) (gd ga : Reg5) (imm : Imm13) (off : Nat) (w : Word)
  (u : Lane), (s.lane i.lane).helmReady i false →
    let ln := s.lane i.lane
    let c := ln.helm.c
    off < 0x110000 → off % 4 = 0 → isCopyReg off = false →
    ln.bothTake i (fun c => (c.rg ga + imm.signExtend 32).toNat = 0x40000000 + off) →
    c.p.sbuf = [] → c.s.sbuf = [] → c.p.hold = [] → c.s.hold = [] →
      (i.differ < 4 → ln.readSingle off = some (w, u) → u.helm = ln.helm →
        Gives (.ldw i gd ga imm) s i.lane (u.goesOn i (fun c => c.wg gd w))) ∧
      (4 ≤ i.differ → Gives (.ldw i gd ga imm) s i.lane (ln.withdraw 0x04 0xFF)))

/-- A misaligned access raises LOAD_ALIGN or STORE_ALIGN and reads nothing, a store to code SRAM STORE_CODE, and a load
from an unmapped address, of a byte or halfword from a peripheral block, or from a memory whose domain is off LOAD_BUS;
each with CS_BADADDR at ea (R64, R84, R85, R86, R94, R97, R102). -/
def Obligations.HelmAccessExceptions : Prop := ∀ (s : State) (i : HelmIssue) (gd ga : Reg5) (imm : Imm13),
  (s.lane i.lane).helmReady i false →
    let ln := s.lane i.lane
    let ea (c : HelmCopy) : Word := c.rg ga + imm.signExtend 32
    let raises (x : Instr) (code : Nat) (q : Nat → Prop) : Prop :=
      ln.canEnter code → ln.bothTake i (fun c => q (ea c).toNat) →
        Gives x s i.lane (ln.entersWith code (fun c => { c with badaddr := ea c }))
    raises (.ldw i gd ga imm) 0x04 (fun a => a % 4 ≠ 0) ∧
    raises (.ldh i gd ga imm) 0x04 (fun a => a % 2 ≠ 0) ∧
    raises (.ldhu i gd ga imm) 0x04 (fun a => a % 2 ≠ 0) ∧
    raises (.stw i gd ga imm) 0x07 (fun a => a % 4 ≠ 0) ∧
    raises (.sth i gd ga imm) 0x07 (fun a => a % 2 ≠ 0) ∧
    raises (.stw i gd ga imm) 0x09 (fun a => a % 4 = 0 ∧ a < 0x200000) ∧
    raises (.sth i gd ga imm) 0x09 (fun a => a % 2 = 0 ∧ a < 0x200000) ∧
    raises (.stb i gd ga imm) 0x09 (fun a => a < 0x200000) ∧
    (∀ x n signed, (x, n, signed) ∈ loadForms i gd ga imm →
      raises x 0x05 (fun a => a % n = 0 ∧ (0x200000 ≤ a ∧ a < 0x10000000 ∨ 0x10100000 ≤ a ∧ a < 0x20000000 ∨ 0x40110000 ≤ a)) ∧
      (ln.domOn 6 = false → raises x 0x05 (fun a => a % n = 0 ∧ 0x10000000 ≤ a ∧ a < 0x10100000)) ∧
      (n < 4 → ln.helm.c.p.sbuf = [] → ln.helm.c.s.sbuf = [] → ln.helm.c.p.hold = [] → ln.helm.c.s.hold = [] →
        raises x 0x05 (fun a => a % n = 0 ∧ 0x40000000 ≤ a ∧ a < 0x40110000)))

/-- The byte enables and the data of a store of `n` bytes of `v` at `a`. -/
def laneBits (a : Word) (n : Nat) : BitVec 4 := BitVec.ofNat 4 ((2 ^ n - 1) * 2 ^ (a.toNat % 4))
def laneData (a v : Word) (n : Nat) : Word := BitVec.ofNat 32 (v.toNat % 2 ^ (8 * n) * 2 ^ (8 * (a.toNat % 4)))

/-- The three stores with their widths. -/
def storeForms (i : HelmIssue) (gs ga : Reg5) (imm : Imm13) : List (Instr × Nat) :=
  [(.stw i gs ga imm, 4), (.sth i gs ga imm, 2), (.stb i gs ga imm, 1)]

/-- A store that is not held retires into the store buffer with its item in the tally, and no memory changes yet; a held
one retires into the output hold queue with its window, and waits while 16 entries are held (R73, R88, R115, R302).
A store to TALLY_LIVE or TALLY_LIVEX takes effect in the storing copy when it retires (R127). -/
def Obligations.HelmStores : Prop :=
  (∀ (s : State) (i : HelmIssue) (gs ga : Reg5) (imm : Imm13) (x : Instr) (n : Nat), (x, n) ∈ storeForms i gs ga imm →
    let ln := s.lane i.lane
    let ea (c : HelmCopy) : Word := c.rg ga + imm.signExtend 32
    let fits (a : Word) : Prop := a.toNat % n = 0 ∧ 0x200000 ≤ a.toNat
    ((s.lane i.lane).helmReady i false →
      ln.whereTaken i (fun c => fits (ea c) ∧ (helmArea (ea c)).held = false ∧
        ∀ off, helmArea (ea c) = .periph off → off ≠ TALLY_LIVE ∧ off ≠ TALLY_LIVEX) →
      Runs x s i (fun c =>
        let b := laneBits (ea c) n
        let d := laneData (ea c) (c.rg gs) n
        { c with tally := tallyFold c.tally (storeItem false b (ea c) d), sbuf := c.sbuf ++ [⟨ea c, d, b⟩] })) ∧
    ((s.lane i.lane).helmReady i true → ln.bothTake i (fun c => fits (ea c) ∧ (helmArea (ea c)).held = true) →
      (ln.helm.c.p.hold.length < 16 →
        let f (c : HelmCopy) : HelmCopy :=
          let b := laneBits (ea c) n
          let d := laneData (ea c) (c.rg gs) n
          { c with tally := tallyFold c.tally (storeItem true b (ea c) d), hold := c.hold ++ [⟨ea c, d, b, ln.helm.win, false⟩] }
        Gives x s i.lane (ln.afterHelm ⟨ln.helm.c.p.after i f, ln.helm.c.s.after i f⟩ true)) ∧
      (16 ≤ ln.helm.c.p.hold.length → Gives x s i.lane ln))) ∧
  (∀ (s : State) (i : HelmIssue) (gs ga : Reg5) (imm : Imm13),
  (s.lane i.lane).helmReady i false →
    let ln := s.lane i.lane
    let ea (c : HelmCopy) : Word := c.rg ga + imm.signExtend 32
    let fold (c : HelmCopy) : HelmCopy := { c with tally := tallyFold c.tally (storeItem false 0xF (ea c) (c.rg gs)) }
    let mask (r : Reg) (rw : Word) (k : Copy) : Word :=
      (ln.crd k r &&& ~~~rw) ||| ((ln.helm.c.get k).rg gs &&& rw)
    (ln.bothTake i (fun c => (ea c).toNat = 0x40000000 + TALLY_LIVE) →
      Gives (.stw i gs ga imm) s i.lane
        (((ln.goesOn i fold).cwr .p TALLY_LIVE (mask TALLY_LIVE 0xFFFFFFFE .p)).cwr .s TALLY_LIVE
          (mask TALLY_LIVE 0xFFFFFFFE .s))) ∧
    (ln.bothTake i (fun c => (ea c).toNat = 0x40000000 + TALLY_LIVEX) →
      Gives (.stw i gs ga imm) s i.lane
        (((ln.goesOn i fold).cwr .p TALLY_LIVEX (mask TALLY_LIVEX 7 .p)).cwr .s TALLY_LIVEX (mask TALLY_LIVEX 7 .s))))

/-- The oldest posted store of each copy drains into its own data SRAM: exactly its enabled bytes are stored, every other
byte of the memory reads as before, and the store leaves the buffer (R73, R76, R98, R389). -/
def Obligations.HelmStoreDrain : Prop := ∀ (s : State) (l : LaneId) (p q : StoreOp) (tp tq : List StoreOp),
  let ln := s.lane l
  ln.helm.run = .running → ln.domOn 6 = true → ln.helm.c.p.sbuf = p :: tp → ln.helm.c.s.sbuf = q :: tq →
  0x10000000 ≤ p.addr.toNat → p.addr.toNat < 0x10100000 → 0x10000000 ≤ q.addr.toNat → q.addr.toNat < 0x10100000 →
  ln.get MEM_CBTEST_EN = 0 → (∀ w, ln.flipAt 2 w = 0) → (∀ w, ln.flipAt 3 w = 0) → ln.mem.wback = [] →
    ∃ t, exec (.storeDrain l .helm) s = .next (s.setLane l t) ∧
      t.helm.c.p.sbuf = tp ∧ t.helm.c.s.sbuf = tq ∧
      t.helm.c.p = { ln.helm.c.p with sbuf := tp, data := t.helm.c.p.data } ∧
      t.helm.c.s = { ln.helm.c.s with sbuf := tq, data := t.helm.c.s.data } ∧
      t = { ln with helm := { ln.helm with c := t.helm.c } } ∧
      (∀ a, byteAt t.helm.c.p.data.bytes a =
        let b := (p.addr.toNat - 0x10000000) / 4 * 4
        if b ≤ a ∧ a < b + 4 ∧ p.be.getLsbD (a - b) = true then p.data.extractLsb' (8 * (a - b)) 8
        else byteAt ln.helm.c.p.data.bytes a) ∧
      (∀ a, byteAt t.helm.c.s.data.bytes a =
        let b := (q.addr.toNat - 0x10000000) / 4 * 4
        if b ≤ a ∧ a < b + 4 ∧ q.be.getLsbD (a - b) = true then q.data.extractLsb' (8 * (a - b)) 8
        else byteAt ln.helm.c.s.data.bytes a)

/-- A window that has fallen due closes: with equal tallies its held entries may be released and the next window opens
with its tally at the start value; with different ones the lane withdraws with LCTL_HFAULT.CODE 0x08 (R303, R305, R306,
R307, R117). Nothing is posted and no store met a bus error.
A store bus error is raised at the close of its window as STORE_BUS, with CS_CAUSE.HELD 0, CS_EPC at the next
instruction and CS_BADADDR at the first store that met one (R87).
The oldest held entry of an equal window is released: entries that differ withdraw the lane with code 0x06, a command
window word reaches both drive copies' filling banks, and a word for a register reaches it once; an entry of a window
that has not compared equal stays (R117, R118, R122). -/
def Obligations.HelmWindowAndRelease : Prop :=
  ((∀ (s : State) (l : LaneId),
  let ln := s.lane l
  let c := ln.helm.c
  ln.helm.run = .running → ln.domOn 1 = true → ln.closeBefore false = true → c.p.sbuf = [] → c.s.sbuf = [] →
  c.p.busErr = none → c.s.busErr = none →
    (ln.foldRegs .p c.p = ln.foldRegs .s c.s →
      let next (d : HelmCopy) : HelmCopy :=
        { d with tally := 0xFFFFFFFFFFFFFFFF, hold := d.hold.map (fun (e : HoldEntry) => { e with ok := true }) }
      Gives (.tallyWindowClose l .helm) s l
        { ln with helm := { ln.helm with
            c := ⟨next c.p, next c.s⟩, win := ln.helm.win + 1, count := 0, lastHeld := false, frameSince := false } }) ∧
    (ln.foldRegs .p c.p ≠ ln.foldRegs .s c.s →
      Gives (.tallyWindowClose l .helm) s l (ln.helmFault 0x08 3 0))) ∧
  (∀ (ln : Lane) (a b : Word),
  ln.helm.c.p.busErr = some a → ln.helm.c.s.busErr = some b → ln.helm.relErr = none → ln.canEnter 0x08 →
    let t := ln.entersWith 0x08 (fun c => { c with busErr := none, cause := setBits c.cause 16 16 0 })
    ln.storeBus = { t with helm := { t.helm with c :=
      ⟨{ t.helm.c.p with badaddr := a }, { t.helm.c.s with badaddr := b }⟩ } })) ∧
  (∀ (s : State) (l : LaneId) (t : LTime) (e f : HoldEntry) (te tf : List HoldEntry),
  let ln := (s.lane l).at t
  ln.helm.run = .running → ln.helm.c.p.hold = e :: te → ln.helm.c.s.hold = f :: tf →
    let c := ln.helm.c
    let u := { ln with helm := { ln.helm with c := ⟨{ c.p with hold := te }, { c.s with hold := tf }⟩ } }
    (e.ok = false ∨ f.ok = false → Gives (.heldEntryRelease l .helm none t) s l ln) ∧
    (e.ok = true → f.ok = true → e ≠ f → Gives (.heldEntryRelease l .helm none t) s l (ln.helmFault 0x06 3 e.addr)) ∧
    (e.ok = true → e = f → e.be = 0xF → ∀ k, k < 16 → e.addr.toNat = 0x20080000 + 4 * k →
      let word (d : DriveCopy) : DriveCopy := { d with mbox := { d.mbox with fill := vset d.mbox.fill k e.data } }
      Gives (.heldEntryRelease l .helm none t) s l
        { u with drv := { u.drv with c := ⟨word u.drv.c.p, word u.drv.c.s⟩ } }) ∧
    (e.ok = true → e = f → e.be = 0xF → ∀ off v, off < 0x110000 → e.addr.toNat = 0x40000000 + off →
      u.regWrite off e.data = some v → v.helm.run = .running →
        Gives (.heldEntryRelease l .helm none t) s l v))

/-! ### The mailboxes (R122 to R125, R152) -/

/-- A doorbell of 1 to 16 words with its reserved bits 0 hands the filling bank over as the pending message of both drive
copies, replacing one that still waits (OVR); any other completes with a bus error and hands over nothing (R122, R123).
Without the urgent flag no event follows.
Status word 0 latches the most recently completed status and acknowledges it; publishing completes the status with
SEQ one higher and READY set, and raises source 12 with its overrun (R109, R125, R152). -/
def Obligations.Mailboxes : Prop :=
  (∀ (s : State) (l : LaneId) (n : Nat),
  let ln := s.lane l
  (1 ≤ n → n ≤ 16 →
    ∃ t, exec (.doorbell l (BitVec.ofNat 32 n)) s = .next (s.setLane l t) ∧
      (∀ k, (t.drv.c.get k).mbox.pend = some ⟨(ln.drv.c.get k).mbox.fill, n, false⟩) ∧
      t.get LCTL_MBSTAT_PEND = 1 ∧ t.get LCTL_MBSTAT_URGP = 0 ∧
      (t.get LCTL_MBSTAT_OVR = if ln.get LCTL_MBSTAT_PEND = 0 then ln.get LCTL_MBSTAT_OVR else 1) ∧
      (∀ r, r ≠ LCTL_MBSTAT_PEND.reg → t.rd r = ln.rd r) ∧ t.helm = ln.helm ∧ t.drv.run = ln.drv.run) ∧
  (∀ v : Word, v.toNat % 32 = 0 ∨ 16 < v.toNat % 32 ∨ v.toNat / 32 % 8 ≠ 0 ∨ v.toNat / 512 ≠ 0 →
    ln.helm.relErr = none →
      Gives (.doorbell l v) s l { ln with helm := { ln.helm with relErr := some 0x20080080 } })) ∧
  (∀ (s : State) (l : LaneId),
  let ln := s.lane l
  (∃ t, exec (.statusMailboxRead l) s = .next (s.setLane l t) ∧ t.rdata = vget ln.drv.c.p.mbox.done 0 0 ∧
    (∀ k, (t.drv.c.get k).mbox.latched = (ln.drv.c.get k).mbox.done) ∧
    (∀ k, bits (vget (t.drv.c.get k).mbox.done 0 0) 16 16 = 0) ∧
    (∀ k n, n ≠ 0 → vget (t.drv.c.get k).mbox.done n 0 = vget (ln.drv.c.get k).mbox.done n 0) ∧
    t.regs = ln.regs ∧ t.helm = ln.helm) ∧
  (∃ t, exec (.statusPublish l) s = .next (s.setLane l t) ∧
    (∀ k, bits (vget (t.drv.c.get k).mbox.done 0 0) 15 0 = (bits (vget (ln.drv.c.get k).mbox.done 0 0) 15 0 + 1) % 65536) ∧
    (∀ k, bits (vget (t.drv.c.get k).mbox.done 0 0) 16 16 = 1) ∧
    t.get LCTL_MBSTAT_PUB = 1 ∧
    (t.get LCTL_MBSTAT_PUBOV = if ln.get LCTL_MBSTAT_PUB = 0 then ln.get LCTL_MBSTAT_PUBOV else 1) ∧
    (∀ r, r ≠ LCTL_MBSTAT_PUB.reg → t.rd r = ln.rd r) ∧ t.helm = ln.helm))


/-! ### The drive engine (chapter 5) -/

/-- What a destination of a slot holds: a register, an accumulator or a flag. -/
def destValue (c : DriveCopy) : Dest → Int
  | .reg n => (c.rw n).toInt
  | .acc k => (vget c.acc k 0).toInt
  | .flag k => (b2n (c.rf k) : Int)

/-- All slots of a bundle read their sources before any slot writes: a legal bundle leaves in each destination of a slot
what that slot alone would leave there, and every other register, accumulator and flag as it was (R134). -/
def Obligations.DriveSlotsReadFirst : Prop := ∀ (s : State) (i : DriveIssue) (b : OpBundle),
  let ln := s.lane i.lane
  let legal (d : DriveCopy) : Prop := opIllegal d b = false ∧ (d.enabled b.stg.toNat = true → opRefused d b = false)
  ln.driveReady i false → ln.stageOk b.stg → legal ln.drv.c.p → legal ln.drv.c.s → b.m.op.toNat ∉ [1, 2, 3, 4] →
    ∃ f, Bundles s i b f ∧ ∀ d, opIllegal d b = false → opRefused d b = false →
      (∀ x ∈ xyDests d b.x, destValue (f d) x = destValue (xyWrite d b.x d) x) ∧
      (∀ x ∈ xyDests d b.y, destValue (f d) x = destValue (xyWrite d b.y d) x) ∧
      (∀ x ∈ mDests b.m, destValue (f d) x = destValue (mWrite d b.m 0 d) x) ∧
      (∀ r < 64, .reg r ∉ xyDests d b.x ++ xyDests d b.y ++ mDests b.m → (f d).rw r = d.rw r) ∧
      (∀ k, .acc k ∉ xyDests d b.x ++ xyDests d b.y → vget (f d).acc k 0 = vget d.acc k 0) ∧
      (∀ k < 4, .flag k ∉ xyDests d b.x ++ xyDests d b.y → (f d).rf k = d.rf k) ∧
      (f d).p = (mWrite d b.m 0 d).p ∧ (f d).m = (mWrite d b.m 0 d).m

/-- Slots X and Y on registers: every arithmetic, logical, shifting and selecting operation, in either slot, writes w[d]
and the sticky flag where it saturates; a bundle that its pass disables writes nothing (R131, R142, R154).
Compares write a flag of f1 to f3, accumulator operations an accumulator with AV, exq and exs its saturated and
shifted value, and mxi in slot X the extreme of n registers and its lowest position (R142, R143).
Pointer and control-register operations of slot M, the trellis bookkeeping of tbeg and tclr (R144), and immediate
bundles, which write w[wd] beside a slot M that reads before wd is written (R134). -/
def Obligations.DriveRegisterOperations : Prop :=
  (∀ (s : State) (i : DriveIssue) (stg : BitVec 3) (n a b : BitVec 6),
  (s.lane i.lane).driveReady i false → (s.lane i.lane).stageOk stg →
    let v (c : DriveCopy) : Word := c.rw a.toNat
    let u (c : DriveCopy) : Word := c.rw b.toNat
    let is (op : BitVec 5) (f : DriveCopy → Word) : Prop := SlotRuns s i stg ⟨op, n, a, b⟩ (fun c => c.ww n.toNat (f c))
    let sat (b : BitVec 6) (op : BitVec 5) (f : DriveCopy → Int) : Prop :=
      SlotRuns s i stg ⟨op, n, a, b⟩ (fun c => (c.ww n.toNat (sat32 (f c)).1).setSv (sat32 (f c)).2)
    is 0x01 (fun c => v c + u c) ∧ is 0x02 (fun c => v c - u c) ∧
    sat b 0x03 (fun c => (v c).toInt + (u c).toInt) ∧ sat b 0x04 (fun c => (v c).toInt - (u c).toInt) ∧
    is 0x05 (fun c => v c &&& u c) ∧ is 0x06 (fun c => v c ||| u c) ∧ is 0x07 (fun c => v c ^^^ u c) ∧
    (b.toNat < 32 → is 0x08 (fun c => (v c).sshiftRight b.toNat)) ∧
    (b.toNat < 32 → is 0x09 (fun c => v c >>> b.toNat)) ∧
    (b.toNat < 32 → sat b 0x0A (fun c => (v c).toInt * 2 ^ b.toNat)) ∧
    is 0x0B (fun c => BitVec.ofInt 32 (Min.min (v c).toInt (u c).toInt)) ∧
    is 0x0C (fun c => BitVec.ofInt 32 (Max.max (v c).toInt (u c).toInt)) ∧
    sat 0 0x0D (fun c => ((v c).toInt.natAbs : Int)) ∧
    SlotRuns s i stg ⟨0x0E, n, a, 0⟩ (fun c => c.ww n.toNat (v c)) ∧
    is 0x0F (fun c => if c.rf 1 then v c else u c) ∧
    SlotRuns s i stg ⟨0x16, n, a, b⟩ (fun c =>
      if v c = 0x80000000 ∧ u c = 0x80000000 then (c.ww n.toNat 0x7FFFFFFF).setSv true
      else c.ww n.toNat (BitVec.ofInt 32 (((v c).toInt * (u c).toInt + 2 ^ 30) / 2 ^ 31)))) ∧
  (∀ (s : State) (i : DriveIssue) (stg : BitVec 3) (n a b : BitVec 6),
  (s.lane i.lane).driveReady i false → (s.lane i.lane).stageOk stg →
    let v (c : DriveCopy) : Int := (c.rw a.toNat).toInt
    let u (c : DriveCopy) : Int := (c.rw b.toNat).toInt
    let flag (op : BitVec 5) (p : DriveCopy → Bool) : Prop :=
      SlotRuns s i stg ⟨op, n, a, b⟩ (fun c => c.wf n.toNat (p c))
    let acc (c : DriveCopy) (k : BitVec 6) : Int := (vget c.acc k.toNat 0).toInt
    let put (c : DriveCopy) (x : Int) : DriveCopy :=
      { c with acc := vset c.acc n.toNat (sat72 x).1 }.setAv (sat72 x).2
    let out (c : DriveCopy) (x : Int) : DriveCopy := (c.ww n.toNat (sat32 x).1).setSv (sat32 x).2
    let most (op : BitVec 5) (le : Int → Int → Prop) : Prop := ∃ k : DriveCopy → Nat,
      Bundles s i ⟨stg, ⟨op, n, a, b⟩, nopXY, nopM⟩ (fun c =>
        (c.ww n.toNat (c.rw (a.toNat + k c))).ww (n.toNat + 1) (BitVec.ofNat 32 (k c))) ∧
      ∀ c, k c < b.toNat ∧ ∀ j < b.toNat, le (c.rw (a.toNat + k c)).toInt (c.rw (a.toNat + j)).toInt ∧
        (c.rw (a.toNat + j) = c.rw (a.toNat + k c) → k c ≤ j)
    (1 ≤ n.toNat → n.toNat ≤ 3 →
      flag 0x10 (fun c => decide (v c < u c)) ∧
      flag 0x11 (fun c => decide ((c.rw a.toNat).toNat < (c.rw b.toNat).toNat)) ∧
      flag 0x12 (fun c => decide (c.rw a.toNat = c.rw b.toNat))) ∧
    (n.toNat ≤ 3 →
      SlotRuns s i stg ⟨0x13, n, a, b⟩ (fun c => put c (acc c n + v c * u c)) ∧
      SlotRuns s i stg ⟨0x14, n, a, b⟩ (fun c => put c (acc c n - v c * u c)) ∧
      SlotRuns s i stg ⟨0x15, n, a, b⟩ (fun c => { c with acc := vset c.acc n.toNat (BitVec.ofInt 72 (v c * u c)) }) ∧
      SlotRuns s i stg ⟨0x19, n, 0, 0⟩ (fun c => { c with acc := vset c.acc n.toNat 0 })) ∧
    (a.toNat ≤ 3 →
      SlotRuns s i stg ⟨0x17, n, a, 0⟩ (fun c => out c ((acc c a + 2 ^ 30) / 2 ^ 31)) ∧
      SlotRuns s i stg ⟨0x18, n, a, b⟩ (fun c => out c (acc c a / 2 ^ b.toNat))) ∧
    (1 ≤ b.toNat → b.toNat ≤ 16 → a.toNat + b.toNat ≤ 64 → n.toNat ≤ 62 →
      most 0x1A (fun x y => x ≤ y) ∧ most 0x1B (fun x y => y ≤ x))) ∧
  ((∀ (s : State) (i : DriveIssue) (stg : BitVec 3) (w : BitVec 6) (k : BitVec 3),
  (s.lane i.lane).driveReady i false → (s.lane i.lane).stageOk stg →
    let v (c : DriveCopy) : Word := c.rw w.toNat
    let ptr (c : DriveCopy) : Word := vget c.p k.toNat 0
    let legal (c : DriveCopy) : Prop := c.enabled stg.toNat = true → v c = 2 ∨ v c = 4 ∨ v c = 6 ∨ v c = 8
    MemSlotRuns s i stg ⟨0x5, w, k⟩ (fun c => { c with p := vset c.p k.toNat (v c) }) ∧
    MemSlotRuns s i stg ⟨0x6, w, k⟩ (fun c => { c with m := vset c.m k.toNat (v c) }) ∧
    MemSlotRuns s i stg ⟨0x7, w, k⟩ (fun c => c.ww w.toNat (ptr c)) ∧
    MemSlotRuns s i stg ⟨0x8, w, k⟩ (fun c => { c with p := vset c.p k.toNat (ptr c + v c) }) ∧
    MemSlotRuns s i stg ⟨0x9, w, 0⟩ (fun c => c.ww w.toNat c.msg) ∧
    MemSlotRuns s i stg ⟨0x9, w, 1⟩ (fun c => c.ww w.toNat c.trm) ∧
    MemSlotRuns s i stg ⟨0x9, w, 2⟩ (fun c => c.ww w.toNat (BitVec.ofNat 32 (c.sel + 16 * c.tj))) ∧
    MemSlotRuns s i stg ⟨0x9, w, 3⟩ (fun c => c.ww w.toNat (BitVec.ofNat 32 c.rot)) ∧
    (∃ f, MemSlotRuns s i stg ⟨0x9, w, 4⟩ f ∧
      ∀ c l, c.loop = some l → f c = c.ww w.toNat (BitVec.ofNat 32 l.pass)) ∧
    MemSlotRuns s i stg ⟨0x9, w, 5⟩ (fun c => c.ww w.toNat c.wake) ∧
    MemSlotRuns s i stg ⟨0x9, w, 6⟩ (fun c => c.ww w.toNat c.per) ∧
    MemSlotRuns s i stg ⟨0x9, w, 7⟩ (fun c => c.ww w.toNat c.flags) ∧
    (legal (s.lane i.lane).drv.c.p → legal (s.lane i.lane).drv.c.s →
      MemSlotRuns s i stg ⟨0xA, w, 1⟩ (fun c => { c with trm := v c })) ∧
    MemSlotRuns s i stg ⟨0xA, w, 7⟩ (fun c => { c with flags := c.flags &&& ~~~v c }) ∧
    (k.toNat ∉ [1, 7] → MemSlotRuns s i stg ⟨0xA, w, k⟩ (fun c => c)) ∧
    (k.toNat ≤ 5 →
      MemSlotRuns s i stg ⟨0xB, 0, k⟩ (fun c => { c with sel := k.toNat, tj := 0, col := some [] }) ∧
      MemSlotRuns s i stg ⟨0xD, 0, k⟩ (fun c => { c with ctx := vset c.ctx k.toNat ⟨[], []⟩ }))) ∧
  (∀ (s : State) (i : DriveIssue) (stg : BitVec 3) (wd w : BitVec 6) (k : BitVec 3) (imm : Word),
  (s.lane i.lane).driveReady i false → (s.lane i.lane).stageOk stg →
    let ln := s.lane i.lane
    Gives (.immediateBundle i stg wd 0 imm nopM) s i.lane (ln.bundles stg (fun c => c.ww wd.toNat imm)) ∧
    Gives (.immediateBundle i stg wd 0 imm ⟨5, w, k⟩) s i.lane
      (ln.bundles stg (fun c => { c.ww wd.toNat imm with p := vset c.p k.toNat (c.rw w.toNat) })) ∧
    (wd ≠ w → Gives (.immediateBundle i stg wd 0 imm ⟨7, w, k⟩) s i.lane
      (ln.bundles stg (fun c => (c.ww wd.toNat imm).ww w.toNat (vget c.p k.toNat 0))))))

/-- Loads and stores of slot M. A load takes the word of the data SRAM, a pending store's data before it, of the owned
command bank or of the agreed inputs; a store retires into the store queue, or into the output hold queue where it is
held; the post-modified forms add the offset to the pointer after the access (R148, R150, R151, R302). -/
def Obligations.DriveMemory : Prop := ∀ (s : State) (i : DriveIssue) (stg : BitVec 3) (w : BitVec 6) (k : BitVec 3),
  (s.lane i.lane).stageOk stg →
    let ln := s.lane i.lane
    let ptr (c : DriveCopy) : Word := vget c.p k.toNat 0
    let post (more : Bool) (c : DriveCopy) : DriveCopy :=
      if more then { c with p := vset c.p k.toNat (ptr c + vget c.m k.toNat 0) } else c
    let each (q : DriveCopy → Prop) : Prop :=
      (ln.drv.c.p.enabled stg.toNat = true → q ln.drv.c.p) ∧ (ln.drv.c.s.enabled stg.toNat = true → q ln.drv.c.s)
    let word (lo hi : Nat) (c : DriveCopy) : Prop := (ptr c).toNat % 4 = 0 ∧ lo ≤ (ptr c).toNat ∧ (ptr c).toNat < hi
    (ln.driveReady i false → ∀ (more : Bool) (old : DriveCopy → List StoreOp) (x : DriveCopy → Word),
      let runs (f : DriveCopy → Word) : Prop :=
        MemSlotRuns s i stg ⟨if more then 2 else 1, w, k⟩ (fun c => post more (c.ww w.toNat (f c)))
      (each (fun c => word 0x40000 0x80000 c ∧ c.sbuf = []) → ln.get MEM_CBTEST_EN = 0 →
        (∀ j, ln.flipAt 6 j = 0) → (∀ j, ln.flipAt 7 j = 0) →
          runs (fun c => wordAt c.data.bytes ((ptr c).toNat - 0x40000))) ∧
      (each (fun c => word 0x40000 0x80000 c ∧ c.sbuf = old c ++ [⟨ptr c, x c, 0xF⟩]) → runs x) ∧
      (each (fun c => word 0x80000 0x80040 c ∧ ∃ g, c.mbox.owned = some g) →
        runs (fun c => match c.mbox.owned with
          | some g => vget g.words (((ptr c).toNat - 0x80000) / 4) 0
          | none => 0)) ∧
      (∀ g, each (fun c => word 0xB0000 0xB0400 c ∧ keyGet ln.comm.inputs (((ptr c).toNat - 0xB0000) / 4) = some (g c)) →
        runs g)) ∧
    (∀ more : Bool,
      let m : SlotM := ⟨if more then 4 else 3, w, k⟩
      (ln.driveReady i false → each (word 0x40000 0x80000) →
        MemSlotRuns s i stg m (fun c => post more
          { c with
            tally := tallyFold c.tally (storeItem false 0xF (ptr c) (c.rw w.toNat))
            sbuf := c.sbuf ++ [⟨ptr c, c.rw w.toNat, 0xF⟩] })) ∧
      (ln.driveReady i true → ln.drv.c.p.hold.length < 32 → ln.drv.c.p.enabled stg.toNat = true →
        each (fun c => word 0x80100 0x80180 c ∨ word 0xA0000 0xA0048 c ∨ word 0xA0080 0xA0098 c) →
          let f (c : DriveCopy) : DriveCopy := post more
            { c with
              tally := tallyFold c.tally (storeItem true 0xF (ptr c) (c.rw w.toNat))
              hold := c.hold ++ [⟨ptr c, c.rw w.toNat, 0xF, ln.drv.win, false⟩] }
          Gives (.operationBundle i ⟨stg, nopXY, nopXY, m⟩) s i.lane
            (ln.afterBundle ⟨ln.drv.c.p.bundled stg f, ln.drv.c.s.bundled stg f⟩ true)))

/-- asx computes the pair of destination states 2j and 2j + 1: each takes the least of stay, advance and retreat, the
lowest index on a tie, with metrics that saturate; the column is complete when TJ reaches M ÷ 2, and its decisions enter
the path memory, of which the oldest of more than 16 columns leaves (R144, R145).
tbk traces back from the least metric of the newest column along the decisions held to the oldest column: bits 2 to 0
are the state of the oldest column, bits 10 to 8 the best newest state, bit 31 says that 16 columns are held, and every
other bit is 0. A trace over one column, and over a column more, follows the newest column's decision (R147). -/
def Obligations.DriveTrellis : Prop :=
  (∀ (s : State) (i : DriveIssue) (stg : BitVec 3) (n a b : BitVec 6),
  (s.lane i.lane).driveReady i false → (s.lane i.lane).stageOk stg →
    let ok (c : DriveCopy) : Prop :=
      n.toNat + c.trm.toNat ≤ 64 ∧ a.toNat + c.trm.toNat ≤ 64 ∧ b.toNat + 3 * c.trm.toNat ≤ 64 ∧
      (c.trm.toNat = 2 ∨ c.trm.toNat = 4 ∨ c.trm.toNat = 6 ∨ c.trm.toNat = 8) ∧
      (c.enabled stg.toNat = true → c.tj < c.trm.toNat / 2 ∧ c.col ≠ none)
    ok (s.lane i.lane).drv.c.p → ok (s.lane i.lane).drv.c.s →
      ∃ f, Bundles s i ⟨stg, ⟨0x1C, n, a, b⟩, nopXY, nopM⟩ f ∧
      ∀ c, ok c → c.tj < c.trm.toNat / 2 → ∃ (d0 d1 : Fin 3) (v0 v1 : Word),
        let m := c.trm.toNat
        let from3 (k : Nat) : Fin 3 → Nat := fun t => if t = 0 then k else if t = 1 then (k + m - 1) % m else (k + 1) % m
        let cand (k : Nat) (t : Fin 3) : Nat :=
          Min.min ((c.rw (a.toNat + from3 k t)).toNat + (c.rw (b.toNat + 3 * k + t.val)).toNat) 0xFFFFFFFF
        let least (k : Nat) (t : Fin 3) (v : Word) : Prop :=
          v.toNat = cand k t ∧ ∀ u : Fin 3, cand k t ≤ cand k u ∧ (cand k u = cand k t → t ≤ u)
        let t := vget c.ctx c.sel ⟨[], []⟩
        let dec := (match c.col with | some l => l | none => []) ++ [(d0, v0), (d1, v1)]
        least (2 * c.tj) d0 v0 ∧ least (2 * c.tj + 1) d1 v1 ∧
        (f c).rw (n.toNat + 2 * c.tj) = v0 ∧ (f c).rw (n.toNat + 2 * c.tj + 1) = v1 ∧
        (∀ r < 64, r ≠ n.toNat + 2 * c.tj → r ≠ n.toNat + 2 * c.tj + 1 → (f c).rw r = c.rw r) ∧
        (f c).tj = c.tj + 1 ∧ (f c).col = some dec ∧ (f c).flags = c.flags ∧
        (c.tj + 1 < m / 2 → (f c).ctx = c.ctx) ∧
        (c.tj + 1 = m / 2 → (f c).ctx = vset c.ctx c.sel ⟨(dec.map (fun x => x.1) :: t.cols).take 16, dec.map (fun x => x.2)⟩)) ∧
  (∀ (s : State) (i : DriveIssue) (stg : BitVec 3) (w : BitVec 6),
  (s.lane i.lane).driveReady i false → (s.lane i.lane).stageOk stg →
    let ok (c : DriveCopy) : Prop :=
      c.enabled stg.toNat = true → c.trm.toNat ≤ 8 ∧ c.tj = c.trm.toNat / 2 ∧ c.col ≠ none
    ok (s.lane i.lane).drv.c.p → ok (s.lane i.lane).drv.c.s →
      ∃ x : DriveCopy → Word, MemSlotRuns s i stg ⟨0xC, w, 0⟩ (fun c => c.ww w.toNat (x c)) ∧
      ∀ c cols metrics, vget c.ctx c.sel ⟨[], []⟩ = ⟨cols, metrics⟩ → cols ≠ [] → metrics ≠ [] → metrics.length ≤ 8 →
        c.trm.toNat ∈ [2, 4, 6, 8] →
        ∃ path : List Nat, path.length = cols.length ∧
          (∃ b, path.head? = some b ∧ b < metrics.length ∧ bits (x c) 10 8 = b ∧
            ∀ k, k < metrics.length → (metrics.getD b 0).toNat ≤ (metrics.getD k 0).toNat ∧
              (metrics.getD k 0 = metrics.getD b 0 → b ≤ k)) ∧
          (∀ j u v col d, path[j]? = some u → path[j + 1]? = some v → cols[j]? = some col → col[u]? = some d →
            v = if d = 0 then u else if d = 1 then (u + c.trm.toNat - 1) % c.trm.toNat else (u + 1) % c.trm.toNat) ∧
          (∃ e, path.getLast? = some e ∧ bits (x c) 2 0 = e % 8) ∧
          (bits (x c) 31 31 = 1 ↔ cols.length = 16) ∧ x c &&& 0x7FFFF8F8 = 0)

/-- The loop bundle sets ROT to 0 and starts N + S - 1 passes of the L bundles after it, or passes over them where N is 0;
in a pass k a bundle of stage s takes effect exactly where s ≤ k ≤ N - 1 + s; after the last bundle of every pass ROT
counts one, and after the last pass the bundle counter goes past the body; a value written to w(r) is then read as
w(r - 1), and one written to w0 as w47 (R132, R153).
Branches add their signed offset to the bundle counter where they are taken, call pushes the next bundle and ret pops
it, a fence with nothing queued goes on and with something queued waits, and wfp shows the period's lane time and waits,
or ends at once with a take where an urgent event or an overrun is latched (R136, R155, R156, R158). -/
def Obligations.DriveLoopsAndControl : Prop :=
  ((∀ (s : State) (i : DriveIssue) (cs : Bool) (wn : BitVec 6) (imm : BitVec 16) (s1 : BitVec 3) (l1 : BitVec 10),
    let ln := s.lane i.lane
    let n (c : DriveCopy) : Nat := if cs then (c.rw wn.toNat).toNat % 65536 else imm.toNat
    ln.driveReady i false → ln.noLoop →
      Gives (.loop i cs wn imm s1 l1 0) s i.lane (ln.controls (fun c =>
        if n c = 0 then { c with rot := 0, looped := true, pc := c.pc + l1.toNat + 2 }
        else { c with
          rot := 0
          looped := true
          pc := c.pc + 1
          loop := some { start := c.pc + 1, len := l1.toNat + 1, stages := s1.toNat + 1, iters := n c, pass := 0 } }))) ∧
  (∀ (c : DriveCopy) (l : LoopState) (stg : BitVec 3), c.loop = some l → 1 ≤ l.iters → l.stages ≤ 8 →
    (c.enabled stg.toNat = true ↔ stg.toNat ≤ l.pass ∧ l.pass ≤ l.iters - 1 + stg.toNat) ∧
    (c.pc + 1 < l.start + l.len → c.advance = { c with pc := c.pc + 1 }) ∧
    (l.start + l.len ≤ c.pc + 1 →
      (l.pass + 2 < l.iters + l.stages →
        c.advance = { c with rot := (c.rot + 1) % 48, pc := l.start, loop := some { l with pass := l.pass + 1 } }) ∧
      (l.iters + l.stages ≤ l.pass + 2 →
        c.advance = { c with rot := (c.rot + 1) % 48, pc := l.start + l.len, loop := none }))) ∧
  (∀ (c : DriveCopy) (v : Word) (r : Nat), c.rot < 48 → 1 ≤ r → r < 48 →
    { c.ww r v with rot := (c.rot + 1) % 48 }.rw (r - 1) = v ∧ { c.ww 0 v with rot := (c.rot + 1) % 48 }.rw 47 = v ∧
      ∀ q, 48 ≤ q → q < 64 → { c.ww q v with rot := (c.rot + 1) % 48 }.rw q = v)) ∧
  (∀ (s : State) (i : DriveIssue) (off : BitVec 24) (f : BitVec 2),
  let ln := s.lane i.lane
  let target (c : DriveCopy) : Int := (c.pc : Int) + off.toInt
  let inside (c : DriveCopy) : Prop := 0 ≤ target c ∧ target c < 16384
  let go (c : DriveCopy) : DriveCopy := { c with pc := (target c).toNat }
  let next (c : DriveCopy) : DriveCopy := { c with pc := c.pc + 1 }
  let each (q : DriveCopy → Prop) : Prop := q ln.drv.c.p ∧ q ln.drv.c.s
  ln.driveReady i false → ln.noLoop →
    (each inside → Gives (.driveBranch i 0 off) s i.lane (ln.controls go)) ∧
    (each (fun c => c.rf f.toNat = true → inside c) →
      Gives (.bf i f 0 off) s i.lane (ln.controls (fun c => if c.rf f.toNat then go c else next c))) ∧
    (each (fun c => c.rf f.toNat = false → inside c) →
      Gives (.bnf i f 0 off) s i.lane (ln.controls (fun c => if c.rf f.toNat then next c else go c))) ∧
    (each (fun c => inside c ∧ c.stack.length < 4) →
      Gives (.driveCall i 0 off) s i.lane
        (ln.controls (fun c => { c with pc := (target c).toNat, stack := (c.pc + 1) :: c.stack }))) ∧
    (∀ (x : DriveCopy → Nat) (y : DriveCopy → List Nat), each (fun c => c.stack = x c :: y c) →
      Gives (.ret i 0) s i.lane (ln.controls (fun c => { c with pc := x c, stack := y c }))) ∧
    (each (fun c => c.sbuf = [] ∧ c.hold = []) → Gives (.driveFence i 0) s i.lane (ln.controls next)) ∧
    (ln.drv.c.p.sbuf ≠ [] ∨ ln.drv.c.p.hold ≠ [] →
      Gives (.driveFence i 0) s i.lane { ln with drv := { ln.drv with run := .fence } }) ∧
    (ln.drv.count = 0 →
      let used := (ln.controls next).put LCTL_DSTAT_USED (min ((ln.lt - ln.drv.periodStart).toNat / 64) 0xFFFF)
      (ln.drv.urgent = false → ln.drv.overrun = false →
        Gives (.wfp i 0) s i.lane ({ used with drv := { used.drv with run := .waiting } }.put LCTL_DSTAT_WAIT 1)) ∧
      (ln.drv.urgent = true ∨ ln.drv.overrun = true →
        (∀ k, (ln.drv.c.get k).mbox.pend = none) →
        let wake := BitVec.ofNat 32 (2 * b2n ln.drv.urgent + 4 * b2n ln.drv.overrun)
        let done (c : DriveCopy) : DriveCopy := { c with wake := wake }
        Gives (.wfp i 0) s i.lane
          ({ used with drv := { used.drv with
              c := ⟨done used.drv.c.p, done used.drv.c.s⟩, urgent := false, overrun := false } }.put LCTL_DSTAT_WAIT 0))))

/-- The drive faults of a bundle, each with its code, the copies that met it and the bundle's index: an illegal bundle, a
loop or control bundle inside a body, a branch target outside program SRAM, a call onto a full stack and a ret from an
empty one, an address that is misaligned, unmapped or against its direction, and halves of the gate that differ
(R133, R134, R149, R154, R162). Each stops the pair, empties both drive hold queues, latches LCTL_DFAULT, writes the
drive-fault event, and the lane withdraws (R129, R162). -/
def Obligations.DriveFaultCodes : Prop :=
  (∀ (s : State) (i : DriveIssue) (b : OpBundle) (off : BitVec 24) (f : BitVec 2),
  let ln := s.lane i.lane
  let p := ln.drv.c.p
  let q := ln.drv.c.s
  let both (c : DriveCopy → Prop) : Prop := c p ∧ c q
  let target (c : DriveCopy) : Int := (c.pc : Int) + off.toInt
  let outside (c : DriveCopy) : Prop := target c < 0 ∨ 16384 ≤ target c
  let ptr (c : DriveCopy) : Nat := (vget c.p b.m.p.toNat 0).toNat
  let load : Prop := b.m.op = 1 ∨ b.m.op = 2
  let store : Prop := b.m.op = 3 ∨ b.m.op = 4
  let into (a lo hi : Nat) : Prop := lo ≤ a ∧ a < hi
  (ln.driveReady i (p.holdsStore b.stg.toNat b.m) →
    (b.x.op.toNat ∈ [0x1D, 0x1E, 0x1F] ∨ 0x1A ≤ b.y.op.toNat ∨ b.m.op.toNat ∈ [0xE, 0xF] ∨
        (∃ x ∈ xyDests p b.x, x ∈ xyDests p b.y) ∧ (∃ x ∈ xyDests q b.x, x ∈ xyDests q b.y) ∨
        (∃ x ∈ xyDests p b.x, x ∈ mDests b.m) ∧ (∃ x ∈ xyDests q b.x, x ∈ mDests b.m) ∨
        b.x.op.toNat ∈ [0x10, 0x11, 0x12] ∧ (b.x.d = 0 ∨ 3 < b.x.d.toNat) ∨
        ln.noLoop ∧ b.stg ≠ 0 →
      DriveFaults (.operationBundle i b) s i 0x01 3 p.pc) ∧
    (opIllegal p b = false → opIllegal q b = false → ln.stageOk b.stg →
      both (fun c => c.enabled b.stg.toNat = true ∧ opRefused c b = false) →
      (load ∨ store) ∧ both (fun c => ptr c % 4 ≠ 0) ∨
        load ∧ both (fun c => ¬ (into (ptr c) 0x40000 0x80000 ∨ into (ptr c) 0x80000 0x80040 ∨ into (ptr c) 0xB0000 0xB0400)) ∨
        store ∧ both (fun c => ¬ (into (ptr c) 0x40000 0x80000 ∨ into (ptr c) 0x80100 0x80180 ∨
          into (ptr c) 0xA0000 0xA0048 ∨ into (ptr c) 0xA0080 0xA0098)) →
      DriveFaults (.operationBundle i b) s i 0x02 3 p.pc)) ∧
  (ln.driveReady i false →
    (p.loop ≠ none → q.loop ≠ none →
      DriveFaults (.driveBranch i 0 off) s i 0x01 3 p.pc ∧ DriveFaults (.ret i 0) s i 0x01 3 p.pc ∧
      DriveFaults (.loop i false 0 0 0 0 0) s i 0x01 3 p.pc ∧ (ln.drv.count = 0 → DriveFaults (.wfp i 0) s i 0x01 3 p.pc)) ∧
    (∀ r, r ≠ 0 → DriveFaults (.driveBranch i r off) s i 0x01 3 p.pc ∧ DriveFaults (.driveCall i r off) s i 0x01 3 p.pc) ∧
    (ln.noLoop → both outside →
      DriveFaults (.driveBranch i 0 off) s i 0x02 3 p.pc ∧
      (both (fun c => c.rf f.toNat = true) → DriveFaults (.bf i f 0 off) s i 0x02 3 p.pc) ∧
      (both (fun c => c.rf f.toNat = false) → DriveFaults (.bnf i f 0 off) s i 0x02 3 p.pc) ∧
      (both (fun c => c.stack.length < 4) → DriveFaults (.driveCall i 0 off) s i 0x02 3 p.pc)) ∧
    (ln.noLoop → both (fun c => 4 ≤ c.stack.length) → DriveFaults (.driveCall i 0 off) s i 0x05 3 p.pc) ∧
    (ln.noLoop → both (fun c => c.stack = []) → DriveFaults (.ret i 0) s i 0x05 3 p.pc)) ∧
  (∀ j : DriveIssue, ln.driveReady { j with agree := true } false → j.lane = i.lane → j.agree = false →
    DriveFaults (.driveBranch j 0 off) s j 0x07 3 0)) ∧
  (∀ (ln : Lane) (code side pc : Nat),
  0 < code → code < 256 → side < 4 → pc < 16384 → isRunning ln.lstate = true →
  (ln.rj.times.filter (fun t => decide ((ln.lt - t).toNat ≤ 480000000000))).length < 3 →
    let t := ln.driveFault code side pc
    t.get LCTL_DFAULT_CODE = code ∧ t.get LCTL_DFAULT_SIDE = side ∧ t.get LCTL_DFAULT_PC = pc ∧
    t.drv.run = .stopped ∧ t.drv.c.p.hold = [] ∧ t.drv.c.s.hold = [] ∧ t.lstate = lsWithdrawn ∧
    ((ln.log.buf.length < 32) → ∃ e ∈ t.log.buf, e.code = 0x21 ∧ e.d0 = t.rd LCTL_DFAULT))

/-- The drive pair's queues: the oldest posted store of each copy drains to its own data SRAM; a window that has fallen due
closes with equal tallies, or faults with code 0x09; the oldest held entry of an equal window is released to its place,
and entries that differ fault with code 0x08 (R73, R151, R152, R157).
Two copies that agree in w48 to w63, the accumulators, the pointers, the offsets and the tally so far close their window
alike, whatever stands in the rotating registers (R160). -/
def Obligations.DriveQueues : Prop := 
  (∀ (s : State) (l : LaneId),
  let ln := s.lane l
  let c := ln.drv.c
  (∀ (p q : StoreOp) (tp tq : List StoreOp), ln.drv.run = .running → c.p.sbuf = p :: tp → c.s.sbuf = q :: tq →
    p.be = 0xF → q.be = 0xF →
    0x40000 ≤ p.addr.toNat → p.addr.toNat < 0x80000 → 0x40000 ≤ q.addr.toNat → q.addr.toNat < 0x80000 →
    p.addr.toNat % 4 = 0 → q.addr.toNat % 4 = 0 →
    ln.get MEM_CBTEST_EN = 0 → (∀ w, ln.flipAt 6 w = 0) → (∀ w, ln.flipAt 7 w = 0) → ln.mem.wback = [] →
      ∃ t, exec (.storeDrain l .drive) s = .next (s.setLane l t) ∧
        t = { ln with drv := { ln.drv with c :=
          ⟨{ c.p with sbuf := tp, data := t.drv.c.p.data }, { c.s with sbuf := tq, data := t.drv.c.s.data }⟩ } } ∧
        (∀ a, byteAt t.drv.c.p.data.bytes a =
          if p.addr.toNat - 0x40000 ≤ a ∧ a < p.addr.toNat - 0x40000 + 4 then
            p.data.extractLsb' (8 * (a - (p.addr.toNat - 0x40000))) 8
          else byteAt c.p.data.bytes a) ∧
        (∀ a, byteAt t.drv.c.s.data.bytes a =
          if q.addr.toNat - 0x40000 ≤ a ∧ a < q.addr.toNat - 0x40000 + 4 then
            q.data.extractLsb' (8 * (a - (q.addr.toNat - 0x40000))) 8
          else byteAt c.s.data.bytes a)) ∧
  (ln.drv.run = .running → ln.domOn 3 = true → 256 ≤ ln.drv.count → c.p.sbuf = [] → c.s.sbuf = [] →
    (c.p.foldRegs = c.s.foldRegs →
      let next (d : DriveCopy) : DriveCopy :=
        { d with tally := 0xFFFFFFFFFFFFFFFF, hold := d.hold.map (fun (e : HoldEntry) => { e with ok := true }) }
      Gives (.tallyWindowClose l .drive) s l
        { ln with drv := { ln.drv with c := ⟨next c.p, next c.s⟩, win := ln.drv.win + 1, count := 0, lastHeld := false } }) ∧
    (c.p.foldRegs ≠ c.s.foldRegs → Gives (.tallyWindowClose l .drive) s l (ln.driveFault 0x09 3 0))) ∧
  (∀ (t : LTime) (e f : HoldEntry) (te tf : List HoldEntry),
    let ln := (s.lane l).at t
    let c := ln.drv.c
    let u := { ln with drv := { ln.drv with c := ⟨{ c.p with hold := te }, { c.s with hold := tf }⟩ } }
    ln.drv.run = .running → c.p.hold = e :: te → c.s.hold = f :: tf →
      (e.ok = false ∨ f.ok = false → Gives (.heldEntryRelease l .drive none t) s l ln) ∧
      (e.ok = true → f.ok = true → e ≠ f → Gives (.heldEntryRelease l .drive none t) s l (ln.driveFault 0x08 3 0)) ∧
      (e.ok = true → e = f → ∀ k, 1 ≤ k → k < 32 → e.addr.toNat = 0x80100 + 4 * k →
        let word (d : DriveCopy) : DriveCopy := { d with mbox := { d.mbox with next := vset d.mbox.next k e.data } }
        Gives (.heldEntryRelease l .drive none t) s l
          { u with drv := { u.drv with c := ⟨word u.drv.c.p, word u.drv.c.s⟩ } }))) ∧
  (∀ c d : DriveCopy,
  (∀ k, 48 ≤ k → k < 64 → vget c.w k 0 = vget d.w k 0) → c.acc = d.acc → c.p = d.p → c.m = d.m → c.tally = d.tally →
    c.foldRegs = d.foldRegs)


/-! ### Feeds and power domains (chapter 1) -/

/-- Both feeds' SRC flags as R20 puts them: the higher present feed supplies, both within 0.2 V. -/
def supplied (u : Lane) : Lane :=
  let ok1 := u.is PWR_FEED_F1_OK
  let ok2 := u.is PWR_FEED_F2_OK
  (u.putB PWR_FEED_F1_SRC (ok1 && (!ok2 || decide (u.pwr.feed2 ≤ u.pwr.feed1 + 200)))).putB PWR_FEED_F2_SRC
    (ok2 && (!ok1 || decide (u.pwr.feed1 ≤ u.pwr.feed2 + 200)))

/-- A feed's OK and LOSS flags and its number. -/
def feedFields : FeedId → Field × Field × Nat
  | .f1 => (PWR_FEED_F1_OK, PWR_FEED_F1_LOSS, 1)
  | .f2 => (PWR_FEED_F2_OK, PWR_FEED_F2_LOSS, 2)

/-- Feed voltages within the absolute limits of R535. -/
def feedsInLimits (v w : Int) : Prop := -36000 ≤ v ∧ v ≤ 58000 ∧ -36000 ≤ w ∧ w ≤ 58000

/-- A feed that becomes present supplies as R20 says, and takes a lane out of power-on reset (R19, R373); the loss of one
of two feeds sets its flag and writes event 0x01, the loss of the last one ends in power-on reset with MRAM kept (R22, R23);
reverse current and reversed polarity set REVB (R21); PWR_FEEDV holds 10 mV units, 0 at or below 0 V. -/
def Obligations.Feeds : Prop := ∀ (s : State) (l : LaneId) (f : FeedId) (t : LTime) (v w : Int),
  let ln := s.lane l
  let ok := (feedFields f).1
  let loss := (feedFields f).2.1
  let ok' := (feedFields (otherFeed f)).1
  (ln.is ok = false → ln.pwr.stage ≠ .reset →
    Gives (.feedPresent l f t) s l (supplied (((ln.setGone f false).at t).on ok))) ∧
  (ln.is ok = false → ln.pwr.stage = .reset → vget ln.pwr.phase 5 .on = .off →
    Ends (.feedPresent l f t) s l (fun u => u.is ok = true ∧ u.pwr.stage = .powering ∧
      u.pwr.jobs = [⟨[5], true⟩, ⟨[6], true⟩, ⟨[4], true⟩, ⟨[7], true⟩, ⟨[0, 1], true⟩, ⟨[2, 3], true⟩] ∧
      vget u.pwr.phase 5 .on = .rising ∧ (ln.nv.pfail = true → u.is PWR_FEED_PFAIL = true ∧ u.nv.pfail = false))) ∧
  (ln.is ok = true → ln.is ok' = true → ln.mode.shut = .none →
    Gives (.feedLoss l f t) s l
      (((supplied (((ln.at t).put ok 0).on loss)).setGone f true).logR 0x01 PWR_FEED (feedFields f).2.2)) ∧
  (ln.is ok = true → ln.is ok' = false →
    Ends (.feedLoss l f t) s l (fun u => u.pwr.stage = .reset ∧ u.nv.pfail = true ∧ (∀ r, u.rd r = regReset r) ∧
      u.helm.run = .stopped ∧ u.drv.run = .stopped ∧ u.pwr = PowerUnit.reset)) ∧
  Gives (.reverseCurrentTurnOff l f) s l (ln.on PWR_FEED_REVB) ∧
  Ends (.feedReversedPolarity l f) s l (fun u => u.is PWR_FEED_REVB = true ∧
    (match f with | .f1 => u.get PWR_FEEDV_F1V = 0 ∧ u.pwr.feed1 = 0 | .f2 => u.get PWR_FEEDV_F2V = 0 ∧ u.pwr.feed2 = 0) ∧
    ln.sameRegs u [PWR_FEED, PWR_FEEDV]) ∧
  (feedsInLimits v w → ln.pwr.stage ≠ .reset →
    Ends (.feedVoltageRefresh l v w t) s l (fun u => u.get PWR_FEEDV_F1V = min (v.toNat / 10) 65535 ∧
      u.get PWR_FEEDV_F2V = min (w.toNat / 10) 65535 ∧ u.pwr.feed1 = v ∧ u.pwr.feed2 = w ∧ ln.sameRegs u [PWR_FEEDV])) ∧
  (feedsInLimits v w →
    Gives (.feedSourceChange l v w) s l (supplied { ln with pwr := { ln.pwr with feed1 := v, feed2 := w } }))

/-- PWR_DOMSTAT as the phases of the domains put it (R26, R31). -/
def shownDomains (u : Lane) : Lane :=
  let at' (n : Nat) (phs : List DomPhase) : Nat := if phs.contains (vget u.pwr.phase n .on) then 2 ^ n else 0
  let sum (phs : List DomPhase) : Nat := at' 0 phs + at' 1 phs + at' 2 phs + at' 3 phs + at' 4 phs + at' 5 phs + at' 6 phs + at' 7 phs
  (((u.put PWR_DOMSTAT_ON (sum [.on, .quieting, .falling])).put PWR_DOMSTAT_ISO (sum [.falling, .off, .rising])).putB
    PWR_DOMSTAT_BUSY (!u.pwr.jobs.isEmpty)).permits

/-- The lane with one domain in a phase and a sequence under way. -/
def switched (u : Lane) (n : Nat) (ph : DomPhase) (js : List DomJob) : Lane :=
  { u with pwr := { u.pwr with phase := vset u.pwr.phase n ph, jobs := js } }

/-- PWR_DOMCTL is held while a sequence runs (R34); in STANDBY and SERVICE a request for domain 5 or 8 asks that domain
for quiet, and elsewhere, or for one of domains 1 to 4 alone, a request is rejected with its REJ bits and event 0x03 (R28,
R33). Quiet acknowledged, a domain is clamped; its rail down it is off, its rail stable it is on, and what waits for the
end of the sequence begins (R31, R373, R374). -/
def Obligations.PowerDomains : Prop := ∀ (s : State) (l : LaneId) (v : Word) (d : Fin 8),
  let ln := s.lane l
  let idle := ln.is PWR_DOMSTAT_BUSY = false ∧ ∀ n, n < 8 → vget ln.pwr.phase n .on = .on
  let calm := ln.locked = true ∧ ln.mode.sleep = .none ∧ ln.mode.shut = .none ∧ ln.pwr.heldDom = []
  (ln.is PWR_DOMSTAT_BUSY = true →
    Gives (.pwrDomctlWrite l v) s l { ln with pwr := { ln.pwr with heldDom := ln.pwr.heldDom ++ [v] } }) ∧
  (idle → (ln.modeNow = 3 ∨ ln.modeNow = 5) → (d = 4 ∨ d = 7) → bits v 7 0 = 255 - 2 ^ d.toNat →
    Gives (.pwrDomctlWrite l v) s l
      (shownDomains (switched (ln.put PWR_DOMCTL_DOM (255 - 2 ^ d.toNat)) d .quieting [⟨[d.toNat], false⟩]))) ∧
  (idle → ln.modeNow ≠ 3 → ln.modeNow ≠ 5 → bits v 7 0 = 255 - 2 ^ d.toNat →
    Gives (.pwrDomctlWrite l v) s l
      ((ln.put PWR_DOMSTAT_REJ (ln.get PWR_DOMSTAT_REJ ||| 2 ^ d.toNat)).logR 0x03 PWR_DOMSTAT (2 ^ d.toNat))) ∧
  (idle → d < 4 → bits v 7 0 = 255 - 2 ^ d.toNat →
    Gives (.pwrDomctlWrite l v) s l
      ((ln.put PWR_DOMSTAT_REJ (ln.get PWR_DOMSTAT_REJ ||| 2 ^ d.toNat)).logR 0x03 PWR_DOMSTAT (2 ^ d.toNat))) ∧
  (vget ln.pwr.phase d .on = .quieting →
    Ends (.domainQuietAcknowledge l d) s l (fun u => vget u.pwr.phase d .on = .falling ∧ u.pwr.jobs = ln.pwr.jobs ∧
      (d < 2 → u.helm.run = .stopped) ∧ (d = 2 ∨ d = 3 → u.drv.run = .stopped ∧ u.get LCTL_DSTAT_RUN = 0) ∧
      (d = 7 → ∀ k, k < 8 → u.get (POS_ISTAT_VALID k) = 0 ∧ u.get (POS_HSTAT_VALID k) = 0))) ∧
  ((d = 4 ∨ d = 7) → vget ln.pwr.phase d .on = .quieting →
    Ends (.domainQuietAcknowledge l d) s l (fun u => ∃ x, u = shownDomains (switched x d .falling ln.pwr.jobs))) ∧
  (calm → 4 ≤ d → vget ln.pwr.phase d .on = .falling → ln.pwr.jobs = [⟨[d.toNat], false⟩] →
    Gives (.domainRailOff l d) s l (shownDomains (switched ln d .off []))) ∧
  (calm → 4 ≤ d → vget ln.pwr.phase d .on = .rising → ln.pwr.jobs = [⟨[d.toNat], true⟩] →
    Gives (.domainRailStable l d) s l (shownDomains (switched ln d .on []))) ∧
  (ln.pwr.stage = .powering → vget ln.pwr.phase 2 .on = .on → vget ln.pwr.phase 3 .on = .rising →
    ln.pwr.jobs = [⟨[2, 3], true⟩] → ln.mode.accepted = false → ∀ r : BistRec, ln.nv.bist = some r → r.consumed = false →
      r.pass = true →
      Ends (.domainRailStable l 3) s l (fun u => u.pwr.stage = .filling ∧ u.mode.accepted = true ∧ u.pwr.jobs = [] ∧
        u.nv.bist = some { r with consumed := true }))

/-! ### Lane time, the pace interlock, frame and period starts (chapter 2) -/

/-- R49: periods, in PWM and FRAME units, that are no shorter than the minimums at a ceiling of `ps` with `n` channels. -/
def slowEnough (ps n pwm frame : Nat) : Prop :=
  100 ≤ pwm ∧ (4000 + 5200 * n) * ps ≤ pwm * 250000 ∧ 4 ≤ frame ∧ 96000 * ps ≤ frame * 25000000

/-- R38, R39: the step ceiling of an operating point in ps, and its end-of-life value. -/
def pointPs (eol : Bool) (p : Nat) : Nat := match eol, p with | true, _ => 1550 | false, 1 => 1420 | false, 2 => 1180 | false, _ => 1020

/-- A mode in which pace writes are taken (R60). -/
def paceModes (m : Nat) : Prop := m = 3 ∨ m = 4 ∨ m = 5 ∨ m = 6 ∨ m = 7 ∨ m = 8

/-- Nothing is held, waits or moves in the pace unit. -/
def paceIdle (u : Lane) : Prop :=
  u.pace.heldCtl = none ∧ u.pace.heldRate = none ∧ u.pace.waiting = none ∧ u.is PACE_STAT_SLEW = false ∧
    u.pace.target = u.get PACE_STAT_OP

/-- The pace interlock: a write outside the modes of R60 is dropped with event 0x12; a target point whose minimums the
periods in force reach moves the voltage under the higher ceiling (R40, R52), and one they break is held with event 0x10
(R53); periods outside R51, or too short for any point, set REJ_R (R55), those that the ceiling in force allows wait for
PACE_APPLY (R56), the others are held. The voltage reached, the point and its ceiling are in force (R58). -/
def Obligations.PaceInterlock : Prop := ∀ (s : State) (l : LaneId) (v : Word),
  let ln := s.lane l
  let n := ln.nChan
  let p := bits v 1 0
  let pwm := bits v 9 0
  let frame := bits v 21 16
  let eol := ln.is PACE_STAT_EOL
  let live := slowEnough (pointPs eol p) n (ln.get PACE_LIVE_PWM_LIVE) (ln.get PACE_LIVE_FR_LIVE)
  let shapes := 100 ≤ pwm ∧ pwm ≤ 800 ∧ 4 ≤ frame ∧ frame ≤ 40 ∧ frame * 100 % pwm = 0 ∧ frame * 100 / pwm ≤ 40
  let reach := slowEnough 1020 n pwm frame ∧ (eol = true → slowEnough 1550 n pwm frame)
  let now := slowEnough (ln.get PACE_STAT_CEIL_PS) n pwm frame
  let barred := p = 1 ∧ ln.nv.bar1 = true ∨ p = 2 ∧ ln.nv.bar2 = true
  (¬ paceModes ln.modeNow →
    Gives (.paceCtlWrite l v) s l (ln.logR 0x12 PACE_STAT 0) ∧ Gives (.paceRateWrite l v) s l (ln.logR 0x12 PACE_STAT 0)) ∧
  (paceModes ln.modeNow → barred → Gives (.paceCtlWrite l v) s l ((ln.on WEAR_STAT_BARW).logR 0x12 WEAR_STAT 0)) ∧
  (paceModes ln.modeNow → paceIdle ln → p ≠ 0 → ¬ barred → p ≠ ln.get PACE_STAT_OP → live →
    Ends (.paceCtlWrite l v) s l (fun u => u.get PACE_CTL_OPSEL = p ∧ u.is PACE_STAT_SLEW = true ∧
      u.get PACE_STAT_CEIL_PS = max (ln.get PACE_STAT_CEIL_PS) (pointPs eol p) ∧
      u.pace = { ln.pace with target := p } ∧ ln.sameRegs u [PACE_CTL, PACE_STAT])) ∧
  (paceModes ln.modeNow → paceIdle ln → p ≠ 0 → ¬ barred → p < ln.get PACE_STAT_OP → ¬ live →
    Gives (.paceCtlWrite l v) s l
      (((({ ln.put PACE_CTL_OPSEL p with pace := { ln.pace with heldCtl := some v } } : Lane).on PACE_STAT_HELD_V).put
        PACE_STAT_HELD_R 0).logR 0x10 PACE_STAT 0)) ∧
  (paceModes ln.modeNow → ¬ (shapes ∧ reach) →
    Gives (.paceRateWrite l v) s l ((ln.on PACE_STAT_REJ_R).logR 0x12 PACE_STAT 0)) ∧
  (paceModes ln.modeNow → paceIdle ln → shapes → reach → now →
    Ends (.paceRateWrite l v) s l (fun u => u.get PACE_RATE_PWM = pwm ∧ u.get PACE_RATE_FRAME = frame ∧
      u.pace = { ln.pace with waiting := some v } ∧ ln.sameRegs u [PACE_RATE, PACE_STAT])) ∧
  (paceModes ln.modeNow → paceIdle ln → shapes → reach → ¬ now →
    Ends (.paceRateWrite l v) s l (fun u => u.pace = { ln.pace with heldRate := some v } ∧ u.is PACE_STAT_HELD_R = true ∧
      u.get PACE_LIVE_PWM_LIVE = ln.get PACE_LIVE_PWM_LIVE ∧ u.get PACE_LIVE_FR_LIVE = ln.get PACE_LIVE_FR_LIVE)) ∧
  (ln.is PACE_STAT_SLEW = true → ln.pace.heldCtl = none → ln.pace.heldRate = none →
    Gives (.coreVoltageReached l) s l
      (((ln.put PACE_STAT_OP ln.pace.target).put PACE_STAT_SLEW 0).put PACE_STAT_CEIL_PS (pointPs eol ln.pace.target)))

/-- The effects of a control frame start, in order (R45, R46, R47, R53, R56, R109, R126, R209, R255, R305, R308, R368). -/
def frameEffects (u : Lane) (bad : List Nat) : List (Lane → Lane) :=
  [Lane.atFrame, Lane.clearCan, Lane.showWdn, Lane.endHold, Lane.installValues, fun ln => ln.installVectors u.rj.wHolds,
    fun ln => ln.recordHistory (u.nextFrame - BitVec.ofNat 64 u.cutLead), Lane.takeRates, Lane.slewTime, Lane.judgePace,
    Lane.flagFrame, Lane.showSafein, Lane.moveStaging, Lane.endOverrides, Lane.stageDue, Lane.judgeModesHost,
    Lane.showCompat, fun ln => ln.frameR u.agr.xang, Lane.planFrame, Lane.answerChannels, Lane.frameComm,
    fun ln => ln.refreshFrame bad, Lane.answerLoops, Lane.applyLoopCmds, Lane.frameLoop, Lane.sendLoop,
    fun ln => ln.ssiTriggers 1 ln.lt, Lane.frameEcho, Lane.trackFrame, Lane.captureSummary, Lane.judgeNetwork,
    Lane.trackDtcs, Lane.sourceFaults bad, Lane.clearRounds, Lane.countNoVote, Lane.pump]

/-- The effects of a PWM period start, in order: the shadow load comes first (R47, R109, R155, R203). -/
def periodEffects (obs : List KernelObs) (bad : List Nat) : List (Lane → Lane) :=
  [Lane.atPeriod, Lane.shadowLoad, Lane.showAngles, Lane.drivePeriod, fun ln => ln.refreshPwm bad ln.nextPwm,
    fun ln => (List.range 6).foldl Lane.deficitCount ln, Lane.flagPeriod, fun ln => ln.speedWindows ln.brdg.periodIdx ln.lt,
    fun ln => ln.ssiTriggers 0 ln.lt, fun ln => obs.foldl Lane.kernelTake ln, Lane.shadowPeriod]

/-- The effects one after another, as long as the lane stays released. -/
def ordered (u : Lane) : List (Lane → Lane) → Lane
  | [] => u
  | f :: fs => ordered (if u.pwr.stage = .released then f u else u) fs

/-- Lane time stands at the next whole multiple of a period, counted from TIME_FPHASE (R46). -/
def atBoundary (now origin period t : Nat) : Prop :=
  (t : Int) % period = origin % period ∧ now ≤ t ∧ t < now + period

/-- Lane time: a crystal whose edges are missing for 400 ns or that is off by more than 2 % bars the lane (R44, R333); a
read of TIME_NOW_LO latches TIME_NOW_HI (R45); a write of TIME_CMPHI arms the compare, which matches once lane time has
reached its value (R527). A frame or period start moves lane time to its boundary (R46) and, in a released lane, has its
effects in order: new periods from PACE_APPLY on with TIME_FPHASE at the boundary (R56), FRM and PER with their overrun
flags (R109); a lane in UPDATE restarts, and any other lane only keeps time. -/
def Obligations.LaneTimeAndBoundaries : Prop := ∀ (s : State) (l : LaneId) (missNs : Nat) (ppm : Int) (t : LTime) (v : Word)
    (bad : List Nat) (obs : List KernelObs),
  let ln := s.lane l
  (missNs < 400 → ppm.natAbs ≤ 20000 → Gives (.crystalCheck l missNs ppm t) s l (ln.at t)) ∧
  ((400 ≤ missNs ∨ 20000 < ppm.natAbs) → isRunning ln.lstate = true → ln.nv.boot.trial = false →
    Ends (.crystalCheck l missNs ppm t) s l (fun u => u.lstate = 6 ∧ u.helm.run = .stopped ∧ u.drv.run = .stopped ∧
      u.get TALLY_WCAUSE_CODE = 0x06)) ∧
  Ends (.timeNowLoRead l t) s l (fun u => u.rdata = (ln.at t).lt.extractLsb' 0 32 ∧
    u.rd TIME_NOW_HI = (ln.at t).lt.extractLsb' 32 32 ∧ u.lt = (ln.at t).lt ∧ ln.sameRegs u [TIME_NOW_LO, TIME_NOW_HI]) ∧
  Ends (.timeCmphiWrite l v t) s l (fun u => u.rd TIME_CMPHI = v ∧ u.lt = (ln.at t).lt ∧
    (if (v ++ ln.rd TIME_CMPLO).toNat ≤ u.lt.toNat then u.is TIME_CSTAT_MATCH = true ∧ u.is TIME_CSTAT_ARM = false
      else u.is TIME_CSTAT_ARM = true ∧ u.is TIME_CSTAT_MATCH = ln.is TIME_CSTAT_MATCH) ∧
    ln.sameRegs u [TIME_CMPHI, TIME_CSTAT]) ∧
  (ln.is TIME_CSTAT_ARM = true → ln.lt.toNat ≤ (ln.rd TIME_CMPHI ++ ln.rd TIME_CMPLO).toNat →
    (ln.rd TIME_CMPHI ++ ln.rd TIME_CMPLO).toNat < ln.lt.toNat + 2 ^ 63 →
    Ends (.compareMatch l) s l (fun u => u.lt = ln.rd TIME_CMPHI ++ ln.rd TIME_CMPLO ∧ u.is TIME_CSTAT_MATCH = true ∧
      u.is TIME_CSTAT_ARM = false ∧ ln.sameRegs u [TIME_CSTAT])) ∧
  (ln.locked = true → ln.mode.sleep ≠ .asleep → ln.modeNow ≠ modeUpdate →
    exec (.controlFrameStart l bad) s = .next ((s.setLane l (ordered ln (frameEffects ln bad))).gates)) ∧
  (ln.locked = true → ln.mode.sleep ≠ .asleep → ln.modeNow = modeUpdate →
    exec (.controlFrameStart l bad) s = .next ((s.setLane l ln.atFrame.restart).gates)) ∧
  (ln.locked = false ∨ ln.mode.sleep = .asleep →
    exec (.controlFrameStart l bad) s = .next ((s.setLane l ln.atFrame).gates) ∧
    Gives (.pwmPeriodStart l obs bad) s l ln.atPeriod) ∧
  (ln.locked = true → ln.mode.sleep ≠ .asleep →
    Gives (.pwmPeriodStart l obs bad) s l (ordered ln (periodEffects obs bad))) ∧
  (ln.lt.toNat + ln.frameUnits < 2 ^ 63 → 0 < ln.frameUnits → ln.pace.lastFrame = none →
    atBoundary ln.lt.toNat (ln.rd TIME_FPHASE).toNat ln.frameUnits ln.atFrame.lt.toNat) ∧
  (ln.lt.toNat + ln.pwmUnits < 2 ^ 63 → 0 < ln.pwmUnits → ln.pace.lastPwm = none →
    atBoundary ln.lt.toNat (ln.rd TIME_FPHASE).toNat ln.pwmUnits ln.atPeriod.lt.toNat) ∧
  (ln.flagFrame.is TIME_CSTAT_FRM = true ∧ ln.flagFrame.is TIME_CSTAT_FRMOV = (ln.is TIME_CSTAT_FRMOV || ln.is TIME_CSTAT_FRM)) ∧
  (ln.flagPeriod.is TIME_CSTAT_PER = true ∧ ln.flagPeriod.is TIME_CSTAT_PEROV = (ln.is TIME_CSTAT_PEROV || ln.is TIME_CSTAT_PER)) ∧
  (ln.pace.waiting = some v → 4 ≤ bits v 21 16 →
    (2 ^ 31 ≤ (ln.rd TIME_FRAME - ln.rd PACE_APPLY).toNat → ln.takeRates = ln) ∧
    ((ln.rd TIME_FRAME - ln.rd PACE_APPLY).toNat < 2 ^ 31 →
      ln.takeRates.get PACE_LIVE_PWM_LIVE = bits v 9 0 ∧ ln.takeRates.get PACE_LIVE_FR_LIVE = bits v 21 16 ∧
      ln.takeRates.pace.waiting = none ∧
      (ln.get PACE_LIVE_FR_LIVE ≠ bits v 21 16 →
        (ln.takeRates.rd TIME_FPHASE).toNat = ln.lt.toNat % (bits v 21 16 * 200000))))

/-! ### Position inputs (chapter 6) -/

/-- A result set is completed once more: SEQ one higher modulo 65,536, READY set (R181, R467). -/
def completed (before after : Lane) (stat : Reg) : Prop :=
  bits (rfGet after.pub stat) 15 0 = (bits (rfGet before.pub stat) 15 0 + 1) % 65536 ∧ bit (rfGet after.pub stat) 16 = true

/-- The counts of every other incremental channel stand. -/
def otherCounts (before after : Lane) (n : Nat) : Prop :=
  ∀ m, m < 8 → m ≠ n → after.rd (POS_RAW m) = before.rd (POS_RAW m) ∧ after.rd (POS_CNT m) = before.rd (POS_CNT m)

/-- `k` is the whole number nearest to x / cpr, half away from zero (R172). -/
def nearestTurn (x cpr k : Int) : Prop :=
  2 * (x - k * cpr).natAbs < cpr.natAbs ∨ 2 * (x - k * cpr).natAbs = cpr.natAbs ∧ x.natAbs < (k * cpr).natAbs

/-- An enabled incremental channel: an A or B edge counts +1 or -1 by the forward sequence 00, 10, 11, 01 (R168); edges of
both lines in one quantum count nothing, take the new state and are counted, the fourth within 1 ms being a channel fault
with event 0x30 (R169, R170); a glitch sets its flag (R165); the first index event takes the reference, a later one corrects
the position, and only it, by a deviation within ITOL and makes it suspect beyond (R172, R173, R174). -/
def Obligations.IncrementalCounting : Prop := ∀ (s : State) (l : LaneId) (n : Fin 8) (t : LTime) (v w : Bool),
  let ln := s.lane l
  let x := ln.inc n
  let raw := ln.rd (POS_RAW n)
  let cnt := ln.rd (POS_CNT n)
  let C := cnt.toInt
  let cpr : Int := ln.get (POS_ICPR_CPR n)
  let idx := ln.is (POS_ICFG_IDXEN n) = true ∧ cpr ≠ 0 ∧ ln.get (POS_ICFG_IGATE n) = 0 ∧ x.lastFwd = v
  let one (fwd : Bool) : Word := if fwd then 1 else -1
  ln.is (POS_ICFG_EN n) = true →
  (v ≠ x.a → Ends (.edgeAccepted l n (.a v) t) s l (fun u => u.rd (POS_RAW n) = raw + one (v != x.b) ∧
    u.rd (POS_CNT n) = cnt + one (v != x.b) ∧ (u.inc n).a = v ∧ (u.inc n).b = x.b ∧ u.lt = (ln.at t).lt ∧ otherCounts ln u n)) ∧
  (v ≠ x.b → Ends (.edgeAccepted l n (.b v) t) s l (fun u => u.rd (POS_RAW n) = raw + one (v == x.a) ∧
    u.rd (POS_CNT n) = cnt + one (v == x.a) ∧ (u.inc n).a = x.a ∧ (u.inc n).b = v ∧ u.lt = (ln.at t).lt ∧ otherCounts ln u n)) ∧
  Ends (.edgeAccepted l n (.both v w) t) s l (fun u => u.rd (POS_RAW n) = raw ∧ u.rd (POS_CNT n) = cnt ∧
    (u.inc n).a = v ∧ (u.inc n).b = w ∧ u.is (POS_ISTAT_COIN n) = true ∧
    u.get (POS_ISTAT_COINCNT n) = min (ln.get (POS_ISTAT_COINCNT n) + 1) 255 ∧ otherCounts ln u n ∧
    (∀ t1 t2 t3 rest, x.coins = t1 :: t2 :: t3 :: rest → (t - t3).toNat ≤ 8000000 →
      u.is (POS_ISTAT_CFLT n) = true ∧ (ln.is (POS_ISTAT_CFLT n) = false → u.is (POS_ISTAT_VALID n) = false))) ∧
  Ends (.edgeAccepted l n .glitch t) s l (fun u => u.is (POS_ISTAT_GLITCH n) = true ∧ u.rd (POS_RAW n) = raw ∧
    u.rd (POS_CNT n) = cnt ∧ otherCounts ln u n) ∧
  (idx → ln.is (POS_ISTAT_REFD n) = false →
    Ends (.edgeAccepted l n (.index v) t) s l (fun u => u.is (POS_ISTAT_REFD n) = true ∧ (u.inc n).ref = C ∧
      u.rd (POS_RAW n) = raw ∧ u.rd (POS_CNT n) = cnt ∧ otherCounts ln u n)) ∧
  (idx → ln.is (POS_ISTAT_REFD n) = true → ln.is (POS_ISTAT_SUSPECT n) = false → ∀ k : Int, nearestTurn (C - x.ref) cpr k →
    let dev := C - (x.ref + k * cpr)
    Ends (.edgeAccepted l n (.index v) t) s l (fun u => u.rd (POS_RAW n) = raw ∧ otherCounts ln u n ∧
      (if dev.natAbs ≤ ln.get (POS_ICFG_ITOL n) then
        u.rd (POS_CNT n) = BitVec.ofInt 32 (C - dev) ∧ u.is (POS_ISTAT_CORR n) = true ∧
          u.get (POS_DRIFT_NCORR n) = (ln.get (POS_DRIFT_NCORR n) + 1) % 256 ∧
          u.get (POS_DRIFT_MAXABS n) = max (ln.get (POS_DRIFT_MAXABS n)) dev.natAbs
      else u.rd (POS_CNT n) = cnt ∧ u.is (POS_ISTAT_IDXF n) = true ∧ u.is (POS_ISTAT_SUSPECT n) = true)))

/-- The published speed is the nearest whole number of 2^-10 counts/s to (p1/q1 - p0/q0) counts in `dt` units (R176). -/
def speedIs (u : Lane) (k p0 q0 p1 q1 dt : Int) : Prop :=
  let v : Int := (rfGet u.pub (POS_SR_SPDH k.toNat) ++ rfGet u.pub (POS_SR_SPDL k.toNat)).toInt
  let num := (p1 * q0 - p0 * q1) * 1024 * 8000000000
  let den := q1 * q0 * dt
  2 * v * den ≤ 2 * num + den ∧ 2 * num + den < 2 * v * den + 2 * den

/-- A speed window that no edge has decided by its deadline t1 + RWAIT is published then, with EXTRAP and with the end
boundary max(D, eb + (eb - ebb)), as the rounded quotient of R176 (R177); after ZTMO without an edge speed 0 with ZERO is
published (R178). SPDL and SPDH hold the result, TEND the end. -/
def Obligations.SpeedWindows : Prop := ∀ (s : State) (l : LaneId) (k : Fin 16) (t1 : LTime) (rest : List LTime) (eb ebb : CEdge)
    (p0 q0 : Nat),
  let ln := s.lane l
  let x := ln.speedU k
  let rwait := if k.val < 8 then ln.get (POS_ICFG_RWAIT k) else 8
  let wmul := if k.val < 8 then ln.get (POS_ICFG_WMUL k) else ln.get (POS_HCFG_WMUL (k - 8))
  let D := t1.toNat + rwait * 8000
  let ea := max D (2 * eb.t.toNat - ebb.t.toNat)
  (x.ends = t1 :: rest → x.eb = some eb → x.ebb = some ebb → x.cf0 = some ((p0 : Int), q0) → 0 < q0 →
    ebb.t.toNat ≤ eb.t.toNat → eb.t.toNat < t1.toNat → x.t0.toNat < t1.toNat → t1.toNat < 2 ^ 62 → eb.c.natAbs < 2 ^ 31 → p0 < 2 ^ 16 →
    x.zero = false → 200000 ≤ t1.toNat - x.t0.toNat → ln.lt.toNat ≤ D →
    Ends (.refinementDeadline l k) s l (fun u => completed ln u (POS_SR_STAT k) ∧ u.lt.toNat = D ∧
      bit (rfGet u.pub (POS_SR_STAT k)) 18 = true ∧ rfGet u.pub (POS_SR_TEND k) = t1.extractLsb' 0 32 ∧
      speedIs u k p0 q0 (eb.c * (ea - eb.t.toNat : Nat) + (t1.toNat - eb.t.toNat : Nat)) (ea - eb.t.toNat : Nat)
        (t1.toNat - x.t0.toNat : Nat) ∧ (u.speedU k).ends = rest)) ∧
  Ends (.zeroSpeedTimeout l k) s l (fun u => completed ln u (POS_SR_STAT k) ∧ rfGet u.pub (POS_SR_SPDL k) = 0 ∧
    rfGet u.pub (POS_SR_SPDH k) = 0 ∧ bit (rfGet u.pub (POS_SR_STAT k)) 19 = true ∧
    bit (rfGet u.pub (POS_SR_STAT k)) 18 = false ∧ (u.speedU k).zero = true ∧
    u.lt = (ln.at (x.lastEdge + BitVec.ofNat 64 ((wmul + 1) * 8000000))).lt)

/-- The sector that MAP gives a hall state (R182). -/
def sectorOf (cfg : Word) (j : Nat) : Nat := (cfg.toNat >>> (3 * j - 1)) % 8

/-- Halls, SSI ports, echo outputs and POS_CMD: a change to a neighbouring sector counts, one by 2 or 3 sets SKIP (R183,
R184); state 0 or 7 for 2 us is a hall fault with event 0x30 (R184); an accepted SSI frame publishes the position and the
time of its first edge less LAT, a rejected one ERR, the third in a row a fault (R187); an echo output steps one edge
towards E, and discards a lag of more than 256 edges (R190, R191); clear fault, re-reference and clear drift act on their
targets, and any other target sets POS_IEN.REJ (R195). -/
def Obligations.HallsSsiEchoPosCmd : Prop := ∀ (s : State) (l : LaneId) (h : Fin 8) (m : Fin 2) (t : LTime) (lines : BitVec 3)
    (d : SsiData) (target : Reg5),
  let ln := s.lane l
  let cfg := ln.rd (POS_HCFG h)
  let st := (if bit cfg 1 then ~~~lines else lines).toNat
  let new := sectorOf cfg st
  let old := ln.get (POS_HSTAT_SECTOR h)
  let tgt := target.toNat
  (ln.is (POS_HCFG_EN h) = true → 1 ≤ st → st ≤ 6 → new < 6 → old < 6 → ln.get (POS_HSTAT_STATE h) ≠ 0 →
    Ends (.hallTransition l h lines t) s l (fun u => u.get (POS_HSTAT_STATE h) = st ∧ u.get (POS_HSTAT_SECTOR h) = new ∧
      (u.hallU h).lines = lines ∧ u.lt = (ln.at t).lt ∧
      (new = (old + 1) % 6 → (u.hallU h).count = (ln.hallU h).count + 1) ∧
      (new = (old + 5) % 6 → (u.hallU h).count = (ln.hallU h).count - 1) ∧
      ((new + 6 - old) % 6 = 2 ∨ (new + 6 - old) % 6 = 3 ∨ (new + 6 - old) % 6 = 4 →
        (u.hallU h).count = (ln.hallU h).count ∧ u.is (POS_HSTAT_SKIP h) = true))) ∧
  (∀ t0, (ln.hallU h).invalidSince = some t0 →
    Ends (.hallInvalidStateTimeout l h) s l (fun u => u.is (POS_HSTAT_HFLT h) = true ∧
      (ln.is (POS_HSTAT_HFLT h) = false → u.is (POS_HSTAT_VALID h) = false) ∧
      u.lt = (ln.at (t0 + 16000)).lt)) ∧
  (∀ pos, (ln.ssiU m).running = true → ln.get (POS_SCFG_NBITS m) ≤ 32 →
    let raw := d.bits.toNat % 2 ^ ln.get (POS_SCFG_NBITS m)
    (if ln.is (POS_SCFG_GRAY m) = true then pos ^^^ (pos / 2) = raw else pos = raw) →
    let ones := (List.range 32).countP raw.testBit + (if d.parity = true then 1 else 0)
    let par := ln.get (POS_SCFG_PAR m)
    let jump := ln.get (POS_SCFG_JUMP m)
    let near := jump = 0 ∨ ∀ p, (ln.ssiU m).last = some p → ((pos : Int) - p.toNat).natAbs ≤ jump
    let ok := d.idleHigh = true ∧ (par = 1 → ones % 2 = 0) ∧ (par = 2 → ones % 2 = 1) ∧ (ln.is (POS_SCFG_ZCHK m) = false ∨ d.check = false) ∧ near
    Ends (.ssiFrameEnd l m d t) s l (fun u => completed ln u (POS_SS_STAT m) ∧
      (ok → rfGet u.pub (POS_SS_POS m) = BitVec.ofNat 32 pos ∧
        rfGet u.pub (POS_SS_TS m) = ((ln.ssiU m).first - BitVec.ofNat 64 (ln.get (POS_SLAT_LAT m))).extractLsb' 0 32 ∧
        bit (rfGet u.pub (POS_SS_STAT m)) 18 = false) ∧
      (¬ ok → rfGet u.pub (POS_SS_POS m) = rfGet ln.pub (POS_SS_POS m) ∧ rfGet u.pub (POS_SS_TS m) = rfGet ln.pub (POS_SS_TS m) ∧
        bit (rfGet u.pub (POS_SS_STAT m)) 18 = true ∧ ((ln.ssiU m).rejects = 2 → u.is (POS_SS_STAT_SFLT m) = true)))) ∧
  ((ln.echoU m).valid = true → bit (ln.echoU m).cfg 0 = true → bits (ln.echoU m).cfg 5 1 < 8 →
    ln.echoValid (bits (ln.echoU m).cfg 5 1) = true →
    let src := (ln.rd (POS_CNT (bits (ln.echoU m).cfg 5 1))).toInt - (ln.echoU m).base
    let E := (if bit (ln.echoU m).cfg 6 = true then -src else src) * (bits (ln.echoU m).ratio 15 0 + 1) / (bits (ln.echoU m).ratio 31 16 + 1)
    let out := (ln.echoU m).out
    Ends (.echoEdge l m t) s l (fun u => u.lt = (ln.at t).lt ∧
      ((E - out).natAbs ≤ 256 → (u.echoU m).e = E ∧ (out < E → (u.echoU m).out = out + 1) ∧
        (E < out → (u.echoU m).out = out - 1) ∧ (E = out → (u.echoU m).out = out)) ∧
      (256 < (E - out).natAbs → (u.echoU m).out = 0 ∧ (u.echoU m).e = 0 ∧ u.is (ECHO_STAT_LAG m) = true ∧
        u.is (ECHO_STAT_REBASE m) = true))) ∧
  Ends (.clearFault l target) s l (fun u =>
    (tgt < 8 → u.is (POS_ISTAT_CFLT tgt) = false ∧ u.get (POS_ISTAT_COINCNT tgt) = 0 ∧ (u.inc tgt).coins = []) ∧
    (8 ≤ tgt → tgt < 16 → u.is (POS_HSTAT_HFLT (tgt - 8)) = false ∧ (u.hallU (tgt - 8)).skips = []) ∧
    (16 ≤ tgt → tgt < 18 → u.is (POS_SS_STAT_SFLT (tgt - 16)) = false ∧ (u.ssiU (tgt - 16)).rejects = 0) ∧
    (18 ≤ tgt → u = ln.on POS_IEN_REJ)) ∧
  Ends (.reReferenceIndex l target) s l (fun u =>
    (tgt < 8 → u.is (POS_ISTAT_SUSPECT tgt) = false ∧ u.is (POS_ISTAT_REFD tgt) = false ∧ otherCounts ln u 8) ∧
    (8 ≤ tgt → u = ln.on POS_IEN_REJ)) ∧
  Gives (.clearDriftStatistic l target) s l (if tgt < 8 then ln.wr (POS_DRIFT tgt) 0 else ln.on POS_IEN_REJ)

/-! ### Commutation and channel states (chapter 7) -/

/-- R198 and R199: the positive, negative and floating phase of a sector; with DIRINV phases V and W exchange roles. -/
def sectorLegs (inv : Bool) (k : Nat) : Nat × Nat × Nat :=
  let t : List (Nat × Nat × Nat) :=
    if inv then [(0, 2, 1), (0, 1, 2), (2, 1, 0), (2, 0, 1), (1, 0, 2), (1, 2, 0)]
    else [(0, 1, 2), (0, 2, 1), (1, 2, 0), (1, 0, 2), (2, 0, 1), (2, 1, 0)]
  t.getD k (2, 1, 0)

/-- Every other channel stands as it was, and no register held once per lane changes. -/
def otherChannels (before after : Lane) (c : Nat) : Prop :=
  (∀ k, k ≠ c → after.chD k = before.chD k ∧ after.chanU k = before.chanU k) ∧ ∀ r, after.rd r = before.rd r

/-- At CT the channel commutates once to the neighbour that NEXT and DIRN name, and the new floating leg demagnetises
(R204, R206); a sample within the window of an established sector takes half the difference of the two active legs'
currents with the sector, outside the window it is invalid, and during demagnetisation it says so (R205, R206, R279); the
catch counts the zero crossings of the three line voltages (R223). -/
def Obligations.CommutationAndSamples : Prop := ∀ (s : State) (l : LaneId) (c : Fin 6) (x : SampleData) (t : LTime)
    (vu vv vw : Int) (pu pv pw : Bool),
  let ln := s.lane l
  let d := ln.chD c
  let inv := ln.is (COMM_CHCFG_DIRINV c)
  let cur (p : Nat) : Int :=
    let iv := [x.iu, x.iv, x.iw].getD p 0
    match [x.highU, x.highV, x.highW].getD p none with | some true => iv | some false => -iv | none => 0
  let samples := ln.rj.holding = false ∧ bit d.taken.chan 6 = true ∧ bits d.taken.chan 2 0 < 6
  (bit d.taken.chan 3 = true → d.commutated = false → d.sector < 6 → ln.rj.holding = false → ln.brdg.override = false →
    Ends (.commutationAtCt l c) s l (fun u => otherChannels ln u c ∧ u.chD c = { d with
      commutated := true, demag := true, sector := if bit d.taken.chan 4 = true then (d.sector + 5) % 6 else (d.sector + 1) % 6 })) ∧
  (bit d.taken.chan 3 = false ∨ d.commutated = true → Gives (.commutationAtCt l c) s l ln) ∧
  (samples → d.sector < 6 → x.window = true → d.demag = false →
    Ends (.sample l c x t) s l (fun u =>
      (u.chD c).sampled = true ∧ (u.chD c).smp.valid = true ∧ (u.chD c).smp.demag = false ∧ (u.chD c).smp.sector = d.sector ∧
      (u.chD c).smp.ich = (cur (sectorLegs inv d.sector).1 - cur (sectorLegs inv d.sector).2.1) / 2 ∧
      (u.chD c).smp.iu = cur 0 ∧ (u.chD c).smp.iv = cur 1 ∧ (u.chD c).smp.iw = cur 2 ∧ (u.chD c).taken = d.taken ∧
      u.lt = (ln.at t).lt)) ∧
  (samples → x.window = false ∨ d.demag = true →
    Ends (.sample l c x t) s l (fun u => (u.chD c).sampled = true ∧ (u.chD c).smp.valid = false ∧
      (u.chD c).smp.demag = (x.window && d.demag) ∧ (u.chD c).smp.ich = d.smp.ich)) ∧
  Gives (.demagnetisationEnd l c) s l (ln.setChD c { d with demag := false }) ∧
  ((ln.cst c = 1 ∨ ln.cst c = 3 ∧ (ln.chanU c).recatch = true) → (ln.chanU c).catching.signs = some (pu, pv, pw) →
    let b := if inv then vw else vv
    let e := if inv then vv else vw
    let n (old : Bool) (v : Int) : Nat := if old = decide (0 < v) then 0 else 1
    Ends (.catchSample l c vu vv vw t) s l (fun u =>
      (u.chanU c).catching.crossings = (ln.chanU c).catching.crossings + n pu (vu - b) + n pv (b - e) + n pw (e - vu) ∧
      (u.chanU c).catching.signs = some (decide (0 < vu - b), decide (0 < b - e), decide (0 < e - vu)) ∧
      (u.chanU c).catching.last = some (vu, b, e) ∧ ∀ r, u.rd r = ln.rd r))

/-- START takes a channel in OFF, in a drive mode, to RUN with a valid hall, to CATCH without a sensor or with the
sensorless fallback, and else sets SFLT; outside that it is discarded with REJ (R221, R222). STOP leads to OFF, CLEAR
clears the flags and takes a LOST channel to OFF (R221). SHORT ends in OFF with SFLT after 2 s, and begins a re-catch every
10 ms (R225); ALIGN ends in RAMP (R226); 16 slow periods set LOWSPD (R229); a hall fault sets HXF and without good voltage
evidence the channel is LOST (R218, R219); eight deficit periods set DEF with event 0x34 (R235). -/
def Obligations.ChannelStates : Prop := ∀ (s : State) (l : LaneId) (c : Fin 6) (fwd : Bool) (t : LTime) (emfOk : Bool),
  let ln := s.lane l
  let start : Instr := if fwd then .startForward l c else .startReverse l c
  let st := ln.get (COMM_CSTAT_STATE c)
  let en := ln.is (COMM_CHCFG_EN c) = true
  let driving := ln.modeNow = 4 ∨ ln.modeNow = 5 ∨ ln.modeNow = 6 ∨ ln.modeNow = 7 ∨ ln.modeNow = 8
  let hall := ln.get (COMM_CHCFG_SENS c) = 1 ∨ ln.get (COMM_CHCFG_SENS c) = 2
  let h := ln.get (COMM_CHCFG_HSEL c)
  let hallGood := ln.is (POS_HSTAT_VALID h) = true ∧ ln.is (POS_HSTAT_HFLT h) = false
  let becomes (x : Instr) (k : Nat) : Prop := Ends x s l (fun u => u.get (COMM_CSTAT_STATE c) = k ∧ (u.chanU c).fwd = fwd)
  (en → st = 0 → driving → hall → hallGood → becomes start 6) ∧
  (en → st = 0 → driving → ¬ hall → becomes start 1) ∧
  (en → st = 0 → driving → hall → ¬ hallGood → ln.is (COMM_CHCFG_SFB c) = true → becomes start 1) ∧
  (en → st = 0 → driving → hall → ¬ hallGood → ln.is (COMM_CHCFG_SFB c) = false →
    Ends start s l (fun u => u.get (COMM_CSTAT_STATE c) = 0 ∧ u.is (COMM_CSTAT_SFLT c) = true)) ∧
  (¬ (en ∧ st = 0 ∧ driving) → Gives start s l (ln.on COMM_IEN_REJ)) ∧
  (en → st ≠ 7 → Ends (.channelStop l c) s l (fun u => u.get (COMM_CSTAT_STATE c) = 0 ∧ u.is (COMM_CSTAT_TVALID c) = false)) ∧
  (en → st = 7 → Gives (.channelStop l c) s l (ln.on COMM_IEN_REJ)) ∧
  (en → Ends (.channelClear l c) s l (fun u => u.get (COMM_CSTAT_STATE c) = (if st = 7 then 0 else st) ∧
    u.is (COMM_CSTAT_SFLT c) = false ∧ u.is (COMM_CSTAT_DEF c) = false ∧ u.is (COMM_CSTAT_HXF c) = false ∧
    u.is (COMM_CSTAT_BADC c) = false ∧ u.get (COMM_CSTAT_DEFCNT c) = 0)) ∧
  (st = 3 → Ends (.shortTimeout l c) s l (fun u => u.get (COMM_CSTAT_STATE c) = 0 ∧ u.is (COMM_CSTAT_SFLT c) = true)) ∧
  (st = 3 → Ends (.shortRecatch l c t) s l (fun u => (u.chanU c).recatch = true ∧ (u.chanU c).catching = .reset ∧
    (u.chanU c).stateAt = t ∧ (u.chanU c).shortAt = (ln.chanU c).shortAt ∧ u.lt = (ln.at t).lt ∧ ∀ r, u.rd r = ln.rd r)) ∧
  (st = 4 → Ends (.alignEnd l c) s l (fun u => u.get (COMM_CSTAT_STATE c) = 5 ∧ u.is (COMM_CSTAT_EVT c) = true ∧
    ln.sameRegs u [COMM_CSTAT c])) ∧
  (st = 6 → ¬ hall → Gives (.lowSpeed l c) s l (ln.on (COMM_CSTAT_LOWSPD c))) ∧
  Ends (.hallCrossCheckFault l c emfOk) s l (fun u => u.is (COMM_CSTAT_HXF c) = true ∧ u.is (COMM_CSTAT_HUSE c) = false ∧
    u.get (COMM_CSTAT_STATE c) = (if st = 6 ∧ (ln.get (COMM_CHCFG_ROLE c) = 2 ∨ emfOk = false) then 7 else st)) ∧
  Ends (.driveDeficit l c) s l (fun u => u.is (COMM_CSTAT_DEF c) = true ∧ 8 ≤ u.get (COMM_CSTAT_DEFCNT c) ∧
    ln.sameRegs u [COMM_CSTAT c, LOG_LOST] ∧
    (ln.is (COMM_CSTAT_DEF c) = false → ln.log.buf.length < 32 → ∃ e ∈ u.log.buf, e.code = 0x34 ∧ e.d1 = BitVec.ofNat 32 c))

/-! ### Loop commands (chapter 8) -/

/-- MANUAL ON, INJECT START and CAPTURE START are discarded with REJ outside SERVICE (R268). In SERVICE, MANUAL ON puts the
slot's output into LOOP_MAN and holds the slot (R259); MANUAL OFF lets it go, and PRESET presets it, with LOOP_MAN (R259,
R260); injection starts with the whole register of ones and INJON (R263, R264), and stops with s = 0; a capture starts
empty, at once or at the next injection, and its end publishes the count of its records (R266); LOOP_CAPDATA reads the word
at LOOP_CAPIDX, which moves on (R267). Each in both copies. -/
def Obligations.LoopCommands : Prop := ∀ (s : State) (l : LaneId) (slot : Reg5) (k : Copy),
  let ln := s.lane l
  let i := slot.toNat
  let service := ln.modeNow = 5
  let lc (u : Lane) (k : Copy) : LoopCopy := u.loop.get k
  let at' (u : Lane) (j : Nat) : SlotUnit := vget (lc u k).slot j .reset
  let named (j : Nat) : Prop := j < 24 ∧ (i = j ∨ i = 31 ∧ ln.cget k (LOOP_CFG_EN j) = 1)
  let man (j : Nat) : Int := (ln.crd k (LOOP_MAN j)).toInt
  let ranked (old : Option (Nat × Int)) (r : Nat) (v : Int) : Option (Nat × Int) :=
    match old with | some (q, w) => if q ≤ r then some (q, w) else some (r, v) | none => some (r, v)
  let starts : List Instr := [.manualOn l slot, .injectStart l, .captureStart l]
  (¬ service → ∀ x ∈ starts, Ends x s l (fun u => u.cget k LOOP_STAT_REJ = 1 ∧ lc u k = lc ln k ∧ u.regs = ln.regs ∧
    ∀ r, r ≠ LOOP_STAT → u.crd k r = ln.crd k r)) ∧
  (service → Ends (.manualOn l slot) s l (fun u =>
    (∀ j, named j → at' u j = { at' ln j with manual := true } ∧ u.crd k (LOOP_MAN j) = BitVec.ofInt 32 (at' ln j).u) ∧
    (∀ j, ¬ named j → at' u j = at' ln j) ∧ ∀ r, (∀ j, named j → r ≠ LOOP_MAN j) → u.crd k r = ln.crd k r)) ∧
  Ends (.manualOff l slot) s l (fun u => u.cregs = ln.cregs ∧ ∀ j, at' u j =
    (if named j ∧ (at' ln j).manual = true then { at' ln j with manual := false, preset := ranked (at' ln j).preset 7 (man j) }
      else at' ln j)) ∧
  Ends (.preset l slot) s l (fun u => u.cregs = ln.cregs ∧ ∀ j, at' u j =
    (if named j then { at' ln j with preset := ranked (at' ln j).preset 8 (man j) } else at' ln j)) ∧
  (service → ln.cget k LOOP_INJ_WAVE ≠ 0 ∨ 7 ≤ ln.cget k LOOP_INJ_ORDER ∧ ln.cget k LOOP_INJ_ORDER ≤ 15 →
    Ends (.injectStart l) s l (fun u => (lc u k).inject.on = true ∧ (lc u k).inject.frames = 0 ∧ (lc u k).inject.s = 0 ∧
      (lc u k).inject.reg = List.replicate (ln.cget k LOOP_INJ_ORDER) true ∧ u.cget k LOOP_STAT_INJON = 1 ∧
      (lc u k).slot = (lc ln k).slot)) ∧
  Ends (.injectStop l) s l (fun u => (lc u k).inject.on = false ∧ (lc u k).inject.s = 0 ∧ u.cget k LOOP_STAT_INJON = 0 ∧
    (lc u k).slot = (lc ln k).slot) ∧
  ((lc ln k).inject.on = true → ln.cget k LOOP_INJ_WAVE = 1 →
    ln.cget k LOOP_SWDUR_DUR ≤ (lc ln k).inject.frames ∨ 2147483648 < (lc ln k).inject.inc →
    Ends (.sweepEnd l) s l (fun u => (lc u k).inject.on = false ∧ (lc u k).inject.s = 0 ∧ u.cget k LOOP_STAT_INJON = 0)) ∧
  (service → Ends (.captureStart l) s l (fun u => (lc u k).cap.words = [] ∧ (lc u k).cap.count = 0 ∧
    (lc u k).cap.on = decide (ln.cget k LOOP_CAPDEC_TRIG ≠ 1) ∧ (lc u k).cap.armed = decide (ln.cget k LOOP_CAPDEC_TRIG = 1) ∧
    u.cget k LOOP_STAT_CAPON = 1)) ∧
  ((lc ln k).cap.on = true ∨ (lc ln k).cap.armed = true →
    Ends (.captureStop l) s l (fun u => (lc u k).cap = { (lc ln k).cap with on := false, armed := false } ∧
      u.cget k LOOP_STAT_CAPON = 0 ∧ bits (rfGet (u.cpub.get k) LOOP_CAPSTAT) 31 17 = (lc ln k).cap.count % 32768 ∧
      bit (rfGet (u.cpub.get k) LOOP_CAPSTAT) 16 = true)) ∧
  ((lc ln k).cap.on = true → captureFull (ln.cregs.get k) (lc ln k).cap = true →
    Ends (.captureEnd l) s l (fun u => (lc u k).cap = { (lc ln k).cap with on := false, armed := false } ∧
      u.cget k LOOP_STAT_CAPON = 0 ∧ bits (rfGet (u.cpub.get k) LOOP_CAPSTAT) 31 17 = (lc ln k).cap.count % 32768 ∧
      bit (rfGet (u.cpub.get k) LOOP_CAPSTAT) 16 = true)) ∧
  (let w (k : Copy) : Word := (lc ln k).cap.words.getD (ln.cget k LOOP_CAPIDX_IDX) 0
   w .p = w .s → Ends (.loopCapdataRead l) s l (fun u => u.rdata = w k ∧
    u.cget k LOOP_CAPIDX_IDX = (ln.cget k LOOP_CAPIDX_IDX + 1) % 16384 ∧ u.loop = ln.loop ∧ u.regs = ln.regs))

/-! ### Gate drive and bus protection (chapter 9) -/

/-- The legs other than `k` stand as they were. -/
def otherLegs (before after : Lane) (k : Nat) : Prop := ∀ j, j ≠ k → after.legU j = before.legU j

/-- An event with a code and a first detail word stands in the log line's buffer, unless it was full (R426). -/
def logged (before after : Lane) (code : Nat) (d1 : Nat) : Prop :=
  before.log.buf.length < 32 → ∃ e ∈ after.log.buf, e.code = code ∧ e.d1 = BitVec.ofNat 32 d1 ∧ e.time = after.lt

/-- A gate output turns on only where it may drive and the other one of its leg is off, and begins its blanking (R276, R277,
R283); under the lock-out, a latch or a soft turn-off it never turns on (R273, R285, R287); it always turns off. The pulse of
MODE LOWP ends at its limit (R201), blanking ends unmasked (R283), a refresh pays what is owed (R233). -/
def Obligations.GateOutputs : Prop := ∀ (s : State) (l : LaneId) (k : Fin 18) (low above : Bool) (ns : Nat) (t : LTime),
  let ln := s.lane l
  let u := ln.legU k
  let o : Fin 37 := ⟨2 * k.val + (if low then 1 else 0), by cases low <;> simp <;> omega⟩
  let self (x : LegUnit) : Bool := if low then x.low else x.high
  let other (x : LegUnit) : Bool := if low then x.high else x.low
  let blank (x : LegUnit) : Bool := if low then x.blankLow else x.blankHigh
  ((ln.is BRDG_STAT_UVLO = true ∨ bit (ln.rd BRDG_SCSTAT) k = true ∨ u.softHigh = true ∨ u.softLow = true) →
    ln.mayDrive k low = false) ∧
  (ln.mayDrive k low = true → other u = false →
    Ends (.pwmEdge l o true ns t) s l (fun x => self (x.legU k) = true ∧ blank (x.legU k) = true ∧ other (x.legU k) = false ∧
      otherLegs ln x k ∧ x.lt = (ln.at t).lt)) ∧
  (ln.mayDrive k low = false ∨ other u = true →
    Ends (.pwmEdge l o true ns t) s l (fun x => x.legU k = u ∧ otherLegs ln x k)) ∧
  Ends (.pwmEdge l o false ns t) s l (fun x => self (x.legU k) = false ∧ blank (x.legU k) = false ∧
    other (x.legU k) = other u ∧ otherLegs ln x k) ∧
  Ends (.pwmEdge l 36 low ns t) s l (fun x => x.brdg = ln.brdg ∧ x.lt = (ln.at t).lt) ∧
  (legMode (ln.legEff k) = 3 →
    Gives (.shortPulseCurrentLimit l k) s l (ln.setLeg k { u with pulseEnded := true, low := false, blankLow := false })) ∧
  Gives (.blankingEnd l k low above t) s l
    ((ln.at t).setLeg k (if low = true then { u with blankLow := false } else { u with blankHigh := false })) ∧
  (u.refresh = true → Gives (.bootstrapRefresh l k) s l (ln.setLeg k { u with refresh := false, owed := 0, full := 0 }))

/-- A first detection latches the leg, starts the soft turn-off, holds the other transistor off and records the leg, its
side and its time, with event 0x40; a second leg of the channel in the same span is recorded beside it with TIE for equal
times, and every other transistor of the channel turns off (R285). A soft turn-off over, the channel's legs turn off (R285).
A named leg is cleared only with its channel OFF or LOST and both currents below I_TRIP, else CREJ is set (R288). A gate
output in need changes to its reserve stage while its leg is off (R270, R421). -/
def Obligations.ShortCircuits : Prop := ∀ (s : State) (l : LaneId) (k : Fin 18) (low hard : Bool) (t : LTime)
    (below : BitVec 18) (o : Fin 37) (j : Nat),
  let ln := s.lane l
  let u := ln.legU k
  let c := k.val / 3
  let lat (x : Lane) : Bool := bit (x.rd BRDG_SCSTAT) k
  let fires := lat ln = false ∧ (hard = true ∨ (if low = true then u.blankLow else u.blankHigh) = false)
  let soft (x : LegUnit) : Bool := x.softHigh || x.softLow
  (fires → (ln.chD c).tripLeg = none →
    Ends (.shortDetected l k low hard t) s l (fun x => lat x = true ∧ x.is BRDG_STAT_SCEVT = true ∧
      (if low = true then (x.legU k).softLow = true ∧ (x.legU k).high = false
        else (x.legU k).softHigh = true ∧ (x.legU k).low = false) ∧
      (x.chD c).tripLeg = some k.val ∧ x.get (BRDG_SCREC_LEG1 c) = k ∧ x.is (BRDG_SCREC_SIDE1 c) = low ∧
      x.is (BRDG_SCREC_HARD1 c) = hard ∧ x.is (BRDG_SCREC_TWO c) = false ∧ x.rd (BRDG_SCTS1 c) = t.extractLsb' 0 32 ∧
      otherLegs ln x k ∧ (ln.log.buf.length < 32 → ∃ e ∈ x.log.buf, e.code = 0x40 ∧ e.d2 = t.extractLsb' 0 32))) ∧
  (fires → (ln.chD c).tripLeg = some j → j ≠ k → ln.is (BRDG_SCREC_TWO c) = false →
    Ends (.shortDetected l k low hard t) s l (fun x => lat x = true ∧ x.is (BRDG_SCREC_TWO c) = true ∧
      x.get (BRDG_SCREC_LEG2 c) = k ∧ x.is (BRDG_SCREC_SIDE2 c) = low ∧ x.is (BRDG_SCREC_HARD2 c) = hard ∧
      x.rd (BRDG_SCTS2 c) = t.extractLsb' 0 32 ∧ x.is (BRDG_SCREC_TIE c) = decide (ln.rd (BRDG_SCTS1 c) = t.extractLsb' 0 32) ∧
      ∀ i, i / 3 = c → i ≠ k → soft (ln.legU i) = false → (x.legU i).high = false ∧ (x.legU i).low = false)) ∧
  (lat ln = true → Gives (.shortDetected l k low true t) s l ln) ∧
  (soft u = true → ln.brdg.override = false → (∀ i, i / 3 = c → i ≠ k.val → soft (ln.legU i) = false) →
    Ends (.softTurnOffEnd l k) s l (fun x => (x.chD c).tripLeg = none ∧ (x.chD c).sector = 7 ∧
      ∀ i, i / 3 = c → (x.legU i).high = false ∧ (x.legU i).low = false ∧ soft (x.legU i) = false)) ∧
  (lat ln = true → (ln.cst c = 0 ∨ ln.cst c = 7) → below.getLsbD k = true → u.toReserve = false →
    Ends (.brdgScclr l (BitVec.ofNat 18 (2 ^ k.val)) below) s l (fun x => lat x = false ∧
      (∀ i : Fin 18, i ≠ k → bit (x.rd BRDG_SCSTAT) i = bit (ln.rd BRDG_SCSTAT) i) ∧ ln.sameRegs x [BRDG_SCSTAT])) ∧
  (lat ln = true → (ln.cst c ≠ 0 ∧ ln.cst c ≠ 7 ∨ below.getLsbD k = false) →
    Gives (.brdgScclr l (BitVec.ofNat 18 (2 ^ k.val)) below) s l (ln.on BRDG_STAT_CREJ)) ∧
  (ln.wear.needStage.getLsbD o = true → o.val / 2 = k.val → u.high = false → u.low = false → soft u = false →
    Ends (.reserveStageSwitch l o) s l (fun x => x.nv.stages = ln.nv.stages ||| BitVec.ofNat 37 (2 ^ o.val) ∧
      x.wear.needStage.getLsbD o = false ∧ x.is WEAR_STAT_RSVEV = true ∧ logged ln x 0x80 (128 + o)))

/-- BRDG_VBUS takes the conversion (R281). The chopper turns on while it may, and off, each interval lasting at least 20 us
(R290); 100 us below a tenth of the expected current are fault LOWI, the limit passed for 200 us OVER, a short SHORT, which
latches it off; each sets CHF with event 0x42 (R291, R292, R293). BRDG_CHCLR clears the fault only in STANDBY or SERVICE,
with VBUS below CHTH - HYS and the current below a tenth, and else sets CREJ (R298). -/
def Obligations.BusAndChopper : Prop := ∀ (s : State) (l : LaneId) (code : BitVec 16) (t : LTime) (ma : Nat) (v : Word),
  let ln := s.lane l
  let vbus := ln.get BRDG_VBUS_VBUS
  let on := ln.is BRDG_STAT_CHON = true
  let rested := 160000 ≤ (t - ln.brdg.chopSince).toNat
  let may := ln.is BRDG_CFG_CHEN = true ∧ ln.brdg.locked = true ∧ ln.is BRDG_STAT_UVLO = false ∧ ln.brdg.chopLatched = false
  let lowI := ma * 65536 * ln.get BRDG_CHCFG_CHR < vbus * 800000
  let stored (b : BridgeUnit) : Lane := { ln with brdg := b }
  let fault (u : Lane) (cause : Nat) : Lane := ((u.on BRDG_STAT_CHF).put BRDG_STAT_CHFC cause).logR 0x42 BRDG_STAT 0
  Gives (.vbusConversion l code t) s l ((ln.at t).put BRDG_VBUS_VBUS code.toNat) ∧
  (may → ¬ on → rested → Ends (.chopperOn l t) s l (fun u => u.is BRDG_STAT_CHON = true ∧ u.lt = (ln.at t).lt ∧
    u.brdg = { ln.brdg with chopSince := t } ∧ ln.sameRegs u [BRDG_STAT])) ∧
  (on → rested → Ends (.chopperOff l t) s l (fun u => u.is BRDG_STAT_CHON = false ∧ u.lt = (ln.at t).lt ∧
    u.brdg = { ln.brdg with chopSince := t } ∧ ln.sameRegs u [BRDG_STAT])) ∧
  ((¬ may ∨ ¬ rested) → ¬ on → Gives (.chopperOn l t) s l (ln.at t) ∧ Gives (.chopperOff l t) s l (ln.at t)) ∧
  (on → ¬ lowI → Gives (.chopperCurrentSample l ma) s l (stored { ln.brdg with chopLow := 0, chopMa := ma })) ∧
  (on → lowI → ln.brdg.chopLow < 99 →
    Gives (.chopperCurrentSample l ma) s l (stored { ln.brdg with chopLow := ln.brdg.chopLow + 1, chopMa := ma })) ∧
  (on → lowI → ln.brdg.chopLow = 99 → ln.is BRDG_STAT_CHF = false →
    Gives (.chopperCurrentSample l ma) s l (fault (stored { ln.brdg with chopLow := 100, chopMa := ma }) 2)) ∧
  (on → ln.is BRDG_STAT_CHF = false → Gives (.chopperOverTimeout l) s l (fault ln 1)) ∧
  (on → ln.is BRDG_STAT_CHF = true → Gives (.chopperOverTimeout l) s l ln) ∧
  (ln.is BRDG_CFG_CHEN = true → ln.brdg.chopLatched = false →
    Gives (.chopperShort l) s l (fault ((stored { ln.brdg with chopLatched := true }).put BRDG_STAT_CHON 0) 3)) ∧
  (bit v 0 = true →
    (let cools := (ln.modeNow = 3 ∨ ln.modeNow = 5) ∧
      vbus * 800 < (ln.get BRDG_CHCFG_CHTH - 5 * ln.get BRDG_CHCFG_HYS) * 65536 ∧ lowI
    (cools → Gives (.brdgChclr l v ma) s l
      (((stored { ln.brdg with chopLatched := false, chopLow := 0 }).put BRDG_STAT_CHF 0).put BRDG_STAT_CHFC 0)) ∧
    (¬ cools → Gives (.brdgChclr l v ma) s l (ln.on BRDG_STAT_CREJ))))

/-! ### The Stopper (chapter 11) -/

/-- A reaction stands: the bridge die follows the Stopper, and both permit outputs are off (R346, R349). -/
def reacted (u : Lane) : Prop :=
  u.is STOP_STAT_REACT = true ∧ u.brdg.override = true ∧ u.is STOP_STAT_PINH = false ∧ u.is STOP_STAT_PBRK = false

/-- An input that settles shows in FILT, RAW and SETL; an open one raises its pair's stop demand, and a demand makes the
Stopper react (R341, R342, R346, R349); a difference of 50 ms is a discrepancy with event 0x60 (R343); VBUS at OVABS, no
valid lane while armed, and a demand make it react, and the end of the overvoltage does not end the reaction (R297, R341,
R353). A Stopper loss turns both outputs off with event 0x62 (R356); the switch test and GTACK are noted (R355, R356, R378). -/
def Obligations.StopperTriggers : Prop := ∀ (s : State) (l : LaneId) (i : Fin 4) (closed guard : Bool) (t : LTime) (v : Word)
    (cause : StopperCause),
  let ln := s.lane l
  let quiet := ln.is STOP_STAT_REACT = false
  let pair := if i.val < 2 then STOP_STAT_EDEM else STOP_STAT_GDEM
  let inBit (u : Lane) (f : Field) : Bool := (u.get f).testBit i
  let a := if guard then 2 else 0
  let settled (k : Nat) : Bool := (ln.get STOP_IN_SETL).testBit k
  let shut (k : Nat) : Bool := (ln.get STOP_IN_FILT).testBit k
  Ends (.safetyInputFiltered l i closed t) s l (fun u => inBit u STOP_IN_FILT = closed ∧ inBit u STOP_IN_RAW = closed ∧
    inBit u STOP_IN_SETL = true ∧ u.lt = (ln.at t).lt ∧
    (∀ k, k < 4 → k ≠ i.val → (u.get STOP_IN_FILT).testBit k = (ln.get STOP_IN_FILT).testBit k) ∧
    (closed = false → u.is pair = true ∧ (quiet → reacted u))) ∧
  (settled a = true → settled (a + 1) = true → shut a ≠ shut (a + 1) →
    Ends (.discrepancy l guard) s l (fun u => u.is (if guard then STOP_STAT_DISCG else STOP_STAT_DISCE) = true ∧
      logged ln u 0x60 (if guard then 1 else 0) ∧ ln.sameRegs u [STOP_STAT, LOG_LOST])) ∧
  Ends (.overvoltageLine l t) s l (fun u => u.is BRDG_STAT_OVA = true ∧ u.is STOP_STAT_OVA = true ∧ u.lt = (ln.at t).lt ∧
    (quiet → reacted u ∧ (ln.log.buf.length < 32 → ∃ e ∈ u.log.buf, e.code = 0x63))) ∧
  Ends (.overvoltageClear l) s l (fun u => u.is BRDG_STAT_OVA = false ∧ u.is STOP_STAT_OVA = false ∧
    (ln.is STOP_STAT_REACT = true → u.is STOP_STAT_REACT = true)) ∧
  (ln.is STOP_STAT_ARMD = true → Ends (.noValidLane l) s l (fun u => u.is STOP_STAT_NOLANE = true ∧ u.is LCTL_FSET_PARKD = true ∧
    (quiet → reacted u))) ∧
  Ends (.stopperLoss l cause) s l (fun u => u.is STOP_STAT_SLOSS = true ∧
    u.get STOP_STAT_SLC = (match cause with | .halves => 1 | .readback => 2) ∧ u.stop.switches = false ∧
    u.is STOP_STAT_PINH = false ∧ u.is STOP_STAT_PBRK = false ∧ logged ln u 0x62 0) ∧
  (ln.locked = true → ln.modeNow = 2 → ln.stop.testPassed = false →
    Ends (.outputSwitchTestDone l true) s l (fun u => u.stop.testPassed = true) ∧
    Ends (.outputSwitchTestDone l false) s l (fun u => u.is STOP_STAT_SLOSS = true ∧ u.get STOP_STAT_SLC = 3 ∧
      u.stop.switches = false)) ∧
  (bit v 0 = true → Gives (.lctlGtack l v) s l { ln with mode := { ln.mode with gtack := true } }) ∧
  (bit v 0 = false → Gives (.lctlGtack l v) s l ln)

/-- The heartbeat and the park path. A challenge goes out with the next pattern and CSEQ one higher (R344); the answer
NOT R : R with R = rotl(C, 5) xor 0x3C96, 20 us to 800 us later, clears the misses, anything else is a miss, and the second
in a row is a heartbeat loss with event 0x61 and a withdrawal of code 0x03 (R345). The lock-out turns every gate output off
and withdraws the lane with code 0x05 (R272, R273). In a brake park a chop boundary reads the hall sector and turns the
positive leg's high side on, its end turns it off again, and after APPLYT the limit is HOLDI (R350). -/
def Obligations.HeartbeatAndPark : Prop := ∀ (s : State) (l : LaneId) (v : Word) (c : Fin 6) (t : LTime),
  let ln := s.lane l
  let beats := isRunning ln.lstate = true ∧ vget ln.pwr.phase 0 .on = .on ∧ vget ln.pwr.phase 1 .on = .on
  let chal : BitVec 16 := BitVec.ofNat 16 (ln.get STOP_HB_CHAL)
  let r : BitVec 16 := chal.rotateLeft 5 ^^^ 0x3C96
  let dt := (t - ln.stop.chalAt).toNat
  let right := 160000 ≤ dt ∧ dt ≤ 6400000 ∧ v = ~~~r ++ r
  let out := ln.is STOP_HB_OUT = true
  let few := isRunning ln.lstate = true ∧ (ln.rj.times.filter (fun x => decide ((ln.lt - x).toNat ≤ 480000000000))).length < 3
  let brake := ln.is STOP_STAT_PARKP = true ∧ ln.get (COMM_CHCFG_ROLE c) = 2
  let park (u : Lane) : ParkUnit := vget u.stop.park c ⟨7, false, false, false⟩
  (beats → Ends (.challenge l t) s l (fun u => u.is STOP_HB_OUT = true ∧
    u.get STOP_HB_CSEQ = (ln.get STOP_HB_CSEQ + 1) % 256 ∧ u.get STOP_HB_CHAL = (Config.lfsrNext chal).toNat ∧
    u.stop = { ln.stop with chalAt := t } ∧ ln.sameRegs u [STOP_HB])) ∧
  (¬ beats → Gives (.challenge l t) s l (ln.at t)) ∧
  (out → right → Gives (.heartbeatResponse l v t) s l (((ln.at t).put STOP_HB_OUT 0).put STOP_HB_MISS 0)) ∧
  (out → ¬ right → ln.get STOP_HB_MISS = 0 →
    Gives (.heartbeatResponse l v t) s l (((ln.at t).put STOP_HB_OUT 0).put STOP_HB_MISS 1)) ∧
  (out → ln.get STOP_HB_MISS = 0 → Gives (.challengeMiss l) s l ((ln.put STOP_HB_OUT 0).put STOP_HB_MISS 1)) ∧
  (out → ln.get STOP_HB_MISS = 1 → few →
    Ends (.challengeMiss l) s l (fun u => u.is STOP_STAT_HBL = true ∧ u.is STOP_STAT_PINH = false ∧ u.is STOP_STAT_PBRK = false ∧
      u.lstate = 2 ∧ u.get TALLY_WCAUSE_CODE = 0x03 ∧ u.get TALLY_WCAUSE_DETAIL = 0x01 ∧ u.rj.demanded = true)) ∧
  (ln.is BRDG_STAT_UVLO = false → isRunning ln.lstate = true →
    ((ln.at t).rj.times.filter (fun x => decide (((ln.at t).lt - x).toNat ≤ 480000000000))).length < 3 →
    Ends (.lockOutEngage l t) s l (fun u => u.is BRDG_STAT_UVLO = true ∧ u.is BRDG_STAT_UVEVT = true ∧
      u.is BRDG_STAT_CHON = false ∧ (∀ k, k < 18 → (u.legU k).high = false ∧ (u.legU k).low = false) ∧ u.lstate = 2 ∧
      u.get TALLY_WCAUSE_CODE = 0x05)) ∧
  (ln.brdg.override = false → ln.rj.restartAtRelease = false →
    Gives (.lockOutRelease l t) s l ((ln.at t).put BRDG_STAT_UVLO 0)) ∧
  (brake → ∀ k, ln.parkSector c = some k → Ends (.chopBoundary l c) s l (fun u =>
    park u = { park ln with sector := k, high := true, floating := false } ∧ ∀ q, u.rd q = ln.rd q)) ∧
  (brake → ln.parkSector c = none → Ends (.chopBoundary l c) s l (fun u =>
    park u = { park ln with high := false, floating := true } ∧ ∀ q, u.rd q = ln.rd q)) ∧
  (brake → Ends (.chopEnd l c) s l (fun u => park u = { park ln with high := false } ∧ ∀ q, u.rd q = ln.rd q)) ∧
  (ln.is STOP_STAT_PARKP = true → Ends (.applyTimeEnd l) s l (fun u =>
    (∀ k, k < 6 → (vget u.stop.park k ⟨7, false, false, false⟩).holdLimit = true) ∧ u.regs = ln.regs ∧ u.brdg = ln.brdg))

/-! ### Tallies and agreement (chapter 10) -/

/-- The lane takes part in agreement: released from INIT, its communications domain on (R312). -/
def talking (u : Lane) : Prop := u.locked = true ∧ u.domOn 5 = true

/-- The withdrawal of lane `o` is registered: before the share cut for S, after it one frame later (R331). -/
def registered (u : Lane) (cut : Bool) (o : LaneId) : Prop := if cut then o ∈ u.agr.goneLate else o ∈ u.agr.gone

/-- A lane withdraws for a cause and holds its bridge die: LSTATE WITHDRAWN, its cause in TALLY_WCAUSE, engines stopped
(R329, R330). -/
def withdrawn (u : Lane) (code detail : Nat) : Prop :=
  u.lstate = 2 ∧ u.get TALLY_WCAUSE_CODE = code ∧ u.get TALLY_WCAUSE_DETAIL = detail ∧ u.helm.run = .stopped ∧
    u.drv.run = .stopped ∧ u.rj.holding = true

/-- A running lane that has withdrawn fewer than three times in the last 60 s (R333). -/
def withdrawsOnce (u : Lane) : Prop :=
  isRunning u.lstate = true ∧ (u.rj.times.filter (fun x => decide ((u.lt - x).toNat ≤ 480000000000))).length < 3

/-- Splice links and packets: a lost link clears its UP flag, a lost last link withdraws a running lane with code 0x09, a
link up again sets it (R311, R314); a packet that fails its CRC is counted and dropped, the fourth in a row is a link loss
(R311); a good one is forwarded on the other link and its content kept (R312, R313, R314), this lane's own is dropped; a
missing packet at the end of the V round registers its lane as withdrawn (R315, R331); a withdrawal code registers its lane,
and two demands withdraw this one with code 0x03 (R315, R316); a state block that passes its check becomes readable (R335). -/
def Obligations.SplicePackets : Prop := ∀ (s : State) (l src : LaneId) (sd : Side) (relayed : Bool) (p : Packet) (t : LTime)
    (blk : Byte) (data : List Word) (b : VBody) (q : Q0Body),
  let ln := s.lane l
  let up (sd : Side) : Field := match sd with | .next => SPLC_STAT_UPN | .prev => SPLC_STAT_UPP
  let other (sd : Side) : Side := match sd with | .next => .prev | .prev => .next
  let bad := match sd with | .next => ln.rj.crcRunN | .prev => ln.rj.crcRunP
  let moving := isRunning (ln.agr.vec.get src).lstate = true ∧ src ∉ ln.agr.gone ∧ src ∉ ln.agr.goneLate
  let linked := talking ln ∧ ln.is (up sd) = true
  (ln.is (up sd) = true → ln.is (up (other sd)) = true →
    Gives (.spliceLinkLost l sd) s l ((ln.put (up sd) 0).on SPLC_STAT_LINKEV)) ∧
  (ln.is (up sd) = true → ln.is (up (other sd)) = false → withdrawsOnce ln → (∃ o ∈ ln.voters, o ≠ ln.id) →
    Ends (.spliceLinkLost l sd) s l (fun u => u.is (up sd) = false ∧ withdrawn u 0x09 0)) ∧
  (ln.is (up sd) = false → Ends (.spliceLinkRestored l sd) s l (fun u => u.is (up sd) = true ∧
    u.is SPLC_STAT_LINKEV = true ∧ ln.sameRegs u [SPLC_STAT])) ∧
  (linked → p.crcOk = false → bad < 3 → Ends (.agreementPacketReceived l sd relayed p t) s l (fun u =>
    u.agr = { ln.agr with tx := [] } ∧ u.is (up sd) = true ∧ u.lt = (ln.at t).lt ∧
    (match sd with | .next => u.rj.crcRunN | .prev => u.rj.crcRunP) = bad + 1)) ∧
  (linked → p.crcOk = false → bad = 3 → ln.is (up (other sd)) = true →
    Ends (.agreementPacketReceived l sd relayed p t) s l (fun u => u.is (up sd) = false ∧ u.is SPLC_STAT_LINKEV = true)) ∧
  (linked → p.crcOk = true → p.src = ln.id → Ends (.agreementPacketReceived l sd relayed p t) s l (fun u =>
    u.agr = { ln.agr with tx := [] } ∧ u.regs = ln.regs)) ∧
  (linked → p.crcOk = true → p.src ≠ ln.id → p.body = .q0 q → ln.agr.q0.get p.src = none →
    Ends (.agreementPacketReceived l sd relayed p t) s l (fun u => u.agr.tx = [(other sd, p)] ∧
      u.agr.q0 = ln.agr.q0.set p.src (some q) ∧ u.rj.heard.get p.src = some t)) ∧
  (linked → p.crcOk = true → p.src ≠ ln.id → p.body = .v b → b.demand = [] → ln.agr.v.get p.src = none →
    ln.agr.v.get ln.id = none → Ends (.agreementPacketReceived l sd relayed p t) s l (fun u =>
      u.agr.tx = [(other sd, p)] ∧ u.agr.v = ln.agr.v.set p.src (some b) ∧ u.agr.vRelay.get p.src = relayed)) ∧
  (talking ln → ln.agr.voted = false → (ln.agr.v.get ln.id).isSome = true → src ∈ ln.voters → src ≠ ln.id →
    ln.agr.v.get src = none → Ends (.roundTimeout l) s l (fun u => u.agr.voted = true ∧ registered u ln.agr.cutPassed src)) ∧
  (talking ln → src ≠ ln.id → moving → ln.agr.v.get ln.id = none →
    Ends (.withdrawalCodeReceived l src) s l (fun u => registered u ln.agr.cutPassed src ∧ u.regs = ln.regs)) ∧
  (src ≠ ln.id → (∀ o, (o, ln.id) ∈ ln.agr.demands → o = src) →
    Ends (.withdrawalDemandReceived l src) s l (fun u => (src, ln.id) ∈ u.agr.demands ∧ u.regs = ln.regs)) ∧
  (src ≠ ln.id → (∃ o, o ≠ ln.id ∧ o ≠ src ∧ (o, ln.id) ∈ ln.agr.demands) → withdrawsOnce ln →
    Ends (.withdrawalDemandReceived l src) s l (fun u => withdrawn u 0x03 0x01 ∧ u.rj.demanded = true)) ∧
  (ln.lstate = 3 → ln.is (up sd) = true → blk.toNat < 4 * ln.get TALLY_AGCFG_SIZE → blk.toNat ∉ ln.rj.blocks →
    Ends (.statePacketReceived l sd blk data true) s l (fun u => blk.toNat ∈ u.rj.blocks ∧
      ∀ k, u.agWord k = (if k / 64 = blk.toNat then data.getD (k % 64) 0 else ln.agWord k)))

/-- The frame's rounds: at the vote cut the V packet with this lane's tally goes out on both links, at the agreement point
Q0 to Q3 (R313, R320, R323); from the share cut on withdrawals wait for the next frame (R320, R331). Of three contributions
the median is agreed, of two within the tolerance their mean rounded down, of one its value while one lane runs (R321). A
command without its copy in time is dropped with UNMCMD and event 0x52 (R326). A self-check without a miss passes, one with
a miss holds the lane in INIT (R338, R376, R378). TALLY_AGDATA and TALLY_HDATA read at their index, which moves on (R335,
R336). -/
def Obligations.AgreementRounds : Prop := ∀ (s : State) (l : LaneId) (t : LTime) (miss : Byte) (w : Option Word) (x y z tol : Int)
    (k : CmdCopy),
  let ln := s.lane l
  let alone := ln.agr.v = ⟨none, none, none⟩ ∧ ln.rj.offs = ⟨none, none, none⟩ ∧ ∃ o ∈ ln.voters, o ≠ ln.id
  let i := ln.get TALLY_AGIDX_IDX
  let hw := ln.get TALLY_HIDX_WORD
  (talking ln → alone → Ends (.voteCut l) s l (fun u => ∃ b p, u.agr.v = ln.agr.v.set ln.id (some b) ∧
    u.agr.tx = [(.next, p), (.prev, p)] ∧ p.body = .v b ∧ p.src = ln.id ∧ b.tally = u.rj.tally ∧
    b.frame = ln.rd TIME_FRAME ∧ b.entry = u.ownEntry ∧ u.rj.tally = u.frameTally (ln.nextFrame - BitVec.ofNat 64 ln.cutLead) ∧
    u.lt = (ln.at (ln.nextFrame - BitVec.ofNat 64 ln.cutLead)).lt)) ∧
  (ln.cutLead = 128000 ∧ ln.pointLead = 96000 ∨ ln.cutLead = 176000 ∧ ln.pointLead = 140800) ∧
  (talking ln → Ends (.agreementPoint l) s l (fun u => ∃ q, u.agr.q0 = ln.agr.q0.set ln.id (some q) ∧
    q.vbus = some (BitVec.ofNat 16 (ln.get BRDG_VBUS_VBUS)) ∧
    u.lt = (ln.at (ln.nextFrame - BitVec.ofNat 64 ln.pointLead)).lt ∧
    u.agr.sqw.get ln.id = (List.range 32).map (fun k => (k, (u.sqOwn k).1)) ∧
    u.agr.tx.map (fun e => match e.2.body with | .q0 _ => 0 | .q j _ _ => j.val + 1 | _ => 9) = [0, 0, 1, 1, 2, 2, 3, 3] ∧
    u.agr.tx.map (fun e => e.1) = [.next, .prev, .next, .prev, .next, .prev, .next, .prev])) ∧
  (let u := ln.at (ln.nextFrame - 800)
   Gives (.shareCut l) s l { u with agr := { u.agr with cutPassed := true } }) ∧
  (0 ≤ tol → x ≤ y → y ≤ z → ∀ p : List Int, p.Perm [x, y, z] → agreeVals tol.toNat 3 p = some y) ∧
  (0 ≤ tol → agreeVals tol.toNat 2 [x, y] = (if x - y ≤ tol ∧ y - x ≤ tol then some ((x + y) / 2) else none)) ∧
  (agreeVals tol.toNat 1 [x] = some x ∧ agreeVals tol.toNat 2 [x] = none ∧ agreeVals tol.toNat 3 [x] = none ∧
    agreeVals tol.toNat 1 [] = none) ∧
  (k ∈ ln.agr.copies → ((t : LTime) - (k.rx + BitVec.ofNat 64 ln.matchUnits)).toNat < 2 ^ 63 →
    Ends (.unmatchedCommand l t) s l (fun u => k ∉ u.agr.copies ∧ u.is TALLY_STAT_UNMCMD = true ∧ logged ln u 0x52 0)) ∧
  (ln.locked = true → ln.modeNow = 2 → ln.mode.selfCheck = false → ln.rj.checking = false →
    (Ends (.comparatorSelfCheckDone l 0) s l (fun u => completed ln u TALLY_SCK ∧ bit (rfGet u.pub TALLY_SCK) 17 = true ∧
      u.mode.selfCheck = true ∧ u.mode.checks = (ln.mode.checks || ln.stop.testPassed))) ∧
    (miss ≠ 0 → Ends (.comparatorSelfCheckDone l miss) s l (fun u => u.pwr.stage = .heldInit ∧ u.modeNow = 1 ∧
      u.lstate = 0 ∧ u.helm.run = .stopped ∧ u.drv.run = .stopped))) ∧
  (i < 256 * ln.get TALLY_AGCFG_SIZE → Ends (.tallyAgdataAccess l w) s l (fun u =>
    u.get TALLY_AGIDX_IDX = (i + 1) % 16384 ∧ (w = none → u.rdata = ln.agWord i ∧ u.rj = ln.rj) ∧
    ∀ v, w = some v → ∀ k, u.agWord k = (if k = i then v else ln.agWord k))) ∧
  Ends (.tallyHdataRead l) s l (fun u => u.get TALLY_HIDX_WORD = (hw + 1) % 256 ∧ ln.sameRegs u [TALLY_HIDX] ∧
    ∀ h, ln.agr.history[ln.get TALLY_HIDX_FR]? = some h → u.rdata = (histWords h).getD hw 0)

/-! ### Result sets and register accesses (chapters 1, 5, 6 to 18, R10, R98 to R101, R467) -/

/-- What a latching read returns: the completed set's bits of the status word, the word's other bits as they stand. -/
def latchedWord (regs pub : RegFile) (stat : Reg) : Word :=
  (rfGet regs stat &&& ~~~rtaMask stat) ||| (rfGet pub stat &&& rtaMask stat)

/-- One register file latches a result set: the status word and the data of the most recently completed set, nothing
else; of that set only READY changes, which is 0 from then on. -/
def latchedFrom (regs pub regs' pub' : RegFile) (stat : Reg) (data : List Reg) : Prop :=
  rfGet regs' stat = latchedWord regs pub stat ∧ (∀ d, d ∈ data → rfGet regs' d = rfGet pub d) ∧
  (∀ r, r ∉ stat :: data → rfGet regs' r = rfGet regs r) ∧
  rfGet pub' stat = setBits (rfGet pub stat) 16 16 0 ∧ ∀ r, r ≠ stat → rfGet pub' r = rfGet pub r

/-- A read of a lane's status word under the ready/sequence rule (R467): it returns the word it latches. -/
def Latches (x : Instr) (s : State) (l : LaneId) (stat : Reg) (data : List Reg) : Prop :=
  Ends x s l (fun u => u = { s.lane l with regs := u.regs, pub := u.pub, rdata := u.rdata } ∧
    u.rdata = latchedWord (s.lane l).regs (s.lane l).pub stat ∧
    latchedFrom (s.lane l).regs (s.lane l).pub u.regs u.pub stat data)

/-- The same for a set held once per copy (R98): both copies' instances, and copy P's word is the one returned. -/
def LatchesBoth (x : Instr) (s : State) (l : LaneId) (stat : Reg) (data : List Reg) : Prop :=
  Ends x s l (fun u => u = { s.lane l with cregs := u.cregs, cpub := u.cpub, rdata := u.rdata } ∧
    u.rdata = latchedWord (s.lane l).cregs.p (s.lane l).cpub.p stat ∧
    ∀ k : Copy, latchedFrom ((s.lane l).cregs.get k) ((s.lane l).cpub.get k) (u.cregs.get k) (u.cpub.get k) stat data)

/-- What the access codes of R10 leave of a register, bit by bit: RW bits, and LK bits before configuration lock, take
the written bit; a 1 clears a W1C bit and sets a W1S bit; every other bit keeps its value. -/
def byCodes (row : RegRow) (locked : Bool) (old v new : Word) : Prop := ∀ n, n < 32 → new.getLsbD n =
  if row.w1s.getLsbD n && v.getLsbD n then true
  else if row.w1c.getLsbD n && v.getLsbD n then false
  else if row.rw.getLsbD n || (row.lk.getLsbD n && !locked) then v.getLsbD n else old.getLsbD n

/-- The single per-lane registers whose write does more than their access codes say. -/
def effectRegs : List Reg :=
  [LCTL_MODEREQ, LCTL_HBRESP, LCTL_GTACK, TIME_CMPHI, PACE_CTL, PACE_RATE, TALLY_AGDATA, POS_CMD, COMM_CMD, BRDG_SCCLR,
    BRDG_CHCLR, LAY_CTL, LAY_YQACK, LAY_CQACK, LAY_YTXCTL 0, LAY_YTXCTL 1, MEM_CBTEST, MEM_CBGEN, PWR_DOMCTL, WEAR_CMD,
    LOG_RSEL, LOG_USER] ++ (List.range 64).map LAY_TXCTL

/-- A register write from outside that has the effect of a command of its own. -/
def SameAs (s : State) (l : LaneId) (a : Reg) (v : Word) (x : Instr) : Prop :=
  exec (.registerWrite l (BitVec.ofNat 32 (0x40000000 + a)) v) s = exec x s

/-- Every status-word read latches its set, returns it and clears READY alone (R467, R125, R181, R257). After two
completions with no read between them the read returns the later one, READY set and SEQ two higher; read again at once
it returns the same SEQ with READY 0. -/
def Obligations.ResultSets : Prop :=
  (∀ (s : State) (l : LaneId) (k : Fin 16) (m : Fin 2) (b : Fin 64),
    Latches (.speedResultRead l k) s l (POS_SR_STAT k) [POS_SR_SPDL k, POS_SR_SPDH k, POS_SR_TEND k] ∧
    Latches (.ssiResultRead l m) s l (POS_SS_STAT m) [POS_SS_POS m, POS_SS_TS m] ∧
    LatchesBoth (.loopRstatRead l) s l LOOP_RSTAT loopResultRegs ∧
    LatchesBoth (.loopCapstatRead l) s l LOOP_CAPSTAT [] ∧
    Latches (.tallyVstatRead l) s l TALLY_VSTAT ((List.range 4).map TALLY_VTAL) ∧
    Latches (.tallySckRead l) s l TALLY_SCK [] ∧
    Latches (.layRxstatRead l b) s l (LAY_RXSTAT b) (LAY_RX_TS b :: (List.range 8).map (fun n => LAY_RX_D0 b + 4 * n)) ∧
    Latches (.canGsstatRead l) s l CAN_GSSTAT [CAN_GSPD, CAN_GDIST] ∧
    Latches (.gnssStatRead l) s l GNSS_STAT [GNSS_LAT, GNSS_LON, GNSS_ALT, GNSS_SOG, GNSS_COG, GNSS_UTC, GNSS_PPS] ∧
    LatchesBoth (.sectEstatRead l) s l SECT_ESTAT [SECT_EE, SECT_EN, SECT_EH] ∧
    Latches (.lctlBiststatRead l) s l LCTL_BISTSTAT [LCTL_BISTCOV, LCTL_BISTDUR] ∧
    Ends (.updStatRead l) s l (fun u => u.rdata = latchedWord (s.lane l).regs (s.lane l).pub UPD_STAT ∧
      latchedFrom (s.lane l).regs (s.lane l).pub u.regs u.pub UPD_STAT [] ∧ u.upd.blkEvent = false)) ∧
  (∀ (ln : Lane) (stat : Reg) (r1 r2 : Nat) (d1 d2 : List (Reg × Word)) (data : List Reg),
    bit (rtaMask stat) 16 = true → (∀ n, n < 16 → bit (rtaMask stat) n = true) → stat ∉ data →
    (∀ d, d ∈ d1 ++ d2 → d.1 ∈ data) →
    let u := ((ln.publish stat r1 d1).publish stat r2 d2).latch stat data
    let w := u.2.latch stat data
    bits u.1 15 0 = (bits (rfGet ln.pub stat) 15 0 + 2) % 65536 ∧ bit u.1 16 = true ∧
      bits w.1 15 0 = bits u.1 15 0 ∧ bit w.1 16 = false)

/-- A write of a register takes its access codes (R10): LK bits keep their value after configuration lock, which is
recorded (event 0x13); the registers that act when written do what their own command does; the STOP block and offsets
with no register take nothing (R101). The test port takes EXTEST in INIT and SHUTDOWN alone (R541). -/
def Obligations.RegisterWrites : Prop := ∀ (s : State) (l : LaneId) (a : Reg) (v : Word) (j : JtagInstr),
  let ln := s.lane l
  let addr : Word := BitVec.ofNat 32 (0x40000000 + a)
  (∀ row, regRow a = some row → row.copy = false → blockOf a ≠ 12 → a < 0x100000 → a ∉ effectRegs →
    Ends (.registerWrite l addr v) s l (fun u => byCodes row ln.locked (ln.rd a) v (u.rd a) ∧
      (∀ r, r ≠ a → r ≠ LOG_LOST → u.rd r = ln.rd r) ∧
      (ln.locked = false ∨ row.lk = 0 → u = { ln with regs := u.regs }) ∧
      (ln.locked = true → row.lk ≠ 0 → a ≠ LOG_LOST → u = (({ ln with regs := rfPut ln.regs a (u.rd a) }).logE 0x13 0 (0x40000000 + a) 0)))) ∧
  (∀ row, regRow a = some row → row.copy = true → row.staged = false → a ≠ LOOP_CMD → a < 0x100000 →
    (∀ n, n < 48 → a ≠ SECT_NXT_C n) →
    Ends (.registerWrite l addr v) s l (fun u => ∀ k : Copy, byCodes row ln.locked (ln.crd k a) v (u.crd k a) ∧
      ∀ r, r ≠ a → u.crd k r = ln.crd k r)) ∧
  ((regRow a = none ∨ blockOf a = 12) → a < 0x100000 → Gives (.registerWrite l addr v) s l ln) ∧
  SameAs s l PWR_DOMCTL v (.pwrDomctlWrite l v) ∧ SameAs s l PACE_CTL v (.paceCtlWrite l v) ∧
  SameAs s l PACE_RATE v (.paceRateWrite l v) ∧ SameAs s l TIME_CMPHI v (.timeCmphiWrite l v ln.lt) ∧
  SameAs s l MEM_CBTEST v (.memCbtest l v) ∧ SameAs s l MEM_CBGEN v (.memCbgen l v) ∧
  SameAs s l LOG_USER v (.logUser l v) ∧ SameAs s l LOG_RSEL v (.logRselWrite l v) ∧
  SameAs s l LCTL_GTACK v (.lctlGtack l v) ∧ SameAs s l LCTL_HBRESP v (.heartbeatResponse l v ln.lt) ∧
  SameAs s l LAY_YQACK v (.layYqack l v) ∧ SameAs s l LAY_CQACK v (.layCqack l v) ∧
  SameAs s l LAY_CTL v (.transmitterOn l v) ∧ (∀ b : Fin 64, SameAs s l (LAY_TXCTL b) v (.transmitCommit l ⟨b, by omega⟩ v)) ∧
  Gives (.boundaryScanInstruction l j) s l { ln with jtag :=
    if j = .extest ∧ ln.modeNow ≠ modeInit ∧ ln.modeNow ≠ modeShutdown then .bypass else j }


/-! ### Modes (chapter 12, R364 to R372) -/

/-- The transitions by request in the table of R367: from, to. -/
def requestTable : List (Nat × Nat) :=
  [(2, 3), (4, 3), (5, 3), (9, 3), (2, 4), (3, 4), (5, 4), (6, 4), (7, 4), (3, 5), (4, 5), (4, 6), (4, 7), (3, 11), (2, 12),
    (3, 12), (9, 12), (3, 10), (4, 10), (6, 10)]

/-- The REJC code of a request that applies now, by the conditions of R367 in the order of R366; 0 where all hold. -/
def objection (ln : Lane) (dst named : Nat) : Nat :=
  let src := ln.modeNow
  let running := LaneId.all.filter (fun k => k == ln.id || ln.runsFor k)
  let arms := dst = 4 ∧ (src = 2 ∨ src = 3)
  if (src, dst) ∉ requestTable ∨ ln.pwr.stage ≠ .released ∨ ln.mode.sleep ≠ .none ∨ ln.mode.shut ≠ .none then 0x01
  else if src = 2 ∧ (dst = 3 ∨ dst = 4) ∧ ¬ ∀ k ∈ running, (ln.agr.vec.get k).checks = true then 0x08
  else if (arms ∨ dst = 5) ∧ ¬ ∀ k ∈ running, (ln.agr.vec.get k).gtok = true ∧ (ln.agr.vec.get k).gtack = true then 0x02
  else if (arms ∨ dst = 5 ∨ dst = 6 ∨ dst = 7) ∧ 2 ≤ ln.moduleCount then 0x03
  else if (dst = 6 ∨ dst = 7) ∧ ln.get TALLY_LANES_NRUN < 2 then 0x03
  else if (dst = 3 ∧ (src = 4 ∨ src = 5) ∨ dst = 4 ∧ (src = 6 ∨ src = 7)) ∧ ln.standing = false then 0x05
  else if dst = 3 ∧ src = 9 ∧ ln.reactionOver = false then 0x06
  else if dst = 10 ∧ ((∃ k ∈ LaneId.all, (ln.agr.vec.get k).lstate ≠ lsRunning) ∨ ln.moduleCount ≠ 0 ∨ named = 0 ∨
    (named = ln.id.code ∧ ln.targetPending = false)) then 0x07
  else 0

/-- A rejected request: REJ, REJC, and the event; no mode changes (R366). -/
def requestRejected (ln : Lane) (code : Nat) : Lane := ((ln.on LCTL_MODE_REJ).put LCTL_MODE_REJC code).logR 0x70 LCTL_MODE 0

/-- The mode moves to `m`, and nothing else but the permit outputs. -/
def modeMoves (ln : Lane) (m : Nat) : Lane := ((ln.put LCTL_MODE_PREV ln.modeNow).put LCTL_MODE_MODE m).permits

/-- Mode `m` is in force, reached from that of `ln`, and the same requests wait. -/
def movedTo (u : Lane) (m : Nat) (ln : Lane) : Prop :=
  u.modeNow = m ∧ u.get LCTL_MODE_PREV = ln.modeNow ∧ u.get LCTL_MODE_PEND = ln.get LCTL_MODE_PEND ∧ u.mode.pend = ln.mode.pend

/-- Every channel that is not LOST is OFF. -/
def channelsOff (u : Lane) : Prop := ∀ c, c < 6 → u.cst c = csOff ∨ u.cst c = csLost

/-- The requests of the table and the mode each asks for. -/
def requests (l : LaneId) (named : BitVec 2) : List (Instr × Nat) :=
  [(.requestStandby l, 3), (.requestArmed l, 4), (.requestService l, 5), (.requestRun3 l, 6), (.requestRun2 l, 7),
    (.requestSleep l, 11), (.requestShutdown l, 12), (.requestUpdate l named, 10)]

/-- A request is rejected for the first of its conditions that fails (R366, R367), and otherwise enters its mode with
what that mode does: presets on entry to ARMED (R260), channels and loop unit stopped where driving ends (R221, R258),
the Stopper's reaction released on leaving SAFESTOP (R353), RUN3 or RUN2 by NRUN (R370), the first question of the sleep
sequence (R382), the shutdown sequence (R379), activation in the lane named for UPDATE, which the other lanes count as
not running (R372, R511). A store to LCTL_MODEREQ waits for its
frame, and is discarded where that does not lie 1 to 256 frames ahead (R365). -/
def Obligations.ModeRequests : Prop := ∀ (s : State) (l : LaneId) (named : BitVec 2) (v : Word),
  let ln := s.lane l
  let src := ln.modeNow
  (∀ x dst, (x, dst) ∈ requests l named → objection ln dst named.toNat ≠ 0 →
    Gives x s l (requestRejected ln (objection ln dst named.toNat))) ∧
  (objection ln 3 0 = 0 → src = 2 → Gives (.requestStandby l) s l (modeMoves ln 3)) ∧
  (objection ln 3 0 = 0 → src = 4 ∨ src = 5 → Ends (.requestStandby l) s l (fun u => movedTo u 3 ln ∧ channelsOff u ∧
    ∀ k : Copy, u.cget k LOOP_STAT_ACTIVE = 0 ∧ u.cget k LOOP_STAT_INJON = 0)) ∧
  (objection ln 3 0 = 0 → src = 9 → Ends (.requestStandby l) s l (fun u => movedTo u 3 ln ∧ u.is STOP_STAT_SAFE = false ∧
    u.is STOP_STAT_REACT = false ∧ u.is STOP_STAT_PARKP = false ∧ u.is STOP_STAT_ASHORT = false ∧ u.brdg.override = false)) ∧
  (objection ln 4 0 = 0 → src ≠ 5 → Gives (.requestArmed l) s l (((modeMoves ln 4).enterArmed).on STOP_STAT_ARMD)) ∧
  (objection ln 4 0 = 0 → src = 5 → Ends (.requestArmed l) s l (fun u => movedTo u 4 ln ∧ u.is STOP_STAT_ARMD = true ∧
    u.get MEM_CBTEST_EN = 0 ∧ (u.loop.p.inject.on = false ∧ u.loop.s.inject.on = false))) ∧
  (objection ln 5 0 = 0 → Gives (.requestService l) s l (modeMoves ln 5)) ∧
  (objection ln 6 0 = 0 → Gives (.requestRun3 l) s l (modeMoves ln (if ln.get TALLY_LANES_NRUN = 3 then 6 else 7))) ∧
  (objection ln 7 0 = 0 → Gives (.requestRun2 l) s l (modeMoves ln (if ln.get TALLY_LANES_NRUN = 3 then 6 else 7))) ∧
  (objection ln 11 0 = 0 → Gives (.requestSleep l) s l
    (({ ln with mode := { ln.mode with sleep := .ask 1, stopped := [] } }).logR 0x72 LCTL_MODE 0)) ∧
  (objection ln 12 0 = 0 → Ends (.requestShutdown l) s l (fun u => movedTo u 12 ln ∧ channelsOff u ∧
    u.mode.shut = .flush ∧ u.upd.session = none)) ∧
  (objection ln 10 named.toNat = 0 → named.toNat = ln.id.code → Ends (.requestUpdate l named) s l (fun u =>
    movedTo u 10 ln ∧ u.lstate = lsWithdrawn ∧ u.helm.run = .stopped ∧ u.drv.run = .stopped ∧ u.upd.session = none ∧
    u.nv.boot.trial = true ∧ u.nv.boot.prevSlot = ln.nv.boot.slot ∧ u.nv.boot.prevCfg = ln.nv.boot.cfg)) ∧
  (∀ k : LaneId, objection ln 10 named.toNat = 0 → named.toNat = k.code → k ≠ ln.id → Ends (.requestUpdate l named) s l (fun u =>
    u.modeNow = src ∧ (u.agr.vec.get k).lstate = lsWithdrawn ∧ (u.agr.vec.get k).mode = 10 ∧ u.mode.pend = ln.mode.pend ∧
    (∀ j, j ≠ k → u.agr.vec.get j = ln.agr.vec.get j))) ∧
  (let ask := bits v 3 0
   let far := (v.extractLsb' 16 16 - (ln.rd TIME_FRAME).setWidth 16).toNat
   let r : ModeReq := ⟨ask, bits v 5 4, v.extractLsb' 16 16⟩
   let write : Instr := .registerWrite l (BitVec.ofNat 32 (0x40000000 + LCTL_MODEREQ)) v
   (far = 0 ∨ 256 < far → Gives write s l (requestRejected ln (if (src, ask) ∈ requestTable then 0x04 else 0x01))) ∧
   (0 < far → far ≤ 256 → Gives write s l
     (({ ln with mode := { ln.mode with pend := ln.mode.pend ++ [r] } }).put LCTL_MODE_PEND ask))) ∧
  (src = 8 → Gives (.standstillTimeElapsed l) s l { ln with mode := { ln.mode with standDone := true } } ∧
    Gives (.limpTimeElapsed l) s l { ln with mode := { ln.mode with limpDone := true } }) ∧
  (src ≠ 8 → Gives (.standstillTimeElapsed l) s l ln ∧ Gives (.limpTimeElapsed l) s l ln)


/-! ### Start-up, shutdown, sleep and wake (chapter 12, R373 to R387) -/

/-- A lane held in INIT: its engines stand and it takes part in nothing (R376). -/
def heldInInit (u : Lane) : Prop :=
  u.pwr.stage = .heldInit ∧ u.modeNow = modeInit ∧ u.lstate = lsAbsent ∧ u.helm.run = .stopped ∧ u.drv.run = .stopped

/-- The lane is in INIT anew: not released, engines at rest, no sequence running. -/
def restarted (u : Lane) : Prop :=
  u.modeNow = modeInit ∧ u.pwr.stage ≠ .released ∧ u.helm.run = .stopped ∧ u.drv.run = .stopped ∧ u.mode.sleep = .none ∧
    u.mode.shut = .none

/-- PWR_WAKE records an aborted sleep: the domain, the reason and the lane; what was stopped is being restarted (R383). -/
def sleepAborted (u : Lane) (dom code lane : Nat) : Prop :=
  u.get PWR_WAKE_SRC = 8 ∧ u.get PWR_WAKE_RDOM = dom ∧ u.get PWR_WAKE_RCODE = code ∧ u.get PWR_WAKE_RLANE = lane ∧
    (u.mode.sleep = .rollback ∨ u.mode.sleep = .none)

/-- The domain asked first to fifth refuses, by its row of R382. -/
def domainRefuses (ln : Lane) (n : Nat) (a : SleepAnswer) : Option Nat :=
  let holds (p s : List HoldEntry) : Bool := !p.isEmpty || !s.isEmpty
  if n = 1 then
    (if (∃ c ∈ List.range 6, ln.is (COMM_CHCFG_EN c) = true ∧ ln.cst c ≠ csOff) ∨
      (ln.domOn 3 = true ∧ ln.drv.run ≠ .waiting) ∨ holds ln.drv.c.p.hold ln.drv.c.s.hold = true then some 1 else none)
  else if n = 2 then
    (if ln.is PWR_SLPOK_OK = false ∨ holds ln.helm.c.p.hold ln.helm.c.s.hold = true then some 2 else none)
  else if n = 3 then (if ln.inputsQuiet = false ∨ a.calibrating = true then some 3 else none)
  else if n = 4 then
    (if ln.is SPLC_STAT_XFER = true ∨ ln.can.sessions ≠ [] ∨ a.canQueued = true then some 4
     else if a.refusedBy ≠ none ∨ a.othersReady = false then some 5 else none)
  else none

/-- The domain that PWR_WAKE.RDOM names for the first to fourth ask. -/
def askedDomain (n : Nat) : Nat := if n = 1 then 3 else if n = 2 then 1 else if n = 3 then 8 else if n = 4 then 5 else 0

/-- INIT passes through its stages: the reduced BIST and its record (R374, R375), the fill with its repairs and hard
addresses (R390, R391), the images of the slot and copy in force or of the previous ones (R512, R513), configuration lock
and release into STARTTEST with the helm at 0 and the drive at its first period start (R373, R377); a lane that fails, or
is worn out (R422), stays in INIT (R376). A trial that does not reach RUNNING falls back (R514). Shutdown goes through its
steps in order and leaves the BIST record unconsumed (R379 to R381). The sleep sequence asks its domains in order, rolls
back at the first refusal or after 100 us, and a wake source that PWR_WAKEEN enables ends it or restarts the lane (R382 to
R387). A step that does not stand at its place changes nothing. -/
def Obligations.StartShutdownAndSleep : Prop := ∀ (s : State) (l : LaneId) (r : BistResult) (bad : List FillError)
    (im : LoadResult) (ms : BitVec 16) (p q : Bool) (a : SleepAnswer) (w : WakeSource) (t : LTime),
  let ln := s.lane l
  let shut := ln.mode.shut
  let tests : Bool := r.zeroised && r.logic && decide (920 ≤ r.coverage) && r.sram
  (ln.pwr.stage = .bist → tests = true → Ends (.reducedBistDone l r) s l (fun u => u.pwr.stage = .filling ∧
    u.mode.accepted = true ∧ u.nv.bist = some ⟨true, true, r.coverage, 1000, r.ms, 0, true⟩)) ∧
  (ln.pwr.stage = .bist → tests = false → Ends (.reducedBistDone l r) s l (fun u => heldInInit u ∧
    ∃ b, u.nv.bist = some b ∧ b.pass = false ∧ b.kind = true ∧ b.consumed = true ∧
      b.faild = (if r.zeroised = false then 4 else if r.logic = false ∨ r.coverage < 920 then 1 else 2))) ∧
  (ln.pwr.stage ≠ .bist → Gives (.reducedBistDone l r) s l ln) ∧
  (ln.pwr.stage = .filling → (∀ e, e ∈ bad → e.many = false) → Ends (.sramFillDone l bad) s l (fun u =>
    u.pwr.stage = .loading ∧ ∀ m, m < 8 → (u.sram m).bytes = [] ∧ (bad = [] → (u.sram m).flips = []))) ∧
  (ln.pwr.stage = .filling → (∃ e, e ∈ bad ∧ e.many = true) → Ends (.sramFillDone l bad) s l (fun u => heldInInit u ∧
    bits (rfGet u.pub LCTL_BISTSTAT) 23 20 = 2 ∧ bit (rfGet u.pub LCTL_BISTSTAT) 17 = false)) ∧
  (ln.pwr.stage ≠ .filling → Gives (.sramFillDone l bad) s l ln) ∧
  (let boot := ln.nv.boot
   let fw := ln.nv.img boot.slot
   let good (k : Nat) : Prop := ln.slotOk im k = true
   (ln.pwr.stage = .loading → good boot.slot → ln.copyOk im boot.cfg = true →
    (ln.nv.cfg boot.cfg).cfgVersion = fw.cfgVersion → (∃ e, ({ ln with nv := { ln.nv with boot := { boot with
      fellBack := boot.failed, failed := false } } }).showNv.copyEntries fw (ln.nv.cfg boot.cfg) = some e) →
    Ends (.imageLoaded l im) s l (fun u => u.pwr.stage = .configuring ∧ u.nv.boot.slot = boot.slot ∧
      u.nv.boot.cfg = boot.cfg ∧ u.upd.slotDigest = fw.digest ∧ u.upd.cfgDigest = (ln.nv.cfg boot.cfg).digest ∧
      u.helm.c.p.code.bytes = u.helm.c.s.code.bytes ∧ u.drv.c.p.prog.bytes = u.drv.c.s.prog.bytes)) ∧
   (ln.pwr.stage = .loading → ¬ good boot.slot → good boot.prevSlot → boot.prevSlot ≠ boot.slot →
    Ends (.imageLoaded l im) s l (fun u => u.nv.boot.slot = boot.prevSlot ∧ u.nv.boot.prevSlot = boot.slot ∧
      u.nv.boot.trial = false ∧ u.nv.boot.fellBack = true ∧ u.pwr.stage ≠ .loading)) ∧
   (ln.pwr.stage = .loading → ¬ good boot.slot → ¬ good boot.prevSlot ∨ boot.prevSlot = boot.slot →
    Ends (.imageLoaded l im) s l heldInInit) ∧
   (ln.pwr.stage = .loading → good boot.slot → ln.copyOk im boot.cfg = false →
    ln.copyOk im boot.prevCfg = false ∨ boot.prevCfg = boot.cfg → Ends (.imageLoaded l im) s l heldInInit) ∧
   (ln.pwr.stage ≠ .loading → Gives (.imageLoaded l im) s l ln)) ∧
  (ln.pwr.stage = .configuring → ln.nv.wout = false → Ends (.configurationLock l) s l (fun u => u.pwr.stage = .released ∧
    u.modeNow = modeStarttest ∧ u.get LCTL_MODE_PREV = modeInit ∧ u.rd TIME_FRAME = 0 ∧ u.helm.run = .running ∧
    u.drv.run = .armed ∧ (∀ k : Copy, (u.helm.c.get k).pc = 0 ∧ (u.drv.c.get k).pc = 0 ∧
      (u.helm.c.get k).code = (ln.helm.c.get k).code ∧ (u.helm.c.get k).data = (ln.helm.c.get k).data))) ∧
  (ln.pwr.stage = .configuring → ln.nv.wout = true → Ends (.configurationLock l) s l heldInInit) ∧
  (ln.pwr.stage ≠ .configuring → Gives (.configurationLock l) s l ln) ∧
  (ln.nv.boot.trial = true → ln.locked = true → ln.lstate ≠ lsRunning → Ends (.trialTimeout l) s l (fun u => restarted u ∧
    u.nv.boot.slot = ln.nv.boot.prevSlot ∧ u.nv.boot.cfg = ln.nv.boot.prevCfg ∧ u.nv.boot.trial = false ∧
    u.nv.boot.failed = true)) ∧
  (ln.nv.boot.trial = false ∨ ln.locked = false ∨ ln.lstate = lsRunning → Gives (.trialTimeout l) s l ln) ∧
  (shut = .flush → Ends (.shutdownLogFlushed l) s l (fun u => u.mode.shut = .repair ∧ u.log.buf = [])) ∧
  (shut = .repair → Ends (.fieldFuseRepair l) s l (fun u => u.mode.shut = .zeroise ∧ u.lstate = lsAbsent ∧
    u.helm.run = .stopped ∧ u.drv.run = .stopped ∧ u.domOn 5 = false ∧ u.mode.bistZero = false)) ∧
  (shut = .zeroise → Ends (.zeroisationConfirmed l) s l (fun u => u.mode.shut = .logic ∧ u.mode.bistZero = true ∧
    u.helm.c.p.data = .empty ∧ u.helm.c.s.data = .empty ∧ u.upd = UpdUnit.reset ∧
    ∀ x, x ∈ [UPD_STAT, UPD_BOOT, UPD_KEYS, UPD_IEN] → u.rd x = 0)) ∧
  (shut = .zeroise → ln.mode.heldWake = false → Ends (.zeroisationTimeout l) s l (fun u =>
    u.nv.bist = some ⟨false, false, 0, 0, 20, 4, false⟩ ∧ (u.mode.shut = .off ∨ u.mode.shut = .done))) ∧
  (shut = .logic → Gives (.logicBistDone l p) s l { ln with mode := { ln.mode with bistLogic := p, shut := .memory } }) ∧
  (shut = .memory → Gives (.memoryBistDone l p q) s l
    { ln with mode := { ln.mode with bistSram := p, bistMram := q, shut := .record } }) ∧
  (shut = .record → ln.mode.heldWake = false → Ends (.bistRecordWritten l ms) s l (fun u => ∃ f,
    u.nv.bist = some ⟨f == 0, false, 972, 1000, ms.toNat, f, false⟩ ∧ (u.mode.shut = .off ∨ u.mode.shut = .done) ∧
    f = (if ln.mode.bistZero = false then 4 else if ln.mode.bistLogic = false then 1 else if ln.mode.bistSram = false then 2
      else if ln.mode.bistMram = false then 3 else 0))) ∧
  (∀ x st, (x, st) ∈ [(Instr.shutdownLogFlushed l, ShutStep.flush), (.fieldFuseRepair l, .repair),
    (.zeroisationConfirmed l, .zeroise), (.zeroisationTimeout l, .zeroise), (.logicBistDone l p, .logic),
    (.memoryBistDone l p q, .memory), (.bistRecordWritten l ms, .record)] → shut ≠ st → Gives x s l ln) ∧
  (shut = .done → Ends (.keyHigh l t) s l restarted) ∧
  (shut ≠ .done → shut ≠ .none → Gives (.keyHigh l t) s l { ln.at t with mode := { ln.mode with heldWake := true } }) ∧
  (shut = .none → exec (.keyHigh l t) s = exec (.wake l .key t) s) ∧
  (ln.get PWR_WKTIME_SEC ≠ 0 → exec (.wakeTimer l t) s = exec (.wake l .timer t) s) ∧
  (ln.get PWR_WKTIME_SEC = 0 → Gives (.wakeTimer l t) s l ln) ∧
  (let code := (wakeCode w).1
   let enabled := bit (ln.rd PWR_WAKEEN) (code - 1)
   let asked : Option Nat := match ln.mode.sleep with | .ask n => some n | _ => none
   (enabled = false → Gives (.wake l w t) s l (ln.at t)) ∧
   (enabled = true → ln.mode.sleep = .asleep ∨ (∃ n, asked = some n ∧ 5 ≤ n) → Ends (.wake l w t) s l (fun u => restarted u ∧
    u.get PWR_WAKE_SRC = code ∧ u.get PWR_WAKE_SEEN = 2 ^ (code - 1) ∧
    u.get PWR_WAKE_PLANE = (match w with | .partner k => k.code | _ => 0) ∧ u.lt = (ln.at t).lt)) ∧
   (∀ n, enabled = true → asked = some n → n < 5 → Ends (.wake l w t) s l (fun u => sleepAborted u 9 6 ln.id.code)) ∧
   (enabled = true → ln.mode.sleep = .none ∨ ln.mode.sleep = .rollback → Gives (.wake l w t) s l (ln.at t))) ∧
  (∀ n, ln.mode.sleep = .ask n → ln.is PWR_DOMSTAT_BUSY = false → 1 ≤ n → n ≤ 5 →
    (domainRefuses ln n a = none → Ends (.sleepDomainAnswer l a) s l (fun u =>
      (n < 5 → u.mode.sleep = .ask (n + 1)) ∧ (n = 5 → u.mode.sleep = .ask 6 ∨ u.mode.sleep = .asleep) ∧
      u.mode.stopped = ln.mode.stopped ++ [n])) ∧
    (∀ c, domainRefuses ln n a = some c → Ends (.sleepDomainAnswer l a) s l (fun u => sleepAborted u (askedDomain n) c
      (if c = 5 then (a.refusedBy.getD ln.id).code else ln.id.code))) ∧
    (n < 5 → Ends (.sleepAnswerTimeout l) s l (fun u => sleepAborted u (askedDomain n) 7 ln.id.code))) ∧
  ((∀ n, ln.mode.sleep ≠ .ask n) ∨ ln.is PWR_DOMSTAT_BUSY = true → Gives (.sleepDomainAnswer l a) s l ln ∧
    Gives (.sleepAnswerTimeout l) s l ln)


/-! ### Memory integrity (chapter 13, R388 to R406, R420) -/

/-- The lane with `upset` more wrong bits in one word. -/
def upsetWord (ln : Lane) (m w : Nat) (upset : BitVec 39) : Lane :=
  if upset = 0 then ln else ln.setFlip m w (ln.flipAt m w ^^^ upset)

/-- A counter one up, stopping at the field's largest value. -/
def countedUp (ln u : Lane) (f : Field) : Prop := u.get f = min (ln.get f + 1) (2 ^ (f.hi + 1 - f.lo) - 1)

/-- An uncorrectable word: UE with its memory and address, and its count (R396). -/
def uncorrectable (ln u : Lane) (m w : Nat) : Prop :=
  u.is MEM_STAT_UE = true ∧ u.get MEM_STAT_UEMEM = m ∧ u.rd MEM_UEADR = BitVec.ofNat 32 w ∧ countedUp ln u (MEM_CECNT_UECNT m)

/-- What a correctable error does to the table of its memory and to the repairs (R395, R399): a known address counts up to
7 and is marked HARD at its third error unless it stems from test mode; a new one takes a free entry, else that of the
oldest lowest count that is not HARD, else OVF is set. -/
def correctable (ln u : Lane) (m w b : Nat) : Prop :=
  let t := ln.ceTable m
  u.is MEM_STAT_CE = true ∧ countedUp ln u (MEM_CECNT_CECNT m) ∧ u.mem.wback = ln.mem.wback ++ [⟨m, w⟩] ∧
  (∀ e, t.find? (fun x => x.wadr == w) = some e →
    let cnt := min (e.cnt + 1) 7
    let hard : Bool := decide (3 ≤ cnt) && !e.test && !e.hard
    u.ceTable m = t.map (fun x => if x.wadr = w then { e with cnt := cnt, hard := e.hard || hard } else x) ∧
    (hard = true → u.is MEM_STAT_HARD = true ∧ (ln.nv.repairs.length < 32 → (∀ r, r ∈ ln.nv.repairs → r.m ≠ m ∨ r.wadr ≠ w) →
      u.nv.repairs = ln.nv.repairs ++ [⟨m, w, b⟩])) ∧
    (hard = false → u.nv.repairs = ln.nv.repairs)) ∧
  (t.find? (fun x => x.wadr == w) = none → u.nv.repairs = ln.nv.repairs ∧
    (t.length < 16 → u.ceTable m = t ++ [⟨w, b, 1, false, false⟩]) ∧
    (16 ≤ t.length → (∃ x, x ∈ t ∧ x.hard = false) → ∃ x, x ∈ t ∧ x.hard = false ∧
      (∀ y, y ∈ t → y.hard = false → x.cnt ≤ y.cnt) ∧
      u.ceTable m = t.filter (fun y => y.wadr != x.wadr) ++ [⟨w, b, 1, false, false⟩]) ∧
    (16 ≤ t.length → (∀ x, x ∈ t → x.hard = true) → u.is MEM_STAT_OVF = true ∧ u.ceTable m = t))

/-- A block marked for refresh, once. -/
def refreshMarked (ln u : Lane) (b : Nat) : Prop :=
  u.nv.map.refresh = (if b ∈ ln.nv.map.refresh then ln.nv.map.refresh else ln.nv.map.refresh ++ [b])

/-- A scrub read finds nothing, corrects one wrong bit and queues its write-back, or reports two (R392 to R396); memories
in test mode, words beyond the memory and a lane that is not released are not scrubbed. A write-back leaves its word
right. A word stored whole reads back (R388, R393). MEM_CBTEST stands only in SERVICE (R397). A sector program or an
erase that fails moves its block to a reserve and retires the old one, and without a reserve the block takes no more
programs (R403, R406); a sector read that passes on a repeat marks its block, three failures set SECF (R404); a marked
block is refreshed in STANDBY, SERVICE and SHUTDOWN (R405), and a low margin marks it (R420). Three and more wrong bits in
a word are outside the code: what the scrub makes of them is free (log 6). -/
def Obligations.MemoryIntegrity : Prop := ∀ (s : State) (l : LaneId) (m : Fin 9) (wadr : BitVec 20) (upset : BitVec 39)
    (v : Word) (blk : Fin 478) (sec : Fin 16) (crc : Word) (r : SectorRead) (ok : Bool) (margin : Nat),
  let ln := s.lane l
  let w := wadr.toNat
  let go := upsetWord ln m w upset
  let found := errBits (ln.flipAt m w ^^^ upset)
  let scrubbed := ln.locked = true ∧ w < memWords m ∧ ln.testMem m = false
  let map := ln.nv.map
  (scrubbed → found = [] → Gives (.scrubRead l m wadr upset) s l go) ∧
  (∀ b, scrubbed → found = [b] → (⟨m, w⟩ : WriteBack) ∉ ln.mem.wback →
    Ends (.scrubRead l m wadr upset) s l (fun u => correctable ln u m w b)) ∧
  (∀ b, scrubbed → found = [b] → (⟨m, w⟩ : WriteBack) ∈ ln.mem.wback → Gives (.scrubRead l m wadr upset) s l go) ∧
  (∀ b c, scrubbed → found = [b, c] → Ends (.scrubRead l m wadr upset) s l (fun u => uncorrectable ln u m w ∧
    u.mem = ln.mem ∧ (m ≠ 8 → u.nv = go.nv))) ∧
  (scrubbed → 3 ≤ found.length → Ends (.scrubRead l m wadr upset) s l (fun u => u.free = ln.free + 1)) ∧
  (ln.locked = false ∨ memWords m ≤ w ∨ ln.testMem m = true → Gives (.scrubRead l m wadr upset) s l ln) ∧
  (ln.mem.wback = [] → Gives (.correctiveWriteBack l) s l ln) ∧
  (∀ x t, ln.mem.wback = x :: t → Ends (.correctiveWriteBack l) s l (fun u => u.mem.wback = t ∧ u.flipAt x.m x.wadr = 0 ∧
    u.regs = ln.regs)) ∧
  (m < 8 → w < memWords m → ln.testMem m = false → ((ln.storeMem m w v 0xF).loadMem m w).1 = some v) ∧
  Gives (.memCbtest l v) s l (((ln.put MEM_CBTEST_SEL (bits v 1 1)).put MEM_CBTEST_CB (bits v 8 2)).putB MEM_CBTEST_EN
    (bit v 0 && decide (ln.modeNow = modeService))) ∧
  Gives (.memCbgen l v) s l (ln.wr MEM_CBGEN ((Config.checkBits v).setWidth 32)) ∧
  (blk.val ∈ map.failed → Gives (.sectorProgram l blk sec crc ok) s l ln ∧ Gives (.eraseDone l blk ok) s l ln) ∧
  (blk.val ∉ map.failed → ok = true →
    Ends (.sectorProgram l blk sec crc ok) s l (fun u => u.nv.map = { map with crc := keyPut map.crc (16 * blk + sec) crc, seq := map.seq + 1 }) ∧
    Ends (.eraseDone l blk ok) s l (fun u => u.nv.map = { map with crc := map.crc.filter (fun x => x.1 / 16 != blk.val), seq := map.seq + 1 })) ∧
  (∀ f t, blk.val ∉ map.failed → ok = false → map.free = f :: t →
    Ends (.sectorProgram l blk sec crc ok) s l (fun u => u.is MEM_SDSTAT_REFR = true ∧ u.nv.map.phys blk = f ∧ u.nv.map.free = t ∧
      u.nv.map.retired = map.phys blk :: map.retired ∧ keyGet u.nv.map.crc (16 * blk + sec) = some crc) ∧
    Ends (.eraseDone l blk ok) s l (fun u => u.is MEM_SDSTAT_REFR = true ∧ u.nv.map.phys blk = f ∧ u.nv.map.free = t ∧
      u.nv.map.retired = map.phys blk :: map.retired ∧ ∀ k, k / 16 = blk.val → keyGet u.nv.map.crc k = none)) ∧
  (blk.val ∉ map.failed → ok = false → map.free = [] → ∀ x ∈ [Instr.sectorProgram l blk sec crc ok, .eraseDone l blk ok],
    Ends x s l (fun u => u.is MEM_SDSTAT_NORES = true ∧ u.nv.map = { map with failed := blk :: map.failed })) ∧
  (r.failed = 0 → Gives (.sectorReadCheck l blk sec r) s l ln) ∧
  (r.failed = 1 ∨ r.failed = 2 → Ends (.sectorReadCheck l blk sec r) s l (fun u => refreshMarked ln u blk)) ∧
  (r.failed = 3 → Gives (.sectorReadCheck l blk sec r) s l (ln.on MEM_SDSTAT_SECF)) ∧
  (let mayStore := ln.modeNow = modeStandby ∨ ln.modeNow = modeService ∨ ln.modeNow = modeShutdown
   (∀ f t, mayStore → ln.upd.session = none → blk.val ∈ map.refresh → map.free = f :: t →
    Ends (.blockRefresh l blk ok) s l (fun u => u.is MEM_SDSTAT_REFR = true ∧ u.nv.map.phys blk = f ∧
      blk.val ∉ u.nv.map.refresh ∧ u.nv.map.crc = map.crc ∧
      (ok = true → u.nv.map.free = t ++ [map.phys blk] ∧ u.nv.map.retired = map.retired) ∧
      (ok = false → u.nv.map.free = t ∧ u.nv.map.retired = map.phys blk :: map.retired))) ∧
   (mayStore → ln.upd.session = none → blk.val ∈ map.refresh → map.free = [] →
    Gives (.blockRefresh l blk ok) s l (ln.on MEM_SDSTAT_NORES)) ∧
   (¬ mayStore ∨ ln.upd.session ≠ none ∨ blk.val ∉ map.refresh → Gives (.blockRefresh l blk ok) s l ln) ∧
   (mayStore → (∃ x ∈ map.crc, x.1 / 16 = blk.val) → 2 * margin < Config.factoryMargin ln.id blk →
    Ends (.retentionRead l blk margin) s l (fun u => refreshMarked ln u blk)) ∧
   (¬ mayStore ∨ (∀ x ∈ map.crc, x.1 / 16 ≠ blk.val) ∨ Config.factoryMargin ln.id blk ≤ 2 * margin →
    Gives (.retentionRead l blk margin) s l ln))


/-! ### Wear, reserves and the log line (chapter 14, R408 to R432) -/

/-- A point barred in MRAM and in WEAR_STAT; a held PACE_CTL write that selects it is dropped, and a lane at it or on its
way to it moves to the next (R412, R415). -/
def pointBarred (ln u : Lane) (p : Nat) : Prop :=
  (match p with | 1 => u.nv.bar1 = true ∧ u.is WEAR_STAT_BAR1 = true | _ => u.nv.bar2 = true ∧ u.is WEAR_STAT_BAR2 = true) ∧
  u.pace.target ≠ p ∧ (ln.pace.target = p → u.pace.target = p + 1 ∧ u.get PACE_CTL_OPSEL = p + 1) ∧
  (∀ v, u.pace.heldCtl = some v → bits v 1 0 ≠ p)

/-- The event that the writer receives now. -/
def eventNow (ln : Lane) (code : Nat) (d0 : Word) (d1 : Nat) (d2 : Word) : LogEvent :=
  { time := ln.lt, cycle := if ln.get LAY_STAT_NSTATE = 0 then 0xFFFF_FFFF else ln.rd LAY_CYCLE, code := code,
    mode := ln.modeNow, lstate := ln.lstate, fatal := eventFatal code, d0 := d0, d1 := BitVec.ofNat 32 d1, d2 := d2 }

/-- The ring slot of the next SEQ lies in a locked span: the fatal event and the 512 before it (R430, R431). -/
def nextLocked (ln : Lane) : Prop := ∃ k ∈ ln.nv.locks, (k.fatal - (ln.nv.seq + 1)).toNat % 4096 ≤ 512

/-- Chafe windows publish the mean drift of the last 1,024 accepted ones, and one that does not count changes nothing
(R409, R411); the guard acts on each D of domains 1 to 8 (R412). The planner's thresholds each do what the lower ones do
(R412, R413, R415, R416). Wear records, baselines, and a reserve converter that has shadowed 64 periods (R417, R421, R424).
The log line: a user event (R427), the writer's order and its locked spans (R426, R430, R431), frozen records in round-robin
order (R430), and the words that LOG_RDATA and LOG_FDATA return (R425, R428, R432). The rounding of a drift is the model's
(log 13). -/
def Obligations.WearAndLog : Prop := ∀ (s : State) (l : LaneId) (d : Fin 9) (n : Nat) (tj : Int) (o : Fin 37) (rise fall : Nat)
    (k : Fin 24) (v : Word),
  let ln := s.lane l
  let off : Prop := d.val < 8 ∧ ln.domOn (d.val + 1) = false
  let counts : Prop := ¬ off ∧ ln.nv.baseBad < 3 ∧ ln.is PACE_STAT_SLEW = false ∧ -40 ≤ tj ∧ tj ≤ 150 ∧ n ≠ 0
  let wins := (windowDrift (baselineN0 d (ln.get PACE_STAT_OP) tj) n :: vget ln.wear.wins d []).take 1024
  let mean := Max.max (-32768) (Min.min 32767 (meanDrift wins))
  let logged := eventNow ln 0xF0 v 0 0
  let seq := ln.nv.seq + 1
  (counts → ln.nv.boot.trial = false → Ends (.chafeWindow l d n tj) s l (fun u => u.driftOf d = mean ∧
    vget u.wear.wins d [] = wins ∧ u.get (WEAR_CHAFE_TJ d) = (tj + 40).toNat ∧
    (∀ e : Fin 9, e ≠ d → u.driftOf e = ln.driftOf e) ∧
    (d.val = 8 → u.is WEAR_STAT_GUARD = ln.is WEAR_STAT_GUARD ∧ u.lstate = ln.lstate) ∧
    (d.val < 8 → (u.is WEAR_STAT_GUARD = true ↔ ln.is WEAR_STAT_GUARD = true ∨
      (600 ≤ u.laneDrift ∧ ln.is PACE_STAT_EOL = false) ∨ guardLimit (ln.get PACE_STAT_OP) ≤ u.laneDrift)) ∧
    (u.is WEAR_STAT_GUARD = true → ln.is WEAR_STAT_GUARD = false → isRunning ln.lstate = true → ¬ isRunning u.lstate = true ∧
      u.get TALLY_WCAUSE_CODE = 0x0A))) ∧
  (¬ off → 3 ≤ ln.nv.baseBad → ln.nv.bar1 = false → Ends (.chafeWindow l d n tj) s l (fun u => u.is WEAR_STAT_BASEF = true ∧
    pointBarred ln u 1)) ∧
  (off ∨ (ln.nv.baseBad < 3 ∧ (ln.is PACE_STAT_SLEW = true ∨ tj < -40 ∨ 150 < tj ∨ n = 0)) → Gives (.chafeWindow l d n tj) s l ln) ∧
  Gives (.plannerThreshold l .d5) s l (if ln.is PACE_STAT_EOL then ln else ln.on WEAR_STAT_EOLQ) ∧
  (ln.nv.bar1 = false → Ends (.plannerThreshold l .d12) s l (fun u => pointBarred ln u 1 ∧ u.nv.bar2 = ln.nv.bar2 ∧
    (ln.is PACE_STAT_EOL = false → u.is WEAR_STAT_EOLQ = true))) ∧
  (ln.nv.bar1 = true → Gives (.plannerThreshold l .d12) s l (if ln.is PACE_STAT_EOL then ln else ln.on WEAR_STAT_EOLQ)) ∧
  (ln.nv.bar2 = false → Ends (.plannerThreshold l .d35) s l (fun u => pointBarred ln u 2 ∧ u.nv.bar1 = true)) ∧
  (ln.nv.wout = false → Ends (.plannerThreshold l .d55) s l (fun u => u.nv.wout = true ∧ u.is WEAR_STAT_WOUT = true ∧
    u.nv.bar1 = true ∧ u.nv.bar2 = true ∧ u.lstate = ln.lstate)) ∧
  Ends (.wearRecord l) s l (fun u => u.nv.hours = ln.nv.hours + 1 ∧ ∃ r, r.hours = ln.nv.hours + 1 ∧
    r.chafe = (List.range 9).map (fun e => ln.rd (WEAR_CHAFE e)) ∧ u.nv.hourly = (r :: ln.nv.hourly).take 1024 ∧
    u.nv.daily = (if (ln.nv.hours + 1) % 24 = 0 then (r :: ln.nv.daily).take 512 else ln.nv.daily)) ∧
  Ends (.baselinePeriodEnd l o rise fall) s l (fun u => vget u.nv.base o .reset = ⟨rise, fall, true⟩ ∧
    (let w := vget ln.wear.edges o ⟨[], []⟩
     let slow := 6 * rise < 5 * meanNat w.rises ∨ 6 * fall < 5 * meanNat w.falls
     (slow → ln.nv.stages.getLsbD o = false → u.wear.needStage.getLsbD o = true) ∧
     (¬ slow → u.wear.needStage = ln.wear.needStage))) ∧
  (∀ x, ln.wear.shadow.find? (fun x => x.1 == k.val) = some x → 64 ≤ x.2.2 → Ends (.converterTakeover l k) s l (fun u =>
    keyGet u.nv.convs k = some x.2.1 ∧ u.is WEAR_STAT_RSVEV = true ∧ ∀ y, y ∈ u.wear.shadow → y.1 ≠ k.val)) ∧
  ((∀ x ∈ ln.wear.shadow, x.1 = k.val → x.2.2 < 64) → Gives (.converterTakeover l k) s l ln) ∧
  Gives (.base l) s l (({ ln with nv := { ln.nv with base := Vector.replicate 37 .reset } }).logR 0x84 WEAR_STAT 0) ∧
  (ln.log.buf.length < 32 → Ends (.logUser l v) s l (fun u => logged ∈ u.log.buf ∧ u.log.buf.length = ln.log.buf.length + 1 ∧
    u.regs = ln.regs)) ∧
  (32 ≤ ln.log.buf.length → Ends (.logUser l v) s l (fun u => u.log.buf = ln.log.buf ∧ countedUp ln u LOG_LOST_LOST ∧
    u.log.lostSince = ln.log.lostSince + 1)) ∧
  (ln.log.buf = [] → Gives (.logEventWrite l) s l ln) ∧
  (∀ e t, ln.log.buf = e :: t → ¬ nextLocked ln → Ends (.logEventWrite l) s l (fun u => u.nv.seq = seq ∧
    u.eventAt seq = some (seq, e) ∧ u.rd LOG_HEAD = seq ∧ (ln.log.lostSince = 0 → u.log.buf = t) ∧
    (0 < ln.log.lostSince → t.length < 32 → u.log.lostSince = 0 ∧ ∃ x ∈ u.log.buf, x.code = 0x90 ∧
      x.d0 = BitVec.ofNat 32 ln.log.lostSince) ∧
    (e.fatal = false → u.nv.locks = ln.nv.locks) ∧
    (e.fatal = true → ln.nv.locks.length < 2 → u.nv.locks = ln.nv.locks ++ [⟨seq⟩]) ∧
    (e.fatal = true → 2 ≤ ln.nv.locks.length → u.nv.locks = ln.nv.locks ∧ countedUp ln u LOG_FSTAT_MISSN))) ∧
  (∀ e t, ln.log.buf = e :: t → nextLocked ln → Ends (.logEventWrite l) s l (fun u => u.nv = ln.nv ∧
    (t.length < 32 → countedUp ln u LOG_LOST_LOST) ∧ (ln.log.lostSince = 0 → u.log.buf = t))) ∧
  (ln.nv.locks = [] → Gives (.frozenRecordCopy l) s l ln) ∧
  (∀ f t x, ln.nv.locks = f :: t → keyGet ln.nv.ring (f.fatal.toNat % 4096) = some x → Ends (.frozenRecordCopy l) s l (fun u =>
    u.nv.locks = t ∧ u.nv.frozenNext = (ln.nv.frozenNext + 1) % 8 ∧ u.nv.ring = ln.nv.ring ∧
    ∃ r, keyGet u.nv.frozen ln.nv.frozenNext = some r ∧ r.head = x ∧ r.events.length ≤ 512)) ∧
  Gives (.logRselWrite l v) s l (({ ln with log := { ln.log with ridx := 0 } }).wr LOG_RSEL v) ∧
  (let sel := ln.rd LOG_RSEL
   let bad := sel.toNat % 4096 ∈ ln.nv.badSlots
   let next : Lane := { ln with log := { ln.log with ridx := (ln.log.ridx + 1) % 8 } }
   (∀ e, ln.eventAt sel = some (sel, e) → ¬ bad → Gives (.logRdataRead l) s l
    { next with rdata := (eventWords (sel, e)).getD ln.log.ridx 0 }) ∧
   (ln.eventAt sel = none → Gives (.logRdataRead l) s l { next with rdata := 0 }) ∧
   (∀ e, ln.eventAt sel = some (sel, e) → bad → Ends (.logRdataRead l) s l (fun u => uncorrectable ln u 8 (sel.toNat % 4096) ∧
    u.log = next.log ∧ u.rdata = (if ln.log.ridx = 4 then 0xFFFE else 0)))) ∧
  (let rec' := ln.get LOG_FSEL_REC
   let word := ln.get LOG_FSEL_WORD
   let next := ln.put LOG_FSEL_WORD (word + 1)
   (∀ r, 392 + rec' ∉ ln.nv.map.failed → keyGet ln.nv.frozen rec' = some r →
    Gives (.logFdataRead l) s l { next with rdata := frozenWord r word }) ∧
   (392 + rec' ∉ ln.nv.map.failed → keyGet ln.nv.frozen rec' = none → Gives (.logFdataRead l) s l { next with rdata := 0 }) ∧
   (392 + rec' ∈ ln.nv.map.failed → Gives (.logFdataRead l) s l { next.on LOG_FSTAT_RERR with rdata := 0 }))


/-! ### The Lay bus: reception (chapter 15, R441 to R450, R455, R461 to R465) -/

/-- The lane's network is SYNC or REF. -/
def onNetwork (ln : Lane) : Prop := ln.get LAY_STAT_NSTATE = nsSync ∨ ln.get LAY_STAT_NSTATE = nsRef

/-- The lane's record that a channel has accepted a frame in this cycle. -/
def heardOn (ln : Lane) (h : Nat) : Lane := { ln with lay := { ln.lay with heard := ln.lay.heard ||| BitVec.ofNat 2 (2 ^ h) } }

/-- The state of the network after an accepted reference frame of offset `e`, `good` accepted ones in a row (R450). -/
def nextNet (st good e : Nat) : Nat :=
  if st = nsUnsync then (if 2 ≤ good ∧ e ≤ 2000 then nsSync else nsUnsync)
  else if st = nsSync then (if 6000 < e then nsSilent else nsSync)
  else if st = nsSilent then (if e ≤ 2000 ∧ 2 ≤ good then nsSync else nsSilent) else st

/-- The start of a frame's action point in the cycle and what the frame must be there (R443, R447): the reference slot, 32
strand slots, then yarn slots on the grid of the dynamic segment. -/
def slotOf443 (ln : Lane) (h pos : Nat) : Option (Nat × Nat × Nat) :=
  if pos < 320000 then some (0, 0, 16000)
  else if pos < 5440000 then some (1, (pos - 320000) / 160000, 336000 + 160000 * ((pos - 320000) / 160000))
  else if (vget ln.lay.yarn h (0, 0)).2 < 160 then
    some (2, (vget ln.lay.yarn h (0, 0)).1, 5448000 + 16000 * (vget ln.lay.yarn h (0, 0)).2)
  else none

/-- The first check of R447 that a frame fails on a synchronised network. -/
def verdict447 (ln : Lane) (f : LayRx) : LayCheck :=
  let c := f.chars
  let x := layHead c
  let pos := (ln.netTime f.start).toNat % 8000000
  let cycle := (ln.netTime f.start).toNat / 8000000
  match slotOf443 ln f.ch.val pos with
  | none => .win
  | some (type, id, act) =>
    if pos + 8000 < act ∨ act + 8000 < pos then .win
    else if f.stops = false ∨ c.length ≠ 8 + x.len then .frm
    else if c.getD 0 0 ≠ 0x55 ∨ c.getD 1 0 ≠ 0xC3 ∨ layFieldsOk x = false ∨ x.rsv ≠ 0 ∨ x.type ≠ type ∨ (type ≠ 0 ∧ x.id ≠ id) ∨
      x.cyc ≠ cycle % 256 then .hdr
    else if layCrcOk c x.len = false then .crc
    else if x.type = 2 ∧ 8000000 < act + 3200 * c.length + 8000 then .hdr
    else .ok

/-- Frames: the order of the checks on a synchronised network and their counters (R447); UNSYNC takes reference frames
alone (R448). An accepted reference frame moves network time by its offset and the state by R450; a strand frame fills its
result set (R461), a yarn frame the queue (R462), a command is agreed (R463). The cycle, a missing reference frame, the
takeover and the yarn counters (R445, R450, R455, R465), and the two queues read and acknowledged (R462, R464, R467). -/
def Obligations.LayReception : Prop := ∀ (s : State) (l : LaneId) (f : LayRx) (t : LTime) (h : Fin 2) (dur : Nat) (v : Word),
  let ln := s.lane l
  let c := f.ch.val
  let x := layHead f.chars
  let go := ln.at t
  let works := ln.layOn = true ∧ ln.chanOn c = true
  let heard := heardOn go c
  let cmd := works ∧ ln.layCheck f = .ok ∧ x.kind = 1 ∧ x.type ≠ 0
  let mayCmd := (if x.type = 1 then bit (ln.rd (if c = 0 then LAY_CMDMX else LAY_CMDMY)) x.id = true
    else ln.get LAY_YCMD_CLO ≤ x.id ∧ x.id ≤ ln.get LAY_YCMD_CHI) ∧ x.held = false ∧ x.len ≤ 32
  (¬ works → Gives (.layFrameValid l f t) s l ln) ∧
  (onNetwork ln → ln.layCheck f = verdict447 ln f) ∧
  (ln.get LAY_STAT_NSTATE = nsUnsync → 3 ≤ f.chars.length → x.type ≠ 0 → ln.layCheck f = .ignored) ∧
  (works → ln.layCheck f = .ignored → Gives (.layFrameValid l f t) s l go) ∧
  (works → ln.layCheck f = .win → Gives (.layFrameValid l f t) s l (go.countUp (LAY_ERR_WIN c))) ∧
  (works → ln.layCheck f = .frm → Gives (.layFrameValid l f t) s l (go.countUp (LAY_ERR_FRM c))) ∧
  (works → ln.layCheck f = .hdr → Gives (.layFrameValid l f t) s l (go.countUp (LAY_ERR_HDR c))) ∧
  (works → ln.layCheck f = .crc → Gives (.layFrameValid l f t) s l (go.countUp (LAY_ERR_CRC c))) ∧
  (works → ln.layCheck f = .ok → x.type = 0 → c = 0 ∨ ln.lay.refSeen.getLsbD 0 = false →
    let carried := payloadWord x.payload 2 ++ payloadWord x.payload 1
    let eps := (ln.netTime f.start - carried).toInt - (ln.get (LAY_PDLY_PDLY c) : Int)
    let st := ln.get LAY_STAT_NSTATE
    let next := nextNet st (if ln.lay.refSeen = 0 then ln.lay.good + 1 else ln.lay.good) eps.natAbs
    Ends (.layFrameValid l f t) s l (fun u => u.lay.nofs = ln.lay.nofs - eps ∧ u.rd LAY_NOFS = wordI (ln.lay.nofs - eps) ∧
      u.rd LAY_EPS = wordI eps ∧ u.get LAY_STAT_REFR = x.id ∧ u.get LAY_STAT_NSTATE = next ∧
      (u.is LAY_STAT_SYNEV = true ↔ ln.is LAY_STAT_SYNEV = true ∨ next ≠ st) ∧ u.lay.refAt = go.lt ∧
      (onNetwork ln → ln.get LAY_STAT_REFR ≠ 0 → ln.get LAY_STAT_REFR ≠ x.id → u.is LAY_STAT_TAKEOV = true))) ∧
  (works → ln.layCheck f = .ok → x.type = 1 → x.kind ≠ 1 → bit (ln.rd (if c = 0 then LAY_RXSX else LAY_RXSY)) x.id = true →
    x.id < 32 → Ends (.layFrameValid l f t) s l (fun u =>
      rfGet u.pub (LAY_RXSTAT (32 * c + x.id)) = nextStat (rfGet ln.pub (LAY_RXSTAT (32 * c + x.id)))
        (x.kind + 4 * b2n x.held + 8 * x.len) ∧
      (∀ k, k < 8 → rfGet u.pub (LAY_RX_D0 (32 * c + x.id) + 4 * k) = payloadWord x.payload k) ∧
      rfGet u.pub (LAY_RX_TS (32 * c + x.id)) = t.extractLsb' 0 32 ∧ u.regs = ln.regs ∧ u.lay = heard.lay)) ∧
  (works → ln.layCheck f = .ok → x.type = 1 → x.kind ≠ 1 → bit (ln.rd (if c = 0 then LAY_RXSX else LAY_RXSY)) x.id = false →
    Gives (.layFrameValid l f t) s l heard) ∧
  (works → ln.layCheck f = .ok → x.type = 2 → x.kind ≠ 1 → ln.get LAY_YCFG_RLO ≤ x.id → x.id ≤ ln.get LAY_YCFG_RHI →
    (ln.lay.yq.length < 16 → Ends (.layFrameValid l f t) s l (fun u => u.lay.yqSeq = ln.lay.yqSeq + 1 ∧
      u.lay.yq = ln.lay.yq ++ [⟨ln.lay.yqSeq + 1, x.payload⟩] ∧ u.get LAY_YQSTAT_COUNT = ln.lay.yq.length + 1)) ∧
    (16 ≤ ln.lay.yq.length → Gives (.layFrameValid l f t) s l (heard.on LAY_STAT_YOVF))) ∧
  (works → ln.layCheck f = .ok → x.type = 2 → x.kind ≠ 1 → x.id < ln.get LAY_YCFG_RLO ∨ ln.get LAY_YCFG_RHI < x.id →
    Gives (.layFrameValid l f t) s l heard) ∧
  (cmd → mayCmd → Gives (.layFrameValid l f t) s l (heard.ownCommand x.payload t)) ∧
  (cmd → ¬ mayCmd → Gives (.layFrameValid l f t) s l heard) ∧
  (ln.layOn = true → Ends (.layCycleStart l t) s l (fun u => u.lay.yarn = Vector.replicate 2 (0, 0) ∧ u.lay.refSeen = 0 ∧
    u.lay.heard = 0 ∧ u.lt = go.lt ∧ u.rd LAY_CYCLE = BitVec.ofNat 32 ((go.netTime go.lt).toNat / 8000000) ∧
    u.lay.lowerMiss = (if ln.lay.lowerSeen then 0 else ln.lay.lowerMiss + 1) ∧
    (ln.get LAY_STAT_NSTATE = nsRef → ln.lay.leaveRef = true → u.get LAY_STAT_NSTATE = nsSync ∧ u.is LAY_STAT_SYNEV = true) ∧
    (ln.get LAY_STAT_NSTATE ≠ nsRef ∨ ln.lay.leaveRef = false → u.get LAY_STAT_NSTATE = ln.get LAY_STAT_NSTATE) ∧
    (u.is LAY_STAT_XDN = true ↔ ln.chanOn 0 = true ∧ (ln.is LAY_STAT_TXOFFX = true ∨
      (ln.lay.heard.getLsbD 0 = false ∧ ln.lay.refSeen.getLsbD 1 = true ∧ 4 ≤ vget ln.lay.quiet 0 0))))) ∧
  (ln.layOn = false → Gives (.layCycleStart l t) s l ln ∧ Gives (.missingReferenceFrame l) s l ln ∧ Gives (.takeover l) s l ln) ∧
  (ln.layOn = true → Ends (.missingReferenceFrame l) s l (fun u => u.lay.good = 0 ∧
    (ln.lay.miss < 4 → u.lay.miss = ln.lay.miss + 1 ∧ u.regs = ln.regs) ∧
    (4 ≤ ln.lay.miss → ln.get LAY_STAT_NSTATE = nsSync ∨ ln.get LAY_STAT_NSTATE = nsSilent →
      u.get LAY_STAT_NSTATE = nsUnsync ∧ u.is LAY_STAT_SYNEV = true ∧ u.lay.refAt = ln.lt))) ∧
  (let rank := ln.get LAY_CFG_RANK
   let takes := ln.layOn = true ∧ 1 ≤ rank ∧ ln.get LAY_STAT_NSTATE = nsSync ∧ rank ≤ ln.lay.lowerMiss
   (takes → Ends (.takeover l) s l (fun u => u.get LAY_STAT_NSTATE = nsRef ∧ u.is LAY_STAT_SYNEV = true ∧
    u.is LAY_STAT_TAKEOV = true ∧ u.lay.nofs = ln.lay.nofs)) ∧
   (¬ takes → Gives (.takeover l) s l ln)) ∧
  (let y := vget ln.lay.yarn h (0, 0)
   (y.2 < 160 → 1 ≤ dur → Ends (.yarnSlotEnd l h dur) s l (fun u => vget u.lay.yarn h (0, 0) = (y.1 + 1, y.2 + dur) ∧
    u.regs = ln.regs)) ∧
   (160 ≤ y.2 ∨ dur = 0 → Gives (.yarnSlotEnd l h dur) s l ln)) ∧
  (∀ e q, ln.lay.yq = e :: q →
    Ends (.layYqstatRead l) s l (fun u => u.lay.yqLatch = some e ∧ u.lay.yqIdx = 0 ∧ u.lay.yq = e :: q ∧
      bits u.rdata 15 0 = e.seq.toNat ∧ bits u.rdata 24 17 = e.data.length % 256 ∧
      (bit u.rdata 16 = true ↔ ln.lay.yqFresh ≠ e.seq) ∧ u.lay.yqFresh = e.seq) ∧
    (e.seq = v.setWidth 16 → Gives (.layYqack l v) s l (({ ln with lay := { ln.lay with yq := q } }).put LAY_YQSTAT_COUNT q.length)) ∧
    (e.seq ≠ v.setWidth 16 → Gives (.layYqack l v) s l ln)) ∧
  (ln.lay.yq = [] → Gives (.layYqack l v) s l ln ∧
    Gives (.layYqstatRead l) s l { ln with rdata := setBits (ln.rd LAY_YQSTAT) 16 16 0 }) ∧
  (∀ e, ln.lay.yqLatch = some e → Gives (.layYqdataRead l) s l
    { ln with lay := { ln.lay with yqIdx := ln.lay.yqIdx + 1 }, rdata := payloadWord e.data ln.lay.yqIdx }) ∧
  (ln.lay.yqLatch = none → Gives (.layYqdataRead l) s l { ln with rdata := 0 }) ∧
  (∀ e q, ln.lay.cq = e :: q →
    Ends (.layCqstatRead l) s l (fun u => u.lay.cq = e :: q ∧ bits u.rdata 15 0 = e.seq.toNat ∧
      bits u.rdata 24 17 = e.data.length % 256 ∧ (bit u.rdata 16 = true ↔ ln.lay.cqFresh ≠ e.seq) ∧ u.lay.cqFresh = e.seq ∧
      ∀ k, k < 8 → u.rd (LAY_CQDATA k) = payloadWord e.data k) ∧
    (e.seq = v.setWidth 16 → Gives (.layCqack l v) s l (({ ln with lay := { ln.lay with cq := q } }).put LAY_CQSTAT_COUNT q.length)) ∧
    (e.seq ≠ v.setWidth 16 → Gives (.layCqack l v) s l ln)) ∧
  (ln.lay.cq = [] → Gives (.layCqack l v) s l ln ∧
    Gives (.layCqstatRead l) s l { ln with rdata := setBits (ln.rd LAY_CQSTAT) 16 16 0 })


/-! ### The Lay bus: transmission and cold start (chapter 15, R438 to R446, R454 to R460) -/

/-- What a buffer sends at an action point: the last commit 4 us before it or earlier, and while content is held none
later than the hold began; else what it sent before (R458, R459). -/
def sendsContent (ln : Lane) (b : Nat) (act : LTime) : Option LayContent :=
  let x := vget ln.lay.buf b ⟨none, []⟩
  let old := x.next.filter (fun c => timeLe c.2 (act - 32000) && (!ln.contentHeld || timeLe c.2 ln.lay.heldAt))
  match old.getLast? with
  | some c => some c.1
  | none => x.now

/-- The lane time at which a point of the present cycle lies. -/
def pointTime (ln : Lane) (act : Nat) : LTime :=
  let nt := (ln.netTime ln.lt).toNat
  BitVec.ofNat 64 (nt - nt % 8000000) + BitVec.ofNat 64 act - BitVec.ofInt 64 ln.lay.nofs

/-- A frame has gone out on a channel: its readback resets the difference count or adds to it, and eight differences in a
row turn the transmitter off (R460). -/
def frameOut (ln u : Lane) (h : Nat) (chars : List Byte) (rbOk : Bool) : Prop :=
  vget u.lay.sent h [] = chars ∧
  (rbOk = true → u.get (LAY_ERR_TXE h) = 0 ∧ u.is (txoffF h) = ln.is (txoffF h)) ∧
  (rbOk = false → countedUp ln u (LAY_ERR_TXE h) ∧
    (7 ≤ ln.get (LAY_ERR_TXE h) → u.is (txoffF h) = true) ∧ (ln.get (LAY_ERR_TXE h) < 7 → u.is (txoffF h) = ln.is (txoffF h)))

/-- The cycle number that a frame at a lane time carries. -/
def cycleAt (ln : Lane) (t : LTime) : Nat := (ln.netTime t).toNat / 8000000 % 256

/-- A transmitted frame reads back as its fields with a matching CRC (R438 to R440). A strand frame goes out in every cycle,
a yarn frame once, in a slot in which it fits, with the content committed in time (R445, R446, R458, R459); reference and
cold-start frames go out on every channel that may send (R454, R456); a cold start that collided waits and moves its cycle
to the frame's start (R457). Commits, and transmitters turned on again (R458, R460). -/
def Obligations.LayTransmission : Prop :=
  (∀ (type kind id cyc : Nat) (held : Bool) (d : List Byte), type < 4 → kind < 4 → id < 256 → cyc < 256 → d.length < 256 →
    layHead (layChars type kind held id cyc d) = ⟨type, kind, held, 0, id, d.length, cyc, d⟩ ∧
      layCrcOk (layChars type kind held id cyc d) d.length = true ∧ (layChars type kind held id cyc d).length = 8 + d.length) ∧
  (∀ (s : State) (l : LaneId) (b : Fin 64) (rbOk : Bool),
    let ln := s.lane l
    let h := b.val / 32
    let n := b.val % 32
    let act := pointTime ln (336000 + 160000 * n)
    let may := ln.maySend h = true ∧ onNetwork ln ∧ bit (ln.rd (if h = 0 then LAY_TXSX else LAY_TXSY)) n = true
    (∀ c, may → sendsContent ln b act = some c → ln.is (LAY_TXCTL_EN b) = true → Ends (.strandFrameSend l b rbOk) s l (fun u =>
      frameOut ln u h (layChars 1 c.kind ln.contentHeld n (cycleAt ln act) c.data) rbOk ∧ u.lt = (ln.at act).lt ∧
      (vget u.lay.buf b ⟨none, []⟩).now = some c)) ∧
    (may → sendsContent ln b act = none ∨ ln.is (LAY_TXCTL_EN b) = false → Ends (.strandFrameSend l b rbOk) s l (fun u =>
      u.lay.sent = ln.lay.sent ∧ u.regs = ln.regs)) ∧
    (¬ may → Gives (.strandFrameSend l b rbOk) s l ln)) ∧
  (∀ (s : State) (l : LaneId) (h : Fin 2) (rbOk : Bool),
    let ln := s.lane l
    let y := vget ln.lay.yarn h (0, 0)
    let yid := if h.val = 0 then ln.get LAY_YCFG_YIDX else ln.get LAY_YCFG_YIDY
    let act := pointTime ln (5448000 + 16000 * y.2)
    let may := ln.maySend h = true ∧ onNetwork ln ∧ y.1 = yid ∧ y.2 < 160
    (∀ c, may → sendsContent ln (64 + h) act = some c → ln.is (LAY_YTXCTL_EN h) = true →
      5448000 + 16000 * y.2 + 3200 * (8 + c.data.length) + 8000 ≤ 8000000 → Ends (.yarnFrameSend l h rbOk) s l (fun u =>
        frameOut ln u h (layChars 2 c.kind ln.contentHeld yid (cycleAt ln act) c.data) rbOk ∧
        (vget u.lay.buf (64 + h) ⟨none, []⟩).now = none ∧
        (u.is (LAY_YTXCTL_PEND h) = true ↔ (vget u.lay.buf (64 + h) ⟨none, []⟩).next ≠ []))) ∧
    (∀ c, may → sendsContent ln (64 + h) act = some c → ln.is (LAY_YTXCTL_EN h) = false ∨
      8000000 < 5448000 + 16000 * y.2 + 3200 * (8 + c.data.length) + 8000 → Ends (.yarnFrameSend l h rbOk) s l (fun u =>
        u.lay.sent = ln.lay.sent ∧ u.regs = ln.regs ∧ (vget u.lay.buf (64 + h) ⟨none, []⟩).now = some c)) ∧
    (may → sendsContent ln (64 + h) act = none → Gives (.yarnFrameSend l h rbOk) s l (ln.at act)) ∧
    (¬ may → Gives (.yarnFrameSend l h rbOk) s l ln)) ∧
  (∀ (s : State) (l : LaneId) (rbOk bad : BitVec 2) (t : LTime) (b : Fin 66) (v : Word),
    let ln := s.lane l
    let go := ln.at t
    let rank := ln.get LAY_CFG_RANK
    let frame (u : Lane) (kind : Nat) : List Byte :=
      let nt := (u.netTime u.lt).toNat
      let base := nt - nt % 8000000
      layChars 0 kind false rank (nt / 8000000 % 256) (wordBytes (BitVec.ofNat 32 (nt / 8000000)) ++
        wordBytes ((BitVec.ofNat 64 (base + 16000)).extractLsb' 0 32) ++ wordBytes ((BitVec.ofNat 64 (base + 16000)).extractLsb' 32 32))
    let refs := ln.layOn = true ∧ ln.get LAY_STAT_NSTATE = nsRef
    let starts := ln.layOn = true ∧ ln.is LAY_CFG_CSEN = true ∧ 1 ≤ rank ∧ ln.get LAY_STAT_NSTATE = nsUnsync
    let first := starts ∧ ln.lay.coldWait = false ∧ 5 * 8000000 ≤ (t - ln.lay.refAt).toNat
    let again := starts ∧ ln.lay.coldWait = true
    (refs → rank < 8 → Ends (.referenceFrameSend l rbOk t) s l (fun u => u.lt = go.lt ∧ u.get LAY_STAT_REFR = rank ∧
      u.get LAY_STAT_NSTATE = nsRef ∧ ∀ h, h < 2 → ln.maySend h = true → frameOut ln u h (frame go 0) (rbOk.getLsbD h))) ∧
    (¬ refs → Gives (.referenceFrameSend l rbOk t) s l ln) ∧
    (first → Ends (.coldStart l t) s l (fun u => u.lay.nofs = 0 ∧ u.rd LAY_NOFS = 0 ∧ u.get LAY_STAT_NSTATE = nsRef ∧
      u.is LAY_STAT_SYNEV = true ∧ ∀ h, h < 2 → ln.maySend h = true → frameOut ln u h (frame u 1) true)) ∧
    (¬ first → Gives (.coldStart l t) s l ln) ∧
    (again → (go.netTime go.lt).toNat + 8000000 < 2 ^ 64 → Ends (.coldStartRetry l t) s l (fun u => u.get LAY_STAT_NSTATE = nsRef ∧
      u.lay.coldWait = false ∧ u.lt = go.lt ∧ (u.netTime u.lt).toNat % 8000000 = 16000 ∧
      ∀ h, h < 2 → ln.maySend h = true → frameOut ln u h (frame u 1) true)) ∧
    (¬ again → Gives (.coldStartRetry l t) s l ln) ∧
    (∀ ev, ln.lay.cold = some ev → ln.get LAY_STAT_NSTATE = nsRef → Ends (.coldStartCollision l bad t) s l (fun u =>
      u.get LAY_STAT_NSTATE = nsUnsync ∧ u.is LAY_STAT_SYNEV = ev ∧ countedUp ln u LAY_STAT_COLLC ∧ u.lay.coldWait = true ∧
      u.lay.cold = none ∧ u.lay.nofs = ln.lay.nofs ∧
      ∀ h, h < 2 → bad.getLsbD h = true → ln.maySend h = true → countedUp ln u (LAY_ERR_TXE h))) ∧
    (ln.lay.cold = none → Gives (.coldStartCollision l bad t) s l ln) ∧
    (let kind := bits v 3 2
     let len := bits v 11 4
     let yarn := 64 ≤ b.val
     let ok := kind ≠ 1 ∧ kind ≠ 3 ∧ len ≤ (if yarn then 128 else 32)
     (ln.layOn = true → ok → Ends (.transmitCommit l b v) s l (fun u => ∃ d, d.length = len ∧
      (∀ k, k < len → d.getD k 0 = (ln.rd ((if yarn then LAY_YTX_D0 (b.val - 64) else LAY_TX_D0 b) + 4 * (k / 4))).extractLsb' (8 * (k % 4)) 8) ∧
      vget u.lay.buf b ⟨none, []⟩ = ⟨(vget ln.lay.buf b ⟨none, []⟩).now, (vget ln.lay.buf b ⟨none, []⟩).next ++ [(⟨kind, d⟩, ln.lt)]⟩ ∧
      (∀ y : Fin 2, b.val = 64 + y.val → u.is (LAY_YTXCTL_PEND y) = true ∧ u.is (LAY_YTXCTL_EN y) = bit v 0) ∧
      (∀ y : Fin 64, b.val = y.val → u.is (LAY_TXCTL_EN y) = bit v 0))) ∧
     (ln.layOn = true → ¬ ok → Ends (.transmitCommit l b v) s l (fun u => u.lay = ln.lay)) ∧
     (ln.layOn = false → Gives (.transmitCommit l b v) s l ln)) ∧
    Ends (.transmitterOn l v) s l (fun u => ∀ h, h < 2 →
      (bit v h = true → u.is (txoffF h) = false ∧ u.get (LAY_ERR_TXE h) = 0) ∧
      (bit v h = false → u.is (txoffF h) = ln.is (txoffF h) ∧ u.get (LAY_ERR_TXE h) = ln.get (LAY_ERR_TXE h))))


/-! ### ISO 11783 and GNSS (chapter 16, R478 to R485, R528) -/

/-- Address Claimed or Cannot Claim with the lane's NAME. -/
def claimMsg (ln : Lane) : CanMsg := ⟨60928, 255, bytes64 ln.canName⟩

/-- The last step sent exactly these messages and changed nothing else. -/
def sendsOnly (ln : Lane) (l : List CanMsg) : Lane := { ln with can := { ln.can with tx := l } }

/-- No session is lost but those of one sender. -/
def otherSessions (ln : Lane) (src : Byte) : List TpSession := ln.can.sessions.filter (fun x => x.src != src)

/-- The bytes of a status message (R481). -/
def statusBytes (ln : Lane) (held : Bool) : List Byte :=
  [BitVec.ofNat 8 (ln.modeNow + 16 * ln.lstate), BitVec.ofNat 8 (b2n held + 2 * ln.get TALLY_LANES_NRUN + 16 * ln.get LCTL_FSET_MCNT),
    BitVec.ofNat 8 (ln.get LCTL_FSET_CLS), ln.can.counter] ++ wordBytes (ln.rd TIME_FRAME)

/-- Two fields of an epoch's source sentences. -/
def inEpoch (ln : Lane) (a r : Nmea) : Prop := ln.gnss.gga = some a ∧ ln.gnss.rmc = some r ∧ a.utc = r.utc ∧ ln.gnss.done ≠ some a.utc

/-- The lane defends its address against a higher NAME and gives it up to a lower one, taking the highest free address
from 247 down to 128, or none (R479); it answers requests, and refuses those for other PGNs (R478); one transport session
of each sender, whose whole Proprietary A message is a command (R478, R480). DM3 clears DM2 (R482). The status and speed
messages (R481, R483), received ground speed (R528). A sentence that fails a check is discarded, GGA and RMC of one time
complete an epoch (R484), and a 1PPS edge pairs with the first whole second within 900 ms (R485). Field layouts of ISO
11783 that the spec does not give are the model's (log 23). -/
def Obligations.CanAndGnss : Prop := ∀ (s : State) (l : LaneId) (addr src dst : Byte) (name : BitVec 64) (pgn : BitVec 18)
    (p : TpPacket) (data : List Byte) (t : LTime) (spd : BitVec 16) (dir : BitVec 2) (dist : Word) (x : Nmea),
  let ln := s.lane l
  let on := ln.canOn = true
  let mine := ln.is CAN_STAT_CLAIMED = true ∧ ln.get CAN_STAT_ADDR = addr.toNat
  let others := ln.can.claims.filter (fun c => c.2 != name && c.1 != addr)
  let lost := if 0xFE ≤ addr.toNat then others else others ++ [(addr, name)]
  let quiet : Prop := ¬ on ∨ ln.is CAN_STAT_BUSOFF = true
  let toMe := ln.is CAN_STAT_CLAIMED = true ∧ dst.toNat = ln.get CAN_STAT_ADDR
  let n := pgn.toNat
  (¬ on → Gives (.addressClaim l addr name) s l ln) ∧
  (on → ¬ mine → Gives (.addressClaim l addr name) s l { ln with can := { ln.can with claims := lost, tx := [] } }) ∧
  (on → mine → ln.canName.toNat ≤ name.toNat → Gives (.addressClaim l addr name) s l
    { ln with can := { ln.can with claims := others, tx := [claimMsg ln] } }) ∧
  (on → mine → name.toNat < ln.canName.toNat → Ends (.addressClaim l addr name) s l (fun u => u.can.tx = [claimMsg ln] ∧
    u.is CAN_STAT_CLMEV = true ∧ u.can.claims = lost ∧
    (∀ a, 128 ≤ a → a ≤ 247 → (∀ c ∈ lost, c.1.toNat ≠ a) → (∀ b, a < b → b ≤ 247 → ∃ c ∈ lost, c.1.toNat = b) →
      u.get CAN_STAT_ADDR = a ∧ u.is CAN_STAT_CLAIMED = true) ∧
    ((∀ a, 128 ≤ a → a ≤ 247 → ∃ c ∈ lost, c.1.toNat = a) → u.get CAN_STAT_ADDR = 0xFE ∧ u.is CAN_STAT_CLAIMED = false ∧
      u.can.cannot = true))) ∧
  (quiet → Gives (.request l pgn src dst) s l ln) ∧
  (¬ quiet → n = 60928 → toMe ∨ dst = 255 → Gives (.request l pgn src dst) s l (sendsOnly ln [claimMsg ln])) ∧
  (¬ quiet → ¬ toMe → dst ≠ 255 → Gives (.request l pgn src dst) s l ln) ∧
  (∀ d, ¬ quiet → toMe → ln.answerTo n = some d → Gives (.request l pgn src dst) s l (sendsOnly ln [⟨n, src, d⟩])) ∧
  (∀ d, ¬ quiet → ln.is CAN_STAT_CLAIMED = true → ¬ toMe → dst = 255 → ln.answerTo n = some d →
    Gives (.request l pgn src dst) s l (sendsOnly ln [⟨n, 255, d⟩])) ∧
  (¬ quiet → toMe → ln.answerTo n = none → n ≠ 60928 → n ≠ 65228 → Gives (.request l pgn src dst) s l
    (sendsOnly ln [⟨59392, 255, ackData 1 src n⟩])) ∧
  (¬ quiet → toMe → n = 65228 → Gives (.request l pgn src dst) s l
    { ln with can := { ln.can with dm2 := [], tx := [⟨59392, 255, ackData 0 src n⟩] } }) ∧
  (quiet → Gives (.transportPacket l p t) s l ln ∧ Gives (.proprietaryACommand l src data t) s l ln) ∧
  (∀ bam g size, ¬ quiet → p.kind = .start bam g size →
    (9 ≤ size → size ≤ 1785 → Gives (.transportPacket l p t) s l
      (({ ln with can := { ln.can with sessions := otherSessions ln p.src ++ [TpSession.mk p.src g size []] } }).on CAN_STAT_TPOPEN)) ∧
    (size < 9 ∨ 1785 < size → Gives (.transportPacket l p t) s l ln)) ∧
  (¬ quiet → p.kind = .close → Gives (.transportPacket l p t) s l
    (({ ln with can := { ln.can with sessions := otherSessions ln p.src } }).putB CAN_STAT_TPOPEN (!(otherSessions ln p.src).isEmpty))) ∧
  (∀ num bytes, ¬ quiet → p.kind = .data num bytes →
    (ln.can.sessions.find? (fun y => y.src == p.src) = none → Gives (.transportPacket l p t) s l ln) ∧
    (∀ y, ln.can.sessions.find? (fun y => y.src == p.src) = some y →
      let y' := { y with got := keyPut y.got num bytes }
      (y'.whole = none → Ends (.transportPacket l p t) s l (fun u => u.can.sessions = otherSessions ln p.src ++ [y'] ∧
        u.is CAN_STAT_TPOPEN = true)) ∧
      (∀ d, y'.whole = some d → d.length ≤ 32 → y.pgn = 61184 →
        let gone := ({ ln with can := { ln.can with sessions := otherSessions ln p.src } }).putB CAN_STAT_TPOPEN
          (!(otherSessions ln p.src).isEmpty)
        Gives (.transportPacket l p t) s l ((gone.at t).ownCommand d t)) ∧
      (∀ d, y'.whole = some d → 32 < d.length ∨ y.pgn ≠ 61184 → Ends (.transportPacket l p t) s l (fun u =>
        u.can.sessions = otherSessions ln p.src ∧ u.agr = ln.agr)))) ∧
  (¬ quiet → data.length ≤ 32 → Gives (.proprietaryACommand l src data t) s l ((ln.at t).ownCommand data t)) ∧
  (¬ quiet → 32 < data.length → Gives (.proprietaryACommand l src data t) s l ln) ∧
  (on → Gives (.dm3 l) s l { ln with can := { ln.can with dm2 := [] } } ∧ Gives (.busOff l) s l (ln.on CAN_STAT_BUSOFF)) ∧
  (¬ on → Gives (.dm3 l) s l ln ∧ Gives (.busOff l) s l ln ∧ Gives (.statusMessage l) s l ln ∧
    Gives (.wheelBasedSpeed l) s l ln ∧ Gives (.groundBasedSpeed l spd dir dist) s l ln ∧ Gives (.gnssSentence l x t) s l ln ∧
    Gives (.gnssPpsEdge l t) s l ln) ∧
  Gives (.busOffRecovery l) s l (ln.put CAN_STAT_BUSOFF 0) ∧
  (ln.canSend = true → isRunning ln.lstate = true → Ends (.statusMessage l) s l (fun u => u.can.counter = ln.can.counter + 1 ∧
    u.can.tx = [⟨65280 + ln.get CAN_CFG_GE, 255, statusBytes ln false⟩] ∧ u.can.status = statusBytes ln false ∧ u.regs = ln.regs)) ∧
  (ln.canSend = true → (ln.lstate = lsWithdrawn ∨ ln.lstate = lsResync ∨ ln.lstate = lsShadow ∨ ln.lstate = lsBarred) →
    (∀ a b r, ln.can.status = a :: b :: r → Gives (.statusMessage l) s l
      (sendsOnly ln [⟨65280 + ln.get CAN_CFG_GE, 255, a :: (b ||| 1) :: r⟩]))) ∧
  (on → Ends (.wheelBasedSpeed l) s l (fun u =>
    u.can.dist = (if ln.sqValid (ln.get LCTL_LIMPCFG_SPDW) then ln.can.dist + ln.speedWord else ln.can.dist) ∧
    (ln.canSend = false → u.can.tx = []) ∧
    (ln.canSend = true → ∃ d, u.can.tx = [⟨65096, 255, d⟩] ∧ d.length = 8 ∧
      (ln.sqValid (ln.get LCTL_LIMPCFG_SPDW) = false → d = [0x00, 0xFE, 0x00, 0x00, 0x00, 0xFE, 0xFF, 0xFF])))) ∧
  (on → Ends (.groundBasedSpeed l spd dir dist) s l (fun u =>
    rfGet u.pub CAN_GSPD = BitVec.ofNat 32 (spd.toNat + 65536 * dir.toNat) ∧ rfGet u.pub CAN_GDIST = dist ∧
    bits (rfGet u.pub CAN_GSSTAT) 15 0 = (bits (rfGet ln.pub CAN_GSSTAT) 15 0 + 1) % 65536 ∧
    bit (rfGet u.pub CAN_GSSTAT) 16 = true ∧
    (bit (rfGet u.pub CAN_GSSTAT) 17 = true ↔ spd.toNat < 0xFE00 ∧ dist.toNat < 0xFE000000))) ∧
  (let ok := x.len ≤ 82 ∧ x.sumOk = true ∧ x.talkerOk = true ∧ x.kind ≠ .other
   let g' := if x.kind = .gga then { ln.gnss with gga := some x } else if x.kind = .vtg then { ln.gnss with vtg := some x }
     else match ln.gnss.edge with
       | some e => if x.utc % 1000 = 0 ∧ (t - e).toNat ≤ 900 * 8000000 then
           { ln.gnss with rmc := some x, edge := none, paired := some e } else { ln.gnss with rmc := some x }
       | none => { ln.gnss with rmc := some x }
   let taken : Lane := { ln.at t with gnss := g' }
   (on → ¬ ok → Gives (.gnssSentence l x t) s l ((ln.at t).on GNSS_STAT_BADS)) ∧
   (on → ok → (¬ ∃ a r, inEpoch taken a r) → Gives (.gnssSentence l x t) s l taken) ∧
   (∀ a r, on → ok → inEpoch taken a r → Ends (.gnssSentence l x t) s l (fun u => u.gnss = { g' with done := some a.utc } ∧
    u.regs = ln.regs ∧ rfGet u.pub GNSS_LAT = wordI a.lat ∧ rfGet u.pub GNSS_LON = wordI a.lon ∧ rfGet u.pub GNSS_ALT = wordI a.alt ∧
    rfGet u.pub GNSS_UTC = BitVec.ofNat 32 a.utc ∧
    bits (rfGet u.pub GNSS_STAT) 15 0 = (bits (rfGet ln.pub GNSS_STAT) 15 0 + 1) % 65536 ∧
    bits (rfGet u.pub GNSS_STAT) 24 20 = min a.sats 31 ∧
    (bit (rfGet u.pub GNSS_STAT) 26 = true ↔ g'.paired ≠ none) ∧
    (∀ v, g'.vtg = some v → v.utc = a.utc → rfGet u.pub GNSS_SOG = BitVec.ofNat 32 v.sog) ∧
    (g'.vtg = none → rfGet u.pub GNSS_SOG = BitVec.ofNat 32 r.sog)))) ∧
  (on → Ends (.gnssPpsEdge l t) s l (fun u => u.gnss.edge = some t ∧
    u.is GNSS_STAT_PPSM = (ln.is GNSS_STAT_PPSM || ln.gnss.edge.isSome))) ∧
  (ln.gnss.edge ≠ none → Gives (.ppsPairingTimeout l) s l (({ ln with gnss := { ln.gnss with edge := none } }).on GNSS_STAT_PPSM)) ∧
  (ln.gnss.edge = none → Gives (.ppsPairingTimeout l) s l ln)


/-! ### Host commands (chapter 16, R467 to R477) -/

/-- The lane after a response to a command: a running lane queues it and sends what can go out (R474); another answers
nothing. -/
def replied (ln : Lane) (k : HostCmd) (opc result : Nat) (ready : Bool) (seq : Nat) (data : List Byte) : Lane :=
  if isRunning ln.lstate then
    ({ ln with host := { ln.host with out := ln.host.out ++
      [(Response.mk (BitVec.ofNat 8 opc) k.tag result ready seq data k.lay k.src, 0)] } }).pump
  else ln

/-- The SEQ of the last completed result of an opcode; 0 before the first. -/
def lastSeq (ln : Lane) (opc : Nat) : Nat := (keyGet ln.host.seqs opc).getD 0

/-- The answer to a command that is done at once: its result takes the next SEQ (R467). -/
def finished (ln : Lane) (k : HostCmd) (opc : Nat) (data : List Byte) : Lane :=
  let n := (lastSeq ln opc + 1) % 65536
  replied { ln with host := { ln.host with seqs := keyPut ln.host.seqs opc n } } k opc 0x00 true n data

/-- An answer that completes no result. -/
def refusedWith (ln : Lane) (k : HostCmd) (opc result : Nat) (data : List Byte) : Lane :=
  replied ln k opc result false (lastSeq ln opc) data

/-- A channel's duty under STOP, in Q1.31 (R473). -/
def stopDuty (ln : Lane) (c pct : Nat) : Int :=
  if bit (ln.rd STOP_PCFG) (STOP_PCFG_APPLYDIR.lo + c) then -((pct : Int) * 2147483648 / 100) else (pct : Int) * 2147483648 / 100

/-- The commands of R470 with their opcode, their arguments' ranges and the modes that permit them. -/
def hostRow (l : LaneId) (ln : Lane) (k : HostCmd) (x : Instr) (opc : Nat) (args mode : Prop) : Prop :=
  let a := arg k 4
  let b := arg k 5
  let v := argWord k 8
  let drives : Prop := ln.modeNow ∈ [modeArmed, modeService, modeRun3, modeRun2, modeLimp]
  (x, opc, args, mode) ∈ [(Instr.summary l k, 0x01, True, True), (.mode l k, 0x02, a ≤ 15 ∧ b ≤ 3, True),
    (.hostStop l k, 0x03, a < 64 ∧ 10 ≤ b ∧ b ≤ 99, drives), (.release l k, 0x04, a < 64, drives),
    (.channel l k, 0x05, a < 6 ∧ 1 ≤ b ∧ b ≤ 4, True), (.loopcmd l k, 0x06, (a < 24 ∨ a = 31) ∧ 1 ≤ b ∧ b ≤ 7, True),
    (.setval l k, 0x07, a ≤ 2 ∧ b < (if a = 1 then 16 else 24), drives),
    (.hostClear l k, 0x08, a ≤ 2 ∧ (a = 0 → v.toNat < 2 ^ 18) ∧ (a = 2 → v.toNat < 18), True),
    (.logread l k, 0x09, 1 ≤ a ∧ a ≤ 16, True),
    (.frozenread l k, 0x0A, a ≤ 7 ∧ b ≤ 4, ln.modeNow ∈ [modeStandby, modeService, modeSafestop]),
    (.result l k, 0x0B, a ∈ [0x0A, 0x0C, 0x10, 0x11], True), (.attest l k, 0x0C, True, True)]

/-- A command out of its ranges, with reserved bytes set, or in a mode that does not permit it is answered so and writes
nothing (R468, R471); otherwise it acts and is answered: at once (STOP, RELEASE, SETVAL, CLEAR, LOGREAD), at its frame
(MODE, CHANNEL, LOOPCMD), at the capture (SUMMARY), or by RESULT (FROZENREAD, ATTEST: R472, R475). A response goes out in
segments of up to 120 bytes (R474). What the spec leaves of when a response is formed is the model's choice (log 24). -/
def Obligations.HostCommands : Prop := ∀ (s : State) (l : LaneId) (k : HostCmd) (r : Response),
  let ln := s.lane l
  let go : Lane := { ln with can := { ln.can with tx := [] } }
  let handles := ln.locked = true ∧ ln.helm.run ≠ .stopped
  let head := k.rsv = 0 ∧ k.lead ≠ 1
  let runs (opc : Nat) : Prop := handles ∧ head ∧ ∀ x args mode, hostRow l ln k x opc args mode → args ∧ mode
  let a := arg k 4
  let b := arg k 5
  let w := argWord k 8
  let f := ln.applyFrame k
  let far := (f - (ln.rd TIME_FRAME).setWidth 16).toNat
  (∀ x opc args mode, hostRow l ln k x opc args mode →
    (¬ handles → Gives x s l ln) ∧
    (handles → ¬ (head ∧ args) → Gives x s l (refusedWith go k opc 0x03 [])) ∧
    (handles → head ∧ args → ¬ mode → Gives x s l (refusedWith go k opc 0x04 []))) ∧
  (handles → Gives (.unknownOpcode l k) s l (refusedWith go k k.opc.toNat 0x02 [])) ∧
  (¬ handles → Gives (.unknownOpcode l k) s l ln) ∧
  (runs 0x01 → Gives (.summary l k) s l { go with host := { go.host with summary := go.host.summary ++ [k] } }) ∧
  (runs 0x02 → 1 ≤ far → far ≤ 256 → Ends (.mode l k) s l (fun u => u.mode.pend = ln.mode.pend ++ [⟨a, b, f⟩] ∧
    u.get LCTL_MODE_PEND = a ∧ u.modeNow = ln.modeNow ∧ u.host.waiting = ln.host.waiting ++ [(k, f)] ∧ u.host.out = ln.host.out)) ∧
  (runs 0x02 → ¬ (1 ≤ far ∧ far ≤ 256) → Ends (.mode l k) s l (fun u => u.mode = ln.mode ∧
    ∃ g : Lane, u = refusedWith g k 0x02 0x05 [if (ln.modeNow, a) ∈ requestTable then 0x04 else 0x01] ∧ g.host = ln.host)) ∧
  (runs 0x03 → Ends (.hostStop l k) s l (fun u => u.modeNow = ln.modeNow ∧ lastSeq u 0x03 = (lastSeq ln 0x03 + 1) % 65536 ∧
    ∀ c, c < 6 → keyGet u.host.override c =
      (if a / 2 ^ c % 2 = 1 ∧ ln.get (COMM_CHCFG_ROLE c) = 2 ∧ ln.cst c = csRun then some (stopDuty ln c b)
       else keyGet ln.host.override c))) ∧
  (runs 0x04 → Gives (.release l k) s l (finished
    { go with host := { go.host with releases := go.host.releases ++ [(BitVec.ofNat 6 a, f)] } } k 0x04 [])) ∧
  (let v : Word := f ++ BitVec.ofNat 16 (a + 16 * b)
   let try' := (go.put COMM_IEN_REJ 0).writeCommCmd v
   (runs 0x05 → try'.is COMM_IEN_REJ = false → Ends (.channel l k) s l (fun u => u.comm = try'.comm ∧
    u.host.waiting = try'.host.waiting ++ [(k, f)])) ∧
   (runs 0x05 → try'.is COMM_IEN_REJ = true → Ends (.channel l k) s l (fun u => ∃ g : Lane, g.comm = try'.comm ∧
    g.host = try'.host ∧ u = refusedWith g k 0x05 0x05 [1]))) ∧
  (let v : Word := f ++ BitVec.ofNat 16 (a + 256 * b)
   let try' := ((go.cputBoth LOOP_STAT_REJ 0).writeLoopCmd .p v).writeLoopCmd .s v
   (runs 0x06 → try'.cget .p LOOP_STAT_REJ = 0 → Ends (.loopcmd l k) s l (fun u => u.loop = try'.loop ∧
    u.host.waiting = try'.host.waiting ++ [(k, f)])) ∧
   (runs 0x06 → try'.cget .p LOOP_STAT_REJ = 1 → Ends (.loopcmd l k) s l (fun u => ∃ g : Lane, g.loop = try'.loop ∧
    g.host = try'.host ∧ u = refusedWith g k 0x06 0x05 [1]))) ∧
  (let reg := if a = 0 then LOOP_SP b else if a = 1 then LOOP_AUX b else LOOP_MAN b
   let stage (x : LoopCopy) : LoopCopy := { x with stage := keyPut x.stage reg w }
   (runs 0x07 → far = 1 → Gives (.setval l k) s l (finished { go with loop := ⟨stage go.loop.p, stage go.loop.s⟩ } k 0x07 [])) ∧
   (runs 0x07 → far ≠ 1 → Gives (.setval l k) s l (finished
    { go with host := { go.host with setvals := go.host.setvals ++ [(reg, w, f)] } } k 0x07 []))) ∧
  (runs 0x08 → a = 2 → Gives (.hostClear l k) s l (finished (go.clearFault w.toNat) k 0x08 [])) ∧
  (let g := go.put BRDG_STAT_CREJ 0
   let try' := if a = 0 then g.writeScclr (w.setWidth 18) g.belowTrip else g.writeChclr 1 g.brdg.chopMa
   (runs 0x08 → a < 2 → try'.is BRDG_STAT_CREJ = false → Ends (.hostClear l k) s l (fun u => u.brdg = try'.brdg ∧
    lastSeq u 0x08 = (lastSeq ln 0x08 + 1) % 65536)) ∧
   (runs 0x08 → a < 2 → try'.is BRDG_STAT_CREJ = true → Ends (.hostClear l k) s l (fun u => ∃ h : Lane, h.brdg = try'.brdg ∧
    h.host = go.host ∧ u = refusedWith h k 0x08 0x05 [1]))) ∧
  (runs 0x09 → Gives (.logread l k) s l (finished go k 0x09 (((List.range a).map (fun i =>
    ((List.range 8).map (fun j => wordBytes (ln.eventWord (w + BitVec.ofNat 32 i) j))).flatten)).flatten))) ∧
  (runs 0x0A → ln.host.frozen = none → Gives (.frozenread l k) s l
    (refusedWith { go with host := { go.host with frozen := some k } } k 0x0A 0x01 [])) ∧
  (runs 0x0A → ln.host.frozen ≠ none → Gives (.frozenread l k) s l (refusedWith go k 0x0A 0x07 [])) ∧
  (ln.host.frozen = none → Gives (.frozenreadDone l) s l ln) ∧
  (∀ q, ln.host.frozen = some q → Ends (.frozenreadDone l) s l (fun u => u.host.frozen = none ∧
    u.host.frozenRes.seq = (ln.host.frozenRes.seq + 1) % 65536 ∧ u.host.frozenRes.fresh = true ∧ u.host.frozenRes.data.length = 4096)) ∧
  (runs 0x0C → ln.host.attest = none → Gives (.attest l k) s l
    (refusedWith { go with host := { go.host with attest := some k } } k 0x0C 0x01 [])) ∧
  (runs 0x0C → ln.host.attest ≠ none → Gives (.attest l k) s l (refusedWith go k 0x0C 0x07 [])) ∧
  (ln.host.attest = none → Gives (.attestDone l) s l ln) ∧
  (∀ q, ln.host.attest = some q → Ends (.attestDone l) s l (fun u => u.host.attest = none ∧ u.regs = ln.regs ∧
    u.host.attestRes.seq = (ln.host.attestRes.seq + 1) % 65536 ∧ u.host.attestRes.fresh = true ∧
    (u.host.attestRes.data.drop 120).take 16 = (List.range 16).map (fun i => BitVec.ofNat 8 (arg q (8 + i))))) ∧
  (∀ p res, ln.lateOf a = some (p, res) → (p = true ∨ res.seq = 0) → runs 0x0B → Gives (.result l k) s l
    (replied go k 0x0B 0x08 false res.seq res.data)) ∧
  (∀ res, ln.lateOf a = some (false, res) → res.seq ≠ 0 → runs 0x0B → Gives (.result l k) s l
    (replied (go.setLate a { res with fresh := false }) k 0x0B res.result res.fresh res.seq res.data)) ∧
  (r.lay = false → ln.canSend = true → ln.host.out = [(r, 0)] → ln.pump.host.out = [] ∧
    ln.pump.can.tx = ln.can.tx ++ (List.range (Max.max 1 ((r.data.length + 119) / 120))).map (fun i => CanMsg.mk 61184 r.dst
      ([r.opc ||| 0x80, r.tag, BitVec.ofNat 8 r.result, BitVec.ofNat 8 (ln.id.code + 4 * b2n r.ready), BitVec.ofNat 8 r.seq,
        BitVec.ofNat 8 (r.seq / 256), BitVec.ofNat 8 i, BitVec.ofNat 8 (Max.max 1 ((r.data.length + 119) / 120))] ++
        (r.data.drop (120 * i)).take 120))) ∧
  (∀ n, (ln.summaryRecord n).length = 512 ∧ (ln.summaryRecord n).drop 508 = wordBytes (crc32c ((ln.summaryRecord n).take 508)) ∧
    (ln.summaryRecord n).take 4 = [1, BitVec.ofNat 8 ln.id.code, 0, 2])


/-! ### Update sessions (chapter 18, R505 to R510, R514, R515, R520) -/

/-- The update commands of R507 with their opcode, the ranges of their further arguments and the modes that permit them. -/
def updateRow (l : LaneId) (ln : Lane) (k : HostCmd) (x : Instr) (opc : Nat) (args mode : Prop) : Prop :=
  let t := arg k 5
  let n := arg k 8 + 256 * arg k 9
  let free : Prop := ln.modeNow ∈ [modeStandby, modeArmed, modeService, modeRun3, modeRun2]
  (x, opc, args, mode) ∈ [(Instr.openSession l k, 0x10, t ≤ 2 ∧ 1 ≤ n ∧ n ≤ (if t = 0 then 3072 else if t = 1 then 64 else 1), free),
    (.closeSession l k, 0x11, True, True), (.arm l k, 0x12, t ≤ 1, free), (.abort l k, 0x13, True, True),
    (.commit l k, 0x14, True, True), (.rollback l k, 0x15, True, free), (.status l k, 0x16, True, True),
    (.revoke l k, 0x17, True, free)]

/-- A lane after a change of its boot record. -/
def bootIs (ln : Lane) (b : BootRec) : Lane := ({ ln with nv := { ln.nv with boot := b } }).showNv

/-- Update commands act in the lane that they name; the others answer done (R507). OPEN clears its target and its pending
flag, its erase ends later; chunks assemble blocks, and a block is accepted once or refused (R508); CLOSE verifies (R509);
ARM, ABORT, COMMIT and ROLLBACK change the boot record as R510, R514 and R515 say; REVOKE revokes the key that a
revocation image names (R506). The answers' details beyond the spec are the model's (log 25). -/
def Obligations.UpdateCommands : Prop := ∀ (s : State) (l : LaneId) (k : HostCmd) (c : Chunk),
  let ln := s.lane l
  let go : Lane := { ln with can := { ln.can with tx := [] } }
  let handles := ln.locked = true ∧ ln.helm.run ≠ .stopped
  let head := k.rsv = 0 ∧ k.lead ≠ 1
  let own := arg k 4 = ln.id.code
  let runs : Prop := handles ∧ head ∧ own
  let boot := ln.nv.boot
  let t := arg k 5
  let free : Prop := ln.modeNow ∈ [modeStandby, modeArmed, modeService, modeRun3, modeRun2]
  let opened (sid : Nat) : Option Session := ln.upd.session.filter (fun x => x.sid.toNat == sid && x.erased)
  (∀ x opc args mode, updateRow l ln k x opc args mode →
    (¬ handles → Gives x s l ln) ∧
    (handles → head → ¬ own → 1 ≤ arg k 4 → arg k 4 ≤ 3 → Gives x s l (finished go k opc [])) ∧
    (handles → ¬ head ∨ arg k 4 = 0 ∨ 3 < arg k 4 ∨ (own ∧ ¬ args) → Gives x s l (refusedWith go k opc 0x03 [])) ∧
    (runs → args → ¬ mode → Gives x s l (refusedWith go k opc 0x04 []))) ∧
  (runs → free → t ≤ 2 → 1 ≤ arg k 8 + 256 * arg k 9 → arg k 8 + 256 * arg k 9 ≤ (if t = 0 then 3072 else if t = 1 then 64 else 1) →
    Ends (.openSession l k) s l (fun u => u.upd.assembling = [] ∧ u.is UPD_STAT_SESS = true ∧ u.targetImage t = .empty ∧
      u.upd.session = some ⟨t, BitVec.ofNat 8 (arg k 6), arg k 8 + 256 * arg k 9, argWord k 12, false, false⟩ ∧
      (t = 0 → u.nv.boot = { boot with rollback := false, pendSlot := false }) ∧
      (t = 1 → u.nv.boot = { boot with rollback := false, pendCfg := false }))) ∧
  (∀ x, ln.upd.session = some x → x.erased = false → Ends (.openEraseDone l) s l (fun u =>
    u.upd.session = some { x with erased := true } ∧ u.host.openRes.seq = (ln.host.openRes.seq + 1) % 65536 ∧
    u.host.openRes.fresh = true ∧ u.host.openRes.result = 0 ∧ bit (rfGet u.pub UPD_STAT) 16 = true)) ∧
  (ln.upd.session = none ∨ (∃ x, ln.upd.session = some x ∧ x.erased = true) → Gives (.openEraseDone l) s l ln) ∧
  (let len := c.data.length
   let shape := (len = 64 ∧ c.chunk < 64) ∨ (len = 1024 ∧ c.chunk < 4)
   let fits (x : Session) : Prop := c.sid = x.sid ∧ x.erased = true ∧ shape ∧ c.block < x.n
   let pieces := keyPut ((keyGet ln.upd.assembling c.block).getD []) (c.chunk * len) c.data
   (¬ handles ∨ ln.upd.session = none ∨ (∃ x, ln.upd.session = some x ∧ ¬ fits x) → Gives (.updateChunk l c) s l ln) ∧
   (∀ x, handles → ln.upd.session = some x → fits x →
    ((∃ d, keyGet (ln.targetImage x.target).blocks c.block = some d) → Gives (.updateChunk l c) s l
      { ln with upd := { ln.upd with dups := ln.upd.dups + 1 } }) ∧
    (keyGet (ln.targetImage x.target).blocks c.block = none → assembled pieces = none → Ends (.updateChunk l c) s l (fun u =>
      keyGet u.upd.assembling c.block = some pieces ∧ u.nv = ln.nv ∧
      (ln.upd.assembling.length ≤ 4 → u.upd.assembling.length ≤ 4))) ∧
    (∀ d, keyGet (ln.targetImage x.target).blocks c.block = none → assembled pieces = some d → blockOk d = false →
      Ends (.updateChunk l c) s l (fun u => u.get UPD_STAT_LASTBAD = c.block % 2 ^ (UPD_STAT_LASTBAD.hi + 1 - UPD_STAT_LASTBAD.lo) ∧
        u.upd.blkEvent = true ∧ u.nv = ln.nv)) ∧
    (∀ d, keyGet (ln.targetImage x.target).blocks c.block = none → assembled pieces = some d → blockOk d = true →
      ln.nv.map.failed = [] → Ends (.updateChunk l c) s l (fun u =>
        keyGet (u.targetImage x.target).blocks c.block = some d ∧ u.upd.blkEvent = true ∧ u.upd.session = some x)))) ∧
  (∀ x, runs → opened (arg k 6) = some x → Gives (.closeSession l k) s l
    (refusedWith { go with upd := { go.upd with session := some { x with closing := true } } } k 0x11 0x01 [])) ∧
  (runs → opened (arg k 6) = none → Gives (.closeSession l k) s l (refusedWith go k 0x11 0x06 [])) ∧
  (∀ x, ln.upd.session = some x → x.closing = true → ln.verify x = 0 → x.target ≤ 2 → Ends (.closeVerifyDone l) s l (fun u =>
    u.upd.session = none ∧ u.is UPD_STAT_SESS = false ∧ (u.targetImage x.target).valid = true ∧ u.host.closeRes.result = 0 ∧
    u.host.closeRes.fresh = true ∧ u.nv.boot = boot)) ∧
  (∀ x, ln.upd.session = some x → x.closing = true → ln.verify x ≠ 0 → Ends (.closeVerifyDone l) s l (fun u =>
    u.upd.session = some { x with closing := false } ∧ u.nv = ln.nv ∧ u.host.closeRes.result = 5 ∧ u.host.closeRes.fresh = true ∧
    bit (rfGet u.pub UPD_STAT) 16 = true)) ∧
  (ln.upd.session = none ∨ (∃ x, ln.upd.session = some x ∧ x.closing = false) → Gives (.closeVerifyDone l) s l ln) ∧
  (let trial := boot.trial = true ∨ ∃ j, j ≠ ln.id ∧ (ln.agr.vec.get j).trial = true
   (runs → free → t ≤ 1 → trial → Gives (.arm l k) s l (refusedWith go k 0x12 0x06 [])) ∧
   (runs → free → t ≤ 1 → ¬ trial → (ln.targetImage t).valid = false → Gives (.arm l k) s l (refusedWith go k 0x12 0x05 [])) ∧
   (runs → free → t ≤ 1 → ¬ trial → (ln.targetImage t).valid = true → Gives (.arm l k) s l (finished (bootIs go
     (if t = 0 then { boot with rollback := false, pendSlot := true } else { boot with rollback := false, pendCfg := true })) k 0x12 []))) ∧
  (runs → Ends (.abort l k) s l (fun u => u.upd.session = none ∧ u.upd.assembling = [] ∧
    u.nv.boot = { boot with rollback := false, pendSlot := false, pendCfg := false } ∧
    ∀ x, ln.upd.session = some x → x.target ≤ 2 → (u.targetImage x.target).valid = false)) ∧
  (runs → boot.uncommitted = true → Gives (.commit l k) s l
    (finished (bootIs go { boot with uncommitted := false, superseded := true }) k 0x14 [])) ∧
  (runs → boot.uncommitted = false → Gives (.commit l k) s l (finished go k 0x14 [])) ∧
  (let may := (ln.nv.img boot.prevSlot).valid = true ∧ boot.superseded = false
   (runs → free → may → Gives (.rollback l k) s l (finished (bootIs go { boot with
     rollback := true, pendSlot := boot.prevSlot != boot.slot, pendCfg := boot.prevCfg != boot.cfg }) k 0x15 [])) ∧
   (runs → free → ¬ may → Gives (.rollback l k) s l (refusedWith go k 0x15 0x05 []))) ∧
  (runs → ∃ d, Gives (.status l k) s l (finished go k 0x16 d) ∧ (d.drop 4).take 8 = wordBytes (ln.rd UPD_BOOT) ++ wordBytes (ln.rd UPD_KEYS) ∧
    (ln.upd.session = none → d.length = 14) ∧ d.length ≤ 110) ∧
  (∀ key, runs → free → ln.revocation = some key → key < 4 → Ends (.revoke l k) s l (fun u =>
    (∀ j, j < 4 → (vget u.nv.keys j ⟨0, false, false⟩).revoked = ((vget ln.nv.keys j ⟨0, false, false⟩).revoked || j == key)) ∧
    ((ln.nv.img (1 - boot.slot)).keySlot ln.nv.keys = some key → boot.slot ≤ 1 → (u.nv.img (1 - boot.slot)).valid = false))) ∧
  (runs → free → ln.revocation = none → Gives (.revoke l k) s l (refusedWith go k 0x17 0x06 []))


/-! ### Section outputs (chapter 17, R490 to R497) -/

/-- What a gate shows of its inputs: the majority of three valid ones, of two the one of the lower letter, one alone, and
low without any (R496). -/
def majority (va vb vc xa xb xc : Bool) : Bool :=
  match va, vb, vc with
  | true, true, true => (xa && xb) || (xa && xc) || (xb && xc)
  | true, _, _ => xa
  | false, true, _ => xb
  | false, false, true => xc
  | false, false, false => false

/-- The gate of output `j` over the three lanes' valid lines and levels. -/
def gateOf (s : State) (j : Nat) : Bool :=
  majority s.a.sect.line s.b.sect.line s.c.sect.line (s.a.sis (SECT_OSTAT_LEVEL j)) (s.b.sis (SECT_OSTAT_LEVEL j))
    (s.c.sis (SECT_OSTAT_LEVEL j))

/-- Every lane reads the gates as they stand (R496). -/
def gatesRead (t : State) : Prop := ∀ k : LaneId, (∀ j, j < 32 → bit ((t.lane k).rd SECT_GOUTA) j = gateOf t j) ∧
  ∀ j, j < 16 → bit ((t.lane k).rd SECT_GOUTB) j = gateOf t (32 + j)

/-- Every lane reads the gates as they stand in `t`, and nothing but these registers differs in the lanes other than `l`. -/
def gatesFollow (s t : State) (l : LaneId) : Prop :=
  gatesRead t ∧ (∀ k : LaneId, k ≠ l → (s.lane k).onlyRegs (t.lane k) [SECT_GOUTA, SECT_GOUTB]) ∧ t.pending = s.pending

/-- A committed edge sets its output's level and makes the next record current (R491, R493, R494); a store to SECT_NXTj_C
commits the staged record, at once where no record is current (R490, R491); SERVICE levels (R495); gates follow levels and
valid lines, and a valid line ends the trigger of no valid lane (R341), a valid line being that of a RUNNING or RAMP lane whose domain 5 is on (R496); a valid input that differs from
its gate is counted in every lane (R497). -/
def Obligations.SectionOutputs : Prop := ∀ (s : State) (l : LaneId) (j : Fin 48) (v : Word) (upper : Bool),
  let ln := s.lane l
  let o := ln.out j
  let rec' : BRec := ⟨(ln.crd .p (SECT_NXT_E j)).toInt, (ln.crd .p (SECT_NXT_N j)).toInt, v.extractLsb' 0 16, bit v 16⟩
  (∀ e, o.edge = some e → ∃ t, exec (.sectionEdge l j) s = .next t ∧ gatesFollow s t l ∧
    (let u := t.lane l
     u.lt = (ln.at e.1).lt ∧ u.sis (SECT_OSTAT_LEVEL j) = (e.2 && ln.outOn j) ∧
     (u.out j).lastEdge = some e.1 ∧ (u.out j).edge = none ∧ (u.out j).cur = o.next ∧ (u.out j).next = none ∧
     u.sis (SECT_OSTAT_CVALID j) = o.next.isSome ∧ (o.next ≠ none → u.sis (SECT_OSTAT_XEV j) = true) ∧
     ∀ i : Fin 48, i ≠ j → u.out i = ln.out i ∧ u.sis (SECT_OSTAT_LEVEL i) = ln.sis (SECT_OSTAT_LEVEL i))) ∧
  (o.edge = none → ∃ t, exec (.sectionEdge l j) s = .next t ∧ gatesFollow s t l ∧
    ln.onlyRegs (t.lane l) [SECT_GOUTA, SECT_GOUTB]) ∧
  (o.cur = none → Ends (.scheduleCommit l j v) s l (fun u => (u.out j).cur = some rec' ∧ (u.out j).next = none ∧
    u.sis (SECT_OSTAT_CVALID j) = true ∧ u.sis (SECT_OSTAT_NVALID j) = false ∧ u.sis (SECT_OSTAT_XEV j) = true)) ∧
  (∀ r, o.cur = some r → Ends (.scheduleCommit l j v) s l (fun u => (u.out j).cur = some r ∧ (u.out j).next = some rec' ∧
    (u.out j).edge = o.edge ∧ u.sis (SECT_OSTAT_NVALID j) = true)) ∧
  Ends (.scheduleCommit l j v) s l (fun u => (∀ i : Fin 48, i ≠ j → u.out i = ln.out i) ∧ u.regs = ln.regs ∧
    ∀ k : Copy, u.crd k (SECT_NXT_C j) = v &&& 0x1FFFF) ∧
  Ends (.sectionForce l upper v) s l (fun u => ∀ i, i < 48 → u.forced i =
    (if upper then (if 32 ≤ i then bit v (i - 32) else ln.forced i) else (if i < 32 then bit v i else ln.forced i))) ∧
  (∃ t, exec (.validLineChange l) s = .next t ∧ gatesRead t ∧ t.pending = s.pending ∧
    (∀ k : LaneId, (t.lane k).is STOP_STAT_NOLANE = true ↔ (s.lane k).is STOP_STAT_NOLANE = true ∧
      ∀ i : LaneId, (t.lane i).sect.line = false) ∧
    (∀ k : LaneId, (s.lane k).is STOP_STAT_NOLANE = false → k ≠ l → (s.lane k).onlyRegs (t.lane k) [SECT_GOUTA, SECT_GOUTB]) ∧
    ((t.lane l).sect.line = true ↔ ln.pwr.stage = .released ∧ (ln.lstate = lsRunning ∨ ln.lstate = lsRamp) ∧
      ln.domOn 5 = true ∧ ln.rj.demanded = false ∧ ln.rj.holding = false)) ∧
  (ln.sect.line = true → ln.sis (SECT_OSTAT_LEVEL j) ≠ gateOf s j → ∃ t, exec (.gateDisagreement j l) s = .next t ∧
    ∀ k : LaneId, countedUp (s.lane k) (t.lane k) (gdisF l) ∧ (s.lane k).onlyRegs (t.lane k) [SECT_GDIS] ∧
      (∀ i : LaneId, ((t.lane k).get SECT_GDIS_DIS).testBit i.idx =
        (((s.lane k).get SECT_GDIS_DIS).testBit i.idx || i == l))) ∧
  (ln.sect.line = false ∨ ln.sis (SECT_OSTAT_LEVEL j) = gateOf s j → exec (.gateDisagreement j l) s = .next s)
end

