-- ==== Sys2Proof/Laws/State.lean ====
section
/-!
SUPPORT. The small laws of State and of the sparse lists behind registers and memories.
-/

namespace Sys2Proof.Machine

open Sys2Proof

/-! ### Lanes of a state -/

@[simp] theorem State.lane_setLane_same (s : State) (l : LaneId) (v : Lane) : (s.setLane l v).lane l = { v with id := l } := by
  cases l <;> rfl

theorem State.lane_setLane_other (s : State) (l k : LaneId) (v : Lane) (h : k ≠ l) : (s.setLane l v).lane k = s.lane k := by
  cases l <;> cases k <;> first | rfl | exact absurd rfl h

@[simp] theorem State.pending_setLane (s : State) (l : LaneId) (v : Lane) : (s.setLane l v).pending = s.pending := by
  cases l <;> rfl

theorem State.placed_setLane (s : State) (l : LaneId) (v : Lane) (h : s.placed) : (s.setLane l v).placed := by
  obtain ⟨ha, hb, hc⟩ := h
  cases l <;> simp_all [State.placed, State.setLane]

/-! ### Sparse lists -/

variable {β : Type}

theorem sparseGet_drop_same (d : Nat → β) (l : List (Nat × β)) (a : Nat) : sparseGet d (sparseDrop l a) a = d a := by
  induction l with
  | nil => rfl
  | cons x t ih =>
    simp only [sparseDrop] at ih ⊢
    by_cases h : x.1 = a
    · simp [h, ih]
    · obtain ⟨k, w⟩ := x
      simp only at h
      simp [h, sparseGet, ih, Ne.symm h]

theorem sparseGet_drop_other (d : Nat → β) (l : List (Nat × β)) (a b : Nat) (hb : b ≠ a) :
    sparseGet d (sparseDrop l a) b = sparseGet d l b := by
  induction l with
  | nil => rfl
  | cons x t ih =>
    obtain ⟨k, w⟩ := x
    simp only [sparseDrop] at ih ⊢
    by_cases h : k = a
    · subst h
      simp [sparseGet, ih, hb]
    · simp [h, sparseGet, ih]

theorem sparseGet_ins_same (d : Nat → β) (l : List (Nat × β)) (a : Nat) (v : β) (h : ∀ x ∈ l, x.1 ≠ a) :
    sparseGet d (sparseIns l a v) a = v := by
  induction l with
  | nil => simp [sparseIns, sparseGet]
  | cons x t ih =>
    obtain ⟨k, w⟩ := x
    have hk : k ≠ a := h (k, w) (by simp)
    simp only [sparseIns]
    split
    · simp [sparseGet]
    · simp [sparseGet, Ne.symm hk, ih (fun y hy => h y (by simp [hy]))]

theorem sparseGet_ins_other (d : Nat → β) (l : List (Nat × β)) (a b : Nat) (v : β) (hb : b ≠ a) :
    sparseGet d (sparseIns l a v) b = sparseGet d l b := by
  induction l with
  | nil => simp [sparseIns, sparseGet, hb]
  | cons x t ih =>
    obtain ⟨k, w⟩ := x
    simp only [sparseIns]
    split
    · simp [sparseGet, hb]
    · simp [sparseGet, ih]

/-- Reading a key after setting it gives what was set. -/
@[simp] theorem sparseGet_put_same [DecidableEq β] (d : Nat → β) (l : List (Nat × β)) (a : Nat) (v : β) :
    sparseGet d (sparsePut d l a v) a = v := by
  unfold sparsePut
  split
  · rename_i h
    rw [sparseGet_drop_same, h]
  · exact sparseGet_ins_same _ _ _ _ (by simp [sparseDrop])

/-- Setting a key leaves every other key. -/
theorem sparseGet_put_other [DecidableEq β] (d : Nat → β) (l : List (Nat × β)) (a b : Nat) (v : β) (hb : b ≠ a) :
    sparseGet d (sparsePut d l a v) b = sparseGet d l b := by
  unfold sparsePut
  split
  · exact sparseGet_drop_other _ _ _ _ hb
  · rw [sparseGet_ins_other _ _ _ _ _ hb, sparseGet_drop_other _ _ _ _ hb]

end Sys2Proof.Machine
end

