-- ==== Sys2Proof/Laws/Helm.lean ====
section
/-!
SUPPORT. What the helm pair's shared operations do at an instruction boundary: the joint issue, an instruction that goes
on to the next, and an exception entry.
-/

namespace Sys2Proof.Machine

open Sys2Proof

theorem errBits_zero : errBits 0#39 = [] := by decide

/-- A word without wrong bits is read as it stands, and the lane does not change. -/
theorem Lane.loadMem_clean (ln : Lane) (m wadr : Nat) (h : ln.flipAt m wadr = 0) :
    ln.loadMem m wadr = (some (wordAt (ln.sram m).bytes (4 * wadr)), ln) := by
  simp [Lane.loadMem, Lane.readMem, h, errBits_zero]

/-- A fetch without an error leaves the lane to the instruction. -/
theorem Lane.fetch_clean (ln : Lane) (body : Lane → Lane) (h : ln.codeClean) : ln.fetch body = body ln := by
  obtain ⟨h1, h2, h3, h4⟩ := h
  simp [Lane.fetch, h1, h2, Lane.loadMem_clean _ _ _ h3, Lane.loadMem_clean _ _ _ h4]

/-- No wait ends while the pair runs. -/
theorem Lane.wakeHelm_running (ln : Lane) (h : ln.helm.run = .running) : ln.wakeHelm = ln := by
  simp [Lane.wakeHelm, h]

/-- The joint issue leaves the lane to the instruction where nothing comes before it. -/
theorem Lane.issueHelm_gate (ln : Lane) (i : HelmIssue) (held : Bool) (body : Lane → Lane) (h : ln.helmGate i held) :
    ln.issueHelm i held body = body ln := by
  obtain ⟨⟨h1, h2, h3, h4, h5⟩, h6, h8⟩ := h
  have h9 : ln.helmMay held = true := by simp [Lane.helmMay, Lane.helmRuns, h1, h2, h3, h4, h5]
  simp [Lane.issueHelm, Lane.wakeHelm_running ln h1, h9, h6, Lane.fetch_clean _ _ h8]

/-- A write to a general register leaves the pc and the count of retired instructions. -/
@[simp] theorem HelmCopy.wg_pc (c : HelmCopy) (r : Reg5) (v : Word) : (c.wg r v).pc = c.pc := by
  unfold HelmCopy.wg; split <;> rfl
@[simp] theorem HelmCopy.wg_retired (c : HelmCopy) (r : Reg5) (v : Word) : (c.wg r v).retired = c.retired := by
  unfold HelmCopy.wg; split <;> rfl

/-- A legal instruction that changes only its copies' registers goes on to the next one. -/
theorem Lane.plainInstr_ready (ln : Lane) (i : HelmIssue) (f : HelmCopy → HelmCopy) (h : ln.helmReady i false)
    (hp : ∀ c, (f c).pc = c.pc) (hr : ∀ c, (f c).retired = c.retired) : ln.plainInstr i false f = ln.goesOn i f := by
  have hb := h.2
  rw [Lane.plainInstr, Lane.issueHelm_gate _ _ _ _ h.1]
  have key : ∀ c : HelmCopy, HelmCopy.retire ((if c.takes i then f c else c).skip) = c.after i f := by
    intro c
    simp only [HelmCopy.retire, HelmCopy.skip, HelmCopy.after]
    split <;> simp [hp, hr]
  simp [hb, Lane.mapHelm, Lane.retireHelm, Pair.map, key, Lane.goesOn, Lane.afterHelm]

/-- An entry that can be made is the one that R93 describes. -/
theorem Lane.enterExc_can (ln : Lane) (code : Nat) (f : HelmCopy → HelmCopy) (h : ln.canEnter code) :
    ln.enterExc code f = ln.entersWith code f := by
  obtain ⟨h1, h2, h3⟩ := h
  have h4 : ¬ 3 ≤ ln.helm.depth := by omega
  simp only [Lane.enterExc, h4, if_false, h2, h3, Bool.not_true, Bool.or_self, Bool.false_eq_true]
  have key : ∀ c : HelmCopy, (f c).enter code = (f c).entered code := by
    intro c
    simp [HelmCopy.enter, HelmCopy.entered, HelmCopy.vector]
  simp [Lane.mapHelm, Lane.setDepth, Pair.map, key, Lane.entersWith, Lane.put, Lane.wr, Lane.rd]

/-- An instruction that breaks a rule of its encoding raises ILLEGAL, whatever its predicate (R69, R71). -/
theorem Lane.plainInstr_illegal (ln : Lane) (i : HelmIssue) (f : HelmCopy → HelmCopy) (h : ln.helmGate i false)
    (hc : ln.canEnter 1) : ln.plainInstr i true f = ln.enters 1 := by
  rw [Lane.plainInstr, Lane.issueHelm_gate _ _ _ _ h]
  simp [Lane.raiseBoth, Lane.raise, Lane.enters, Lane.enterExc_can _ _ _ hc]

end Sys2Proof.Machine
end

