-- ==== Sys2Proof/Laws/Drive.lean ====
section
/-!
SUPPORT. What the drive pair's shared operations do at a bundle boundary: the joint issue, a bundle without a memory
access, and a control bundle.
-/

namespace Sys2Proof.Machine

open Sys2Proof

/-- A fetch without an error leaves the lane to the bundle. -/
theorem Lane.fetchBundle_clean (ln : Lane) (body : Lane → Lane) (h : ln.bundleClean) : ln.fetchBundle body = body ln := by
  obtain ⟨h1, h2, h3, h4, h5, h6⟩ := h
  simp [Lane.fetchBundle, Nat.not_le.mpr h1, Nat.not_le.mpr h2, Lane.loadMem_clean _ _ _ h3, Lane.loadMem_clean _ _ _ h4,
    Lane.loadMem_clean _ _ _ h5, Lane.loadMem_clean _ _ _ h6]

/-- The joint issue leaves the lane to the bundle where nothing comes before it. -/
theorem Lane.issueDrive_ready (ln : Lane) (i : DriveIssue) (held : Bool) (body : Lane → Lane) (h : ln.driveReady i held) :
    ln.issueDrive i.agree held body = body ln := by
  obtain ⟨h1, h2, h3, h4, h5, h6⟩ := h
  have h9 : ln.driveMay held = true := by
    cases hl : ln.drv.lastHeld <;> cases held <;> simp_all [Lane.driveMay]
  simp [Lane.issueDrive, h9, h5, Lane.fetchBundle_clean _ _ h6]

/-- A legal bundle without a memory access has its effect in each copy in which the pass enables it. -/
theorem Lane.runBundle_plain (ln : Lane) (stg : BitVec 3) (m : SlotM) (illegal refused : DriveCopy → Bool)
    (write : Word → DriveCopy → DriveCopy) (hs : ln.stageOk stg)
    (hi : illegal ln.drv.c.p = false ∧ illegal ln.drv.c.s = false)
    (hr : (ln.drv.c.p.enabled stg.toNat = true → refused ln.drv.c.p = false) ∧
      (ln.drv.c.s.enabled stg.toNat = true → refused ln.drv.c.s = false))
    (hl : mLoads m = false) (hm : mStores m = false) :
    ln.runBundle stg.toNat m illegal refused write false = ln.bundles stg (write 0) := by
  obtain ⟨hs1, hs2⟩ := hs
  obtain ⟨hi1, hi2⟩ := hi
  obtain ⟨hr1, hr2⟩ := hr
  have e1 : (ln.drv.c.p.enabled stg.toNat && refused ln.drv.c.p) = false := by
    cases h : ln.drv.c.p.enabled stg.toNat <;> simp_all
  have e2 : (ln.drv.c.s.enabled stg.toNat && refused ln.drv.c.s) = false := by
    cases h : ln.drv.c.s.enabled stg.toNat <;> simp_all
  simp [Lane.runBundle, hs1, hs2, hi1, hi2, e1, e2, DriveCopy.badAccess, hl, hm, LoadRes.word, Lane.setDrv, Lane.retireDrive,
    Lane.bundles, Lane.afterBundle, DriveCopy.bundled]

/-- A control bundle that nothing forbids has its effect in both copies. -/
theorem Lane.controlBundle_ready (ln : Lane) (i : DriveIssue) (bad : DriveCopy → Option Nat) (f : DriveCopy → DriveCopy)
    (h : ln.driveReady i false) (hp : ln.drv.c.p.loop = none) (hs : ln.drv.c.s.loop = none)
    (bp : bad ln.drv.c.p = none) (bs : bad ln.drv.c.s = none) :
    ln.controlBundle i false bad f = ln.afterBundle ⟨f ln.drv.c.p, f ln.drv.c.s⟩ false := by
  rw [Lane.controlBundle, Lane.issueDrive_ready _ _ _ _ h]
  simp [hp, hs, bp, bs, Lane.mapDrv, Pair.map, Lane.retireDrive, Lane.afterBundle]

end Sys2Proof.Machine
end

