-- ==== Sys2Proof/Laws/Frame.lean ====
section
/-!
SUPPORT. The frame of the lane operations: one lemma per field of a lane and update that leaves it.
-/

namespace Sys2Proof.Machine

open Sys2Proof

/-! ### wr -/

@[simp] theorem Lane.wr_id (ln : Lane) (r : Reg) (v : Word) : (ln.wr r v).id = ln.id := rfl
@[simp] theorem Lane.wr_lt (ln : Lane) (r : Reg) (v : Word) : (ln.wr r v).lt = ln.lt := rfl
@[simp] theorem Lane.wr_cregs (ln : Lane) (r : Reg) (v : Word) : (ln.wr r v).cregs = ln.cregs := rfl
@[simp] theorem Lane.wr_pub (ln : Lane) (r : Reg) (v : Word) : (ln.wr r v).pub = ln.pub := rfl
@[simp] theorem Lane.wr_cpub (ln : Lane) (r : Reg) (v : Word) : (ln.wr r v).cpub = ln.cpub := rfl
@[simp] theorem Lane.wr_rdata (ln : Lane) (r : Reg) (v : Word) : (ln.wr r v).rdata = ln.rdata := rfl
@[simp] theorem Lane.wr_free (ln : Lane) (r : Reg) (v : Word) : (ln.wr r v).free = ln.free := rfl
@[simp] theorem Lane.wr_pwr (ln : Lane) (r : Reg) (v : Word) : (ln.wr r v).pwr = ln.pwr := rfl
@[simp] theorem Lane.wr_pace (ln : Lane) (r : Reg) (v : Word) : (ln.wr r v).pace = ln.pace := rfl
@[simp] theorem Lane.wr_helm (ln : Lane) (r : Reg) (v : Word) : (ln.wr r v).helm = ln.helm := rfl
@[simp] theorem Lane.wr_drv (ln : Lane) (r : Reg) (v : Word) : (ln.wr r v).drv = ln.drv := rfl
@[simp] theorem Lane.wr_pos (ln : Lane) (r : Reg) (v : Word) : (ln.wr r v).pos = ln.pos := rfl
@[simp] theorem Lane.wr_comm (ln : Lane) (r : Reg) (v : Word) : (ln.wr r v).comm = ln.comm := rfl
@[simp] theorem Lane.wr_loop (ln : Lane) (r : Reg) (v : Word) : (ln.wr r v).loop = ln.loop := rfl
@[simp] theorem Lane.wr_brdg (ln : Lane) (r : Reg) (v : Word) : (ln.wr r v).brdg = ln.brdg := rfl
@[simp] theorem Lane.wr_agr (ln : Lane) (r : Reg) (v : Word) : (ln.wr r v).agr = ln.agr := rfl
@[simp] theorem Lane.wr_rj (ln : Lane) (r : Reg) (v : Word) : (ln.wr r v).rj = ln.rj := rfl
@[simp] theorem Lane.wr_stop (ln : Lane) (r : Reg) (v : Word) : (ln.wr r v).stop = ln.stop := rfl
@[simp] theorem Lane.wr_mode (ln : Lane) (r : Reg) (v : Word) : (ln.wr r v).mode = ln.mode := rfl
@[simp] theorem Lane.wr_mem (ln : Lane) (r : Reg) (v : Word) : (ln.wr r v).mem = ln.mem := rfl
@[simp] theorem Lane.wr_wear (ln : Lane) (r : Reg) (v : Word) : (ln.wr r v).wear = ln.wear := rfl
@[simp] theorem Lane.wr_log (ln : Lane) (r : Reg) (v : Word) : (ln.wr r v).log = ln.log := rfl
@[simp] theorem Lane.wr_nv (ln : Lane) (r : Reg) (v : Word) : (ln.wr r v).nv = ln.nv := rfl
@[simp] theorem Lane.wr_upd (ln : Lane) (r : Reg) (v : Word) : (ln.wr r v).upd = ln.upd := rfl
@[simp] theorem Lane.wr_host (ln : Lane) (r : Reg) (v : Word) : (ln.wr r v).host = ln.host := rfl
@[simp] theorem Lane.wr_lay (ln : Lane) (r : Reg) (v : Word) : (ln.wr r v).lay = ln.lay := rfl
@[simp] theorem Lane.wr_can (ln : Lane) (r : Reg) (v : Word) : (ln.wr r v).can = ln.can := rfl
@[simp] theorem Lane.wr_gnss (ln : Lane) (r : Reg) (v : Word) : (ln.wr r v).gnss = ln.gnss := rfl
@[simp] theorem Lane.wr_track (ln : Lane) (r : Reg) (v : Word) : (ln.wr r v).track = ln.track := rfl
@[simp] theorem Lane.wr_sect (ln : Lane) (r : Reg) (v : Word) : (ln.wr r v).sect = ln.sect := rfl
@[simp] theorem Lane.wr_jtag (ln : Lane) (r : Reg) (v : Word) : (ln.wr r v).jtag = ln.jtag := rfl

/-! ### put -/

@[simp] theorem Lane.put_id (ln : Lane) (f : Field) (v : Nat) : (ln.put f v).id = ln.id := rfl
@[simp] theorem Lane.put_lt (ln : Lane) (f : Field) (v : Nat) : (ln.put f v).lt = ln.lt := rfl
@[simp] theorem Lane.put_cregs (ln : Lane) (f : Field) (v : Nat) : (ln.put f v).cregs = ln.cregs := rfl
@[simp] theorem Lane.put_pub (ln : Lane) (f : Field) (v : Nat) : (ln.put f v).pub = ln.pub := rfl
@[simp] theorem Lane.put_cpub (ln : Lane) (f : Field) (v : Nat) : (ln.put f v).cpub = ln.cpub := rfl
@[simp] theorem Lane.put_rdata (ln : Lane) (f : Field) (v : Nat) : (ln.put f v).rdata = ln.rdata := rfl
@[simp] theorem Lane.put_free (ln : Lane) (f : Field) (v : Nat) : (ln.put f v).free = ln.free := rfl
@[simp] theorem Lane.put_pwr (ln : Lane) (f : Field) (v : Nat) : (ln.put f v).pwr = ln.pwr := rfl
@[simp] theorem Lane.put_pace (ln : Lane) (f : Field) (v : Nat) : (ln.put f v).pace = ln.pace := rfl
@[simp] theorem Lane.put_helm (ln : Lane) (f : Field) (v : Nat) : (ln.put f v).helm = ln.helm := rfl
@[simp] theorem Lane.put_drv (ln : Lane) (f : Field) (v : Nat) : (ln.put f v).drv = ln.drv := rfl
@[simp] theorem Lane.put_pos (ln : Lane) (f : Field) (v : Nat) : (ln.put f v).pos = ln.pos := rfl
@[simp] theorem Lane.put_comm (ln : Lane) (f : Field) (v : Nat) : (ln.put f v).comm = ln.comm := rfl
@[simp] theorem Lane.put_loop (ln : Lane) (f : Field) (v : Nat) : (ln.put f v).loop = ln.loop := rfl
@[simp] theorem Lane.put_brdg (ln : Lane) (f : Field) (v : Nat) : (ln.put f v).brdg = ln.brdg := rfl
@[simp] theorem Lane.put_agr (ln : Lane) (f : Field) (v : Nat) : (ln.put f v).agr = ln.agr := rfl
@[simp] theorem Lane.put_rj (ln : Lane) (f : Field) (v : Nat) : (ln.put f v).rj = ln.rj := rfl
@[simp] theorem Lane.put_stop (ln : Lane) (f : Field) (v : Nat) : (ln.put f v).stop = ln.stop := rfl
@[simp] theorem Lane.put_mode (ln : Lane) (f : Field) (v : Nat) : (ln.put f v).mode = ln.mode := rfl
@[simp] theorem Lane.put_mem (ln : Lane) (f : Field) (v : Nat) : (ln.put f v).mem = ln.mem := rfl
@[simp] theorem Lane.put_wear (ln : Lane) (f : Field) (v : Nat) : (ln.put f v).wear = ln.wear := rfl
@[simp] theorem Lane.put_log (ln : Lane) (f : Field) (v : Nat) : (ln.put f v).log = ln.log := rfl
@[simp] theorem Lane.put_nv (ln : Lane) (f : Field) (v : Nat) : (ln.put f v).nv = ln.nv := rfl
@[simp] theorem Lane.put_upd (ln : Lane) (f : Field) (v : Nat) : (ln.put f v).upd = ln.upd := rfl
@[simp] theorem Lane.put_host (ln : Lane) (f : Field) (v : Nat) : (ln.put f v).host = ln.host := rfl
@[simp] theorem Lane.put_lay (ln : Lane) (f : Field) (v : Nat) : (ln.put f v).lay = ln.lay := rfl
@[simp] theorem Lane.put_can (ln : Lane) (f : Field) (v : Nat) : (ln.put f v).can = ln.can := rfl
@[simp] theorem Lane.put_gnss (ln : Lane) (f : Field) (v : Nat) : (ln.put f v).gnss = ln.gnss := rfl
@[simp] theorem Lane.put_track (ln : Lane) (f : Field) (v : Nat) : (ln.put f v).track = ln.track := rfl
@[simp] theorem Lane.put_sect (ln : Lane) (f : Field) (v : Nat) : (ln.put f v).sect = ln.sect := rfl
@[simp] theorem Lane.put_jtag (ln : Lane) (f : Field) (v : Nat) : (ln.put f v).jtag = ln.jtag := rfl

/-! ### putB -/

@[simp] theorem Lane.putB_id (ln : Lane) (f : Field) (b : Bool) : (ln.putB f b).id = ln.id := rfl
@[simp] theorem Lane.putB_lt (ln : Lane) (f : Field) (b : Bool) : (ln.putB f b).lt = ln.lt := rfl
@[simp] theorem Lane.putB_cregs (ln : Lane) (f : Field) (b : Bool) : (ln.putB f b).cregs = ln.cregs := rfl
@[simp] theorem Lane.putB_pub (ln : Lane) (f : Field) (b : Bool) : (ln.putB f b).pub = ln.pub := rfl
@[simp] theorem Lane.putB_cpub (ln : Lane) (f : Field) (b : Bool) : (ln.putB f b).cpub = ln.cpub := rfl
@[simp] theorem Lane.putB_rdata (ln : Lane) (f : Field) (b : Bool) : (ln.putB f b).rdata = ln.rdata := rfl
@[simp] theorem Lane.putB_free (ln : Lane) (f : Field) (b : Bool) : (ln.putB f b).free = ln.free := rfl
@[simp] theorem Lane.putB_pwr (ln : Lane) (f : Field) (b : Bool) : (ln.putB f b).pwr = ln.pwr := rfl
@[simp] theorem Lane.putB_pace (ln : Lane) (f : Field) (b : Bool) : (ln.putB f b).pace = ln.pace := rfl
@[simp] theorem Lane.putB_helm (ln : Lane) (f : Field) (b : Bool) : (ln.putB f b).helm = ln.helm := rfl
@[simp] theorem Lane.putB_drv (ln : Lane) (f : Field) (b : Bool) : (ln.putB f b).drv = ln.drv := rfl
@[simp] theorem Lane.putB_pos (ln : Lane) (f : Field) (b : Bool) : (ln.putB f b).pos = ln.pos := rfl
@[simp] theorem Lane.putB_comm (ln : Lane) (f : Field) (b : Bool) : (ln.putB f b).comm = ln.comm := rfl
@[simp] theorem Lane.putB_loop (ln : Lane) (f : Field) (b : Bool) : (ln.putB f b).loop = ln.loop := rfl
@[simp] theorem Lane.putB_brdg (ln : Lane) (f : Field) (b : Bool) : (ln.putB f b).brdg = ln.brdg := rfl
@[simp] theorem Lane.putB_agr (ln : Lane) (f : Field) (b : Bool) : (ln.putB f b).agr = ln.agr := rfl
@[simp] theorem Lane.putB_rj (ln : Lane) (f : Field) (b : Bool) : (ln.putB f b).rj = ln.rj := rfl
@[simp] theorem Lane.putB_stop (ln : Lane) (f : Field) (b : Bool) : (ln.putB f b).stop = ln.stop := rfl
@[simp] theorem Lane.putB_mode (ln : Lane) (f : Field) (b : Bool) : (ln.putB f b).mode = ln.mode := rfl
@[simp] theorem Lane.putB_mem (ln : Lane) (f : Field) (b : Bool) : (ln.putB f b).mem = ln.mem := rfl
@[simp] theorem Lane.putB_wear (ln : Lane) (f : Field) (b : Bool) : (ln.putB f b).wear = ln.wear := rfl
@[simp] theorem Lane.putB_log (ln : Lane) (f : Field) (b : Bool) : (ln.putB f b).log = ln.log := rfl
@[simp] theorem Lane.putB_nv (ln : Lane) (f : Field) (b : Bool) : (ln.putB f b).nv = ln.nv := rfl
@[simp] theorem Lane.putB_upd (ln : Lane) (f : Field) (b : Bool) : (ln.putB f b).upd = ln.upd := rfl
@[simp] theorem Lane.putB_host (ln : Lane) (f : Field) (b : Bool) : (ln.putB f b).host = ln.host := rfl
@[simp] theorem Lane.putB_lay (ln : Lane) (f : Field) (b : Bool) : (ln.putB f b).lay = ln.lay := rfl
@[simp] theorem Lane.putB_can (ln : Lane) (f : Field) (b : Bool) : (ln.putB f b).can = ln.can := rfl
@[simp] theorem Lane.putB_gnss (ln : Lane) (f : Field) (b : Bool) : (ln.putB f b).gnss = ln.gnss := rfl
@[simp] theorem Lane.putB_track (ln : Lane) (f : Field) (b : Bool) : (ln.putB f b).track = ln.track := rfl
@[simp] theorem Lane.putB_sect (ln : Lane) (f : Field) (b : Bool) : (ln.putB f b).sect = ln.sect := rfl
@[simp] theorem Lane.putB_jtag (ln : Lane) (f : Field) (b : Bool) : (ln.putB f b).jtag = ln.jtag := rfl

/-! ### on -/

@[simp] theorem Lane.on_id (ln : Lane) (f : Field) : (ln.on f).id = ln.id := rfl
@[simp] theorem Lane.on_lt (ln : Lane) (f : Field) : (ln.on f).lt = ln.lt := rfl
@[simp] theorem Lane.on_cregs (ln : Lane) (f : Field) : (ln.on f).cregs = ln.cregs := rfl
@[simp] theorem Lane.on_pub (ln : Lane) (f : Field) : (ln.on f).pub = ln.pub := rfl
@[simp] theorem Lane.on_cpub (ln : Lane) (f : Field) : (ln.on f).cpub = ln.cpub := rfl
@[simp] theorem Lane.on_rdata (ln : Lane) (f : Field) : (ln.on f).rdata = ln.rdata := rfl
@[simp] theorem Lane.on_free (ln : Lane) (f : Field) : (ln.on f).free = ln.free := rfl
@[simp] theorem Lane.on_pwr (ln : Lane) (f : Field) : (ln.on f).pwr = ln.pwr := rfl
@[simp] theorem Lane.on_pace (ln : Lane) (f : Field) : (ln.on f).pace = ln.pace := rfl
@[simp] theorem Lane.on_helm (ln : Lane) (f : Field) : (ln.on f).helm = ln.helm := rfl
@[simp] theorem Lane.on_drv (ln : Lane) (f : Field) : (ln.on f).drv = ln.drv := rfl
@[simp] theorem Lane.on_pos (ln : Lane) (f : Field) : (ln.on f).pos = ln.pos := rfl
@[simp] theorem Lane.on_comm (ln : Lane) (f : Field) : (ln.on f).comm = ln.comm := rfl
@[simp] theorem Lane.on_loop (ln : Lane) (f : Field) : (ln.on f).loop = ln.loop := rfl
@[simp] theorem Lane.on_brdg (ln : Lane) (f : Field) : (ln.on f).brdg = ln.brdg := rfl
@[simp] theorem Lane.on_agr (ln : Lane) (f : Field) : (ln.on f).agr = ln.agr := rfl
@[simp] theorem Lane.on_rj (ln : Lane) (f : Field) : (ln.on f).rj = ln.rj := rfl
@[simp] theorem Lane.on_stop (ln : Lane) (f : Field) : (ln.on f).stop = ln.stop := rfl
@[simp] theorem Lane.on_mode (ln : Lane) (f : Field) : (ln.on f).mode = ln.mode := rfl
@[simp] theorem Lane.on_mem (ln : Lane) (f : Field) : (ln.on f).mem = ln.mem := rfl
@[simp] theorem Lane.on_wear (ln : Lane) (f : Field) : (ln.on f).wear = ln.wear := rfl
@[simp] theorem Lane.on_log (ln : Lane) (f : Field) : (ln.on f).log = ln.log := rfl
@[simp] theorem Lane.on_nv (ln : Lane) (f : Field) : (ln.on f).nv = ln.nv := rfl
@[simp] theorem Lane.on_upd (ln : Lane) (f : Field) : (ln.on f).upd = ln.upd := rfl
@[simp] theorem Lane.on_host (ln : Lane) (f : Field) : (ln.on f).host = ln.host := rfl
@[simp] theorem Lane.on_lay (ln : Lane) (f : Field) : (ln.on f).lay = ln.lay := rfl
@[simp] theorem Lane.on_can (ln : Lane) (f : Field) : (ln.on f).can = ln.can := rfl
@[simp] theorem Lane.on_gnss (ln : Lane) (f : Field) : (ln.on f).gnss = ln.gnss := rfl
@[simp] theorem Lane.on_track (ln : Lane) (f : Field) : (ln.on f).track = ln.track := rfl
@[simp] theorem Lane.on_sect (ln : Lane) (f : Field) : (ln.on f).sect = ln.sect := rfl
@[simp] theorem Lane.on_jtag (ln : Lane) (f : Field) : (ln.on f).jtag = ln.jtag := rfl

/-! ### onIf -/

@[simp] theorem Lane.onIf_id (ln : Lane) (c : Bool) (f : Field) : (ln.onIf c f).id = ln.id := by cases c <;> rfl
@[simp] theorem Lane.onIf_lt (ln : Lane) (c : Bool) (f : Field) : (ln.onIf c f).lt = ln.lt := by cases c <;> rfl
@[simp] theorem Lane.onIf_cregs (ln : Lane) (c : Bool) (f : Field) : (ln.onIf c f).cregs = ln.cregs := by cases c <;> rfl
@[simp] theorem Lane.onIf_pub (ln : Lane) (c : Bool) (f : Field) : (ln.onIf c f).pub = ln.pub := by cases c <;> rfl
@[simp] theorem Lane.onIf_cpub (ln : Lane) (c : Bool) (f : Field) : (ln.onIf c f).cpub = ln.cpub := by cases c <;> rfl
@[simp] theorem Lane.onIf_rdata (ln : Lane) (c : Bool) (f : Field) : (ln.onIf c f).rdata = ln.rdata := by cases c <;> rfl
@[simp] theorem Lane.onIf_free (ln : Lane) (c : Bool) (f : Field) : (ln.onIf c f).free = ln.free := by cases c <;> rfl
@[simp] theorem Lane.onIf_pwr (ln : Lane) (c : Bool) (f : Field) : (ln.onIf c f).pwr = ln.pwr := by cases c <;> rfl
@[simp] theorem Lane.onIf_pace (ln : Lane) (c : Bool) (f : Field) : (ln.onIf c f).pace = ln.pace := by cases c <;> rfl
@[simp] theorem Lane.onIf_helm (ln : Lane) (c : Bool) (f : Field) : (ln.onIf c f).helm = ln.helm := by cases c <;> rfl
@[simp] theorem Lane.onIf_drv (ln : Lane) (c : Bool) (f : Field) : (ln.onIf c f).drv = ln.drv := by cases c <;> rfl
@[simp] theorem Lane.onIf_pos (ln : Lane) (c : Bool) (f : Field) : (ln.onIf c f).pos = ln.pos := by cases c <;> rfl
@[simp] theorem Lane.onIf_comm (ln : Lane) (c : Bool) (f : Field) : (ln.onIf c f).comm = ln.comm := by cases c <;> rfl
@[simp] theorem Lane.onIf_loop (ln : Lane) (c : Bool) (f : Field) : (ln.onIf c f).loop = ln.loop := by cases c <;> rfl
@[simp] theorem Lane.onIf_brdg (ln : Lane) (c : Bool) (f : Field) : (ln.onIf c f).brdg = ln.brdg := by cases c <;> rfl
@[simp] theorem Lane.onIf_agr (ln : Lane) (c : Bool) (f : Field) : (ln.onIf c f).agr = ln.agr := by cases c <;> rfl
@[simp] theorem Lane.onIf_rj (ln : Lane) (c : Bool) (f : Field) : (ln.onIf c f).rj = ln.rj := by cases c <;> rfl
@[simp] theorem Lane.onIf_stop (ln : Lane) (c : Bool) (f : Field) : (ln.onIf c f).stop = ln.stop := by cases c <;> rfl
@[simp] theorem Lane.onIf_mode (ln : Lane) (c : Bool) (f : Field) : (ln.onIf c f).mode = ln.mode := by cases c <;> rfl
@[simp] theorem Lane.onIf_mem (ln : Lane) (c : Bool) (f : Field) : (ln.onIf c f).mem = ln.mem := by cases c <;> rfl
@[simp] theorem Lane.onIf_wear (ln : Lane) (c : Bool) (f : Field) : (ln.onIf c f).wear = ln.wear := by cases c <;> rfl
@[simp] theorem Lane.onIf_log (ln : Lane) (c : Bool) (f : Field) : (ln.onIf c f).log = ln.log := by cases c <;> rfl
@[simp] theorem Lane.onIf_nv (ln : Lane) (c : Bool) (f : Field) : (ln.onIf c f).nv = ln.nv := by cases c <;> rfl
@[simp] theorem Lane.onIf_upd (ln : Lane) (c : Bool) (f : Field) : (ln.onIf c f).upd = ln.upd := by cases c <;> rfl
@[simp] theorem Lane.onIf_host (ln : Lane) (c : Bool) (f : Field) : (ln.onIf c f).host = ln.host := by cases c <;> rfl
@[simp] theorem Lane.onIf_lay (ln : Lane) (c : Bool) (f : Field) : (ln.onIf c f).lay = ln.lay := by cases c <;> rfl
@[simp] theorem Lane.onIf_can (ln : Lane) (c : Bool) (f : Field) : (ln.onIf c f).can = ln.can := by cases c <;> rfl
@[simp] theorem Lane.onIf_gnss (ln : Lane) (c : Bool) (f : Field) : (ln.onIf c f).gnss = ln.gnss := by cases c <;> rfl
@[simp] theorem Lane.onIf_track (ln : Lane) (c : Bool) (f : Field) : (ln.onIf c f).track = ln.track := by cases c <;> rfl
@[simp] theorem Lane.onIf_sect (ln : Lane) (c : Bool) (f : Field) : (ln.onIf c f).sect = ln.sect := by cases c <;> rfl
@[simp] theorem Lane.onIf_jtag (ln : Lane) (c : Bool) (f : Field) : (ln.onIf c f).jtag = ln.jtag := by cases c <;> rfl

/-! ### countUp -/

@[simp] theorem Lane.countUp_id (ln : Lane) (f : Field) : (ln.countUp f).id = ln.id := rfl
@[simp] theorem Lane.countUp_lt (ln : Lane) (f : Field) : (ln.countUp f).lt = ln.lt := rfl
@[simp] theorem Lane.countUp_cregs (ln : Lane) (f : Field) : (ln.countUp f).cregs = ln.cregs := rfl
@[simp] theorem Lane.countUp_pub (ln : Lane) (f : Field) : (ln.countUp f).pub = ln.pub := rfl
@[simp] theorem Lane.countUp_cpub (ln : Lane) (f : Field) : (ln.countUp f).cpub = ln.cpub := rfl
@[simp] theorem Lane.countUp_rdata (ln : Lane) (f : Field) : (ln.countUp f).rdata = ln.rdata := rfl
@[simp] theorem Lane.countUp_free (ln : Lane) (f : Field) : (ln.countUp f).free = ln.free := rfl
@[simp] theorem Lane.countUp_pwr (ln : Lane) (f : Field) : (ln.countUp f).pwr = ln.pwr := rfl
@[simp] theorem Lane.countUp_pace (ln : Lane) (f : Field) : (ln.countUp f).pace = ln.pace := rfl
@[simp] theorem Lane.countUp_helm (ln : Lane) (f : Field) : (ln.countUp f).helm = ln.helm := rfl
@[simp] theorem Lane.countUp_drv (ln : Lane) (f : Field) : (ln.countUp f).drv = ln.drv := rfl
@[simp] theorem Lane.countUp_pos (ln : Lane) (f : Field) : (ln.countUp f).pos = ln.pos := rfl
@[simp] theorem Lane.countUp_comm (ln : Lane) (f : Field) : (ln.countUp f).comm = ln.comm := rfl
@[simp] theorem Lane.countUp_loop (ln : Lane) (f : Field) : (ln.countUp f).loop = ln.loop := rfl
@[simp] theorem Lane.countUp_brdg (ln : Lane) (f : Field) : (ln.countUp f).brdg = ln.brdg := rfl
@[simp] theorem Lane.countUp_agr (ln : Lane) (f : Field) : (ln.countUp f).agr = ln.agr := rfl
@[simp] theorem Lane.countUp_rj (ln : Lane) (f : Field) : (ln.countUp f).rj = ln.rj := rfl
@[simp] theorem Lane.countUp_stop (ln : Lane) (f : Field) : (ln.countUp f).stop = ln.stop := rfl
@[simp] theorem Lane.countUp_mode (ln : Lane) (f : Field) : (ln.countUp f).mode = ln.mode := rfl
@[simp] theorem Lane.countUp_mem (ln : Lane) (f : Field) : (ln.countUp f).mem = ln.mem := rfl
@[simp] theorem Lane.countUp_wear (ln : Lane) (f : Field) : (ln.countUp f).wear = ln.wear := rfl
@[simp] theorem Lane.countUp_log (ln : Lane) (f : Field) : (ln.countUp f).log = ln.log := rfl
@[simp] theorem Lane.countUp_nv (ln : Lane) (f : Field) : (ln.countUp f).nv = ln.nv := rfl
@[simp] theorem Lane.countUp_upd (ln : Lane) (f : Field) : (ln.countUp f).upd = ln.upd := rfl
@[simp] theorem Lane.countUp_host (ln : Lane) (f : Field) : (ln.countUp f).host = ln.host := rfl
@[simp] theorem Lane.countUp_lay (ln : Lane) (f : Field) : (ln.countUp f).lay = ln.lay := rfl
@[simp] theorem Lane.countUp_can (ln : Lane) (f : Field) : (ln.countUp f).can = ln.can := rfl
@[simp] theorem Lane.countUp_gnss (ln : Lane) (f : Field) : (ln.countUp f).gnss = ln.gnss := rfl
@[simp] theorem Lane.countUp_track (ln : Lane) (f : Field) : (ln.countUp f).track = ln.track := rfl
@[simp] theorem Lane.countUp_sect (ln : Lane) (f : Field) : (ln.countUp f).sect = ln.sect := rfl
@[simp] theorem Lane.countUp_jtag (ln : Lane) (f : Field) : (ln.countUp f).jtag = ln.jtag := rfl

/-! ### cwr -/

@[simp] theorem Lane.cwr_id (ln : Lane) (c : Copy) (r : Reg) (v : Word) : (ln.cwr c r v).id = ln.id := by cases c <;> rfl
@[simp] theorem Lane.cwr_lt (ln : Lane) (c : Copy) (r : Reg) (v : Word) : (ln.cwr c r v).lt = ln.lt := by cases c <;> rfl
@[simp] theorem Lane.cwr_regs (ln : Lane) (c : Copy) (r : Reg) (v : Word) : (ln.cwr c r v).regs = ln.regs := by cases c <;> rfl
@[simp] theorem Lane.cwr_pub (ln : Lane) (c : Copy) (r : Reg) (v : Word) : (ln.cwr c r v).pub = ln.pub := by cases c <;> rfl
@[simp] theorem Lane.cwr_cpub (ln : Lane) (c : Copy) (r : Reg) (v : Word) : (ln.cwr c r v).cpub = ln.cpub := by cases c <;> rfl
@[simp] theorem Lane.cwr_rdata (ln : Lane) (c : Copy) (r : Reg) (v : Word) : (ln.cwr c r v).rdata = ln.rdata := by cases c <;> rfl
@[simp] theorem Lane.cwr_free (ln : Lane) (c : Copy) (r : Reg) (v : Word) : (ln.cwr c r v).free = ln.free := by cases c <;> rfl
@[simp] theorem Lane.cwr_pwr (ln : Lane) (c : Copy) (r : Reg) (v : Word) : (ln.cwr c r v).pwr = ln.pwr := by cases c <;> rfl
@[simp] theorem Lane.cwr_pace (ln : Lane) (c : Copy) (r : Reg) (v : Word) : (ln.cwr c r v).pace = ln.pace := by cases c <;> rfl
@[simp] theorem Lane.cwr_helm (ln : Lane) (c : Copy) (r : Reg) (v : Word) : (ln.cwr c r v).helm = ln.helm := by cases c <;> rfl
@[simp] theorem Lane.cwr_drv (ln : Lane) (c : Copy) (r : Reg) (v : Word) : (ln.cwr c r v).drv = ln.drv := by cases c <;> rfl
@[simp] theorem Lane.cwr_pos (ln : Lane) (c : Copy) (r : Reg) (v : Word) : (ln.cwr c r v).pos = ln.pos := by cases c <;> rfl
@[simp] theorem Lane.cwr_comm (ln : Lane) (c : Copy) (r : Reg) (v : Word) : (ln.cwr c r v).comm = ln.comm := by cases c <;> rfl
@[simp] theorem Lane.cwr_loop (ln : Lane) (c : Copy) (r : Reg) (v : Word) : (ln.cwr c r v).loop = ln.loop := by cases c <;> rfl
@[simp] theorem Lane.cwr_brdg (ln : Lane) (c : Copy) (r : Reg) (v : Word) : (ln.cwr c r v).brdg = ln.brdg := by cases c <;> rfl
@[simp] theorem Lane.cwr_agr (ln : Lane) (c : Copy) (r : Reg) (v : Word) : (ln.cwr c r v).agr = ln.agr := by cases c <;> rfl
@[simp] theorem Lane.cwr_rj (ln : Lane) (c : Copy) (r : Reg) (v : Word) : (ln.cwr c r v).rj = ln.rj := by cases c <;> rfl
@[simp] theorem Lane.cwr_stop (ln : Lane) (c : Copy) (r : Reg) (v : Word) : (ln.cwr c r v).stop = ln.stop := by cases c <;> rfl
@[simp] theorem Lane.cwr_mode (ln : Lane) (c : Copy) (r : Reg) (v : Word) : (ln.cwr c r v).mode = ln.mode := by cases c <;> rfl
@[simp] theorem Lane.cwr_mem (ln : Lane) (c : Copy) (r : Reg) (v : Word) : (ln.cwr c r v).mem = ln.mem := by cases c <;> rfl
@[simp] theorem Lane.cwr_wear (ln : Lane) (c : Copy) (r : Reg) (v : Word) : (ln.cwr c r v).wear = ln.wear := by cases c <;> rfl
@[simp] theorem Lane.cwr_log (ln : Lane) (c : Copy) (r : Reg) (v : Word) : (ln.cwr c r v).log = ln.log := by cases c <;> rfl
@[simp] theorem Lane.cwr_nv (ln : Lane) (c : Copy) (r : Reg) (v : Word) : (ln.cwr c r v).nv = ln.nv := by cases c <;> rfl
@[simp] theorem Lane.cwr_upd (ln : Lane) (c : Copy) (r : Reg) (v : Word) : (ln.cwr c r v).upd = ln.upd := by cases c <;> rfl
@[simp] theorem Lane.cwr_host (ln : Lane) (c : Copy) (r : Reg) (v : Word) : (ln.cwr c r v).host = ln.host := by cases c <;> rfl
@[simp] theorem Lane.cwr_lay (ln : Lane) (c : Copy) (r : Reg) (v : Word) : (ln.cwr c r v).lay = ln.lay := by cases c <;> rfl
@[simp] theorem Lane.cwr_can (ln : Lane) (c : Copy) (r : Reg) (v : Word) : (ln.cwr c r v).can = ln.can := by cases c <;> rfl
@[simp] theorem Lane.cwr_gnss (ln : Lane) (c : Copy) (r : Reg) (v : Word) : (ln.cwr c r v).gnss = ln.gnss := by cases c <;> rfl
@[simp] theorem Lane.cwr_track (ln : Lane) (c : Copy) (r : Reg) (v : Word) : (ln.cwr c r v).track = ln.track := by cases c <;> rfl
@[simp] theorem Lane.cwr_sect (ln : Lane) (c : Copy) (r : Reg) (v : Word) : (ln.cwr c r v).sect = ln.sect := by cases c <;> rfl
@[simp] theorem Lane.cwr_jtag (ln : Lane) (c : Copy) (r : Reg) (v : Word) : (ln.cwr c r v).jtag = ln.jtag := by cases c <;> rfl

/-! ### cput -/

@[simp] theorem Lane.cput_id (ln : Lane) (c : Copy) (f : Field) (v : Nat) : (ln.cput c f v).id = ln.id := Lane.cwr_id _ _ _ _
@[simp] theorem Lane.cput_lt (ln : Lane) (c : Copy) (f : Field) (v : Nat) : (ln.cput c f v).lt = ln.lt := Lane.cwr_lt _ _ _ _
@[simp] theorem Lane.cput_regs (ln : Lane) (c : Copy) (f : Field) (v : Nat) : (ln.cput c f v).regs = ln.regs := Lane.cwr_regs _ _ _ _
@[simp] theorem Lane.cput_pub (ln : Lane) (c : Copy) (f : Field) (v : Nat) : (ln.cput c f v).pub = ln.pub := Lane.cwr_pub _ _ _ _
@[simp] theorem Lane.cput_cpub (ln : Lane) (c : Copy) (f : Field) (v : Nat) : (ln.cput c f v).cpub = ln.cpub := Lane.cwr_cpub _ _ _ _
@[simp] theorem Lane.cput_rdata (ln : Lane) (c : Copy) (f : Field) (v : Nat) : (ln.cput c f v).rdata = ln.rdata := Lane.cwr_rdata _ _ _ _
@[simp] theorem Lane.cput_free (ln : Lane) (c : Copy) (f : Field) (v : Nat) : (ln.cput c f v).free = ln.free := Lane.cwr_free _ _ _ _
@[simp] theorem Lane.cput_pwr (ln : Lane) (c : Copy) (f : Field) (v : Nat) : (ln.cput c f v).pwr = ln.pwr := Lane.cwr_pwr _ _ _ _
@[simp] theorem Lane.cput_pace (ln : Lane) (c : Copy) (f : Field) (v : Nat) : (ln.cput c f v).pace = ln.pace := Lane.cwr_pace _ _ _ _
@[simp] theorem Lane.cput_helm (ln : Lane) (c : Copy) (f : Field) (v : Nat) : (ln.cput c f v).helm = ln.helm := Lane.cwr_helm _ _ _ _
@[simp] theorem Lane.cput_drv (ln : Lane) (c : Copy) (f : Field) (v : Nat) : (ln.cput c f v).drv = ln.drv := Lane.cwr_drv _ _ _ _
@[simp] theorem Lane.cput_pos (ln : Lane) (c : Copy) (f : Field) (v : Nat) : (ln.cput c f v).pos = ln.pos := Lane.cwr_pos _ _ _ _
@[simp] theorem Lane.cput_comm (ln : Lane) (c : Copy) (f : Field) (v : Nat) : (ln.cput c f v).comm = ln.comm := Lane.cwr_comm _ _ _ _
@[simp] theorem Lane.cput_loop (ln : Lane) (c : Copy) (f : Field) (v : Nat) : (ln.cput c f v).loop = ln.loop := Lane.cwr_loop _ _ _ _
@[simp] theorem Lane.cput_brdg (ln : Lane) (c : Copy) (f : Field) (v : Nat) : (ln.cput c f v).brdg = ln.brdg := Lane.cwr_brdg _ _ _ _
@[simp] theorem Lane.cput_agr (ln : Lane) (c : Copy) (f : Field) (v : Nat) : (ln.cput c f v).agr = ln.agr := Lane.cwr_agr _ _ _ _
@[simp] theorem Lane.cput_rj (ln : Lane) (c : Copy) (f : Field) (v : Nat) : (ln.cput c f v).rj = ln.rj := Lane.cwr_rj _ _ _ _
@[simp] theorem Lane.cput_stop (ln : Lane) (c : Copy) (f : Field) (v : Nat) : (ln.cput c f v).stop = ln.stop := Lane.cwr_stop _ _ _ _
@[simp] theorem Lane.cput_mode (ln : Lane) (c : Copy) (f : Field) (v : Nat) : (ln.cput c f v).mode = ln.mode := Lane.cwr_mode _ _ _ _
@[simp] theorem Lane.cput_mem (ln : Lane) (c : Copy) (f : Field) (v : Nat) : (ln.cput c f v).mem = ln.mem := Lane.cwr_mem _ _ _ _
@[simp] theorem Lane.cput_wear (ln : Lane) (c : Copy) (f : Field) (v : Nat) : (ln.cput c f v).wear = ln.wear := Lane.cwr_wear _ _ _ _
@[simp] theorem Lane.cput_log (ln : Lane) (c : Copy) (f : Field) (v : Nat) : (ln.cput c f v).log = ln.log := Lane.cwr_log _ _ _ _
@[simp] theorem Lane.cput_nv (ln : Lane) (c : Copy) (f : Field) (v : Nat) : (ln.cput c f v).nv = ln.nv := Lane.cwr_nv _ _ _ _
@[simp] theorem Lane.cput_upd (ln : Lane) (c : Copy) (f : Field) (v : Nat) : (ln.cput c f v).upd = ln.upd := Lane.cwr_upd _ _ _ _
@[simp] theorem Lane.cput_host (ln : Lane) (c : Copy) (f : Field) (v : Nat) : (ln.cput c f v).host = ln.host := Lane.cwr_host _ _ _ _
@[simp] theorem Lane.cput_lay (ln : Lane) (c : Copy) (f : Field) (v : Nat) : (ln.cput c f v).lay = ln.lay := Lane.cwr_lay _ _ _ _
@[simp] theorem Lane.cput_can (ln : Lane) (c : Copy) (f : Field) (v : Nat) : (ln.cput c f v).can = ln.can := Lane.cwr_can _ _ _ _
@[simp] theorem Lane.cput_gnss (ln : Lane) (c : Copy) (f : Field) (v : Nat) : (ln.cput c f v).gnss = ln.gnss := Lane.cwr_gnss _ _ _ _
@[simp] theorem Lane.cput_track (ln : Lane) (c : Copy) (f : Field) (v : Nat) : (ln.cput c f v).track = ln.track := Lane.cwr_track _ _ _ _
@[simp] theorem Lane.cput_sect (ln : Lane) (c : Copy) (f : Field) (v : Nat) : (ln.cput c f v).sect = ln.sect := Lane.cwr_sect _ _ _ _
@[simp] theorem Lane.cput_jtag (ln : Lane) (c : Copy) (f : Field) (v : Nat) : (ln.cput c f v).jtag = ln.jtag := Lane.cwr_jtag _ _ _ _

/-! ### cputBoth -/

@[simp] theorem Lane.cputBoth_id (ln : Lane) (f : Field) (v : Nat) : (ln.cputBoth f v).id = ln.id := by simp [Lane.cputBoth]
@[simp] theorem Lane.cputBoth_lt (ln : Lane) (f : Field) (v : Nat) : (ln.cputBoth f v).lt = ln.lt := by simp [Lane.cputBoth]
@[simp] theorem Lane.cputBoth_regs (ln : Lane) (f : Field) (v : Nat) : (ln.cputBoth f v).regs = ln.regs := by simp [Lane.cputBoth]
@[simp] theorem Lane.cputBoth_pub (ln : Lane) (f : Field) (v : Nat) : (ln.cputBoth f v).pub = ln.pub := by simp [Lane.cputBoth]
@[simp] theorem Lane.cputBoth_cpub (ln : Lane) (f : Field) (v : Nat) : (ln.cputBoth f v).cpub = ln.cpub := by simp [Lane.cputBoth]
@[simp] theorem Lane.cputBoth_rdata (ln : Lane) (f : Field) (v : Nat) : (ln.cputBoth f v).rdata = ln.rdata := by simp [Lane.cputBoth]
@[simp] theorem Lane.cputBoth_free (ln : Lane) (f : Field) (v : Nat) : (ln.cputBoth f v).free = ln.free := by simp [Lane.cputBoth]
@[simp] theorem Lane.cputBoth_pwr (ln : Lane) (f : Field) (v : Nat) : (ln.cputBoth f v).pwr = ln.pwr := by simp [Lane.cputBoth]
@[simp] theorem Lane.cputBoth_pace (ln : Lane) (f : Field) (v : Nat) : (ln.cputBoth f v).pace = ln.pace := by simp [Lane.cputBoth]
@[simp] theorem Lane.cputBoth_helm (ln : Lane) (f : Field) (v : Nat) : (ln.cputBoth f v).helm = ln.helm := by simp [Lane.cputBoth]
@[simp] theorem Lane.cputBoth_drv (ln : Lane) (f : Field) (v : Nat) : (ln.cputBoth f v).drv = ln.drv := by simp [Lane.cputBoth]
@[simp] theorem Lane.cputBoth_pos (ln : Lane) (f : Field) (v : Nat) : (ln.cputBoth f v).pos = ln.pos := by simp [Lane.cputBoth]
@[simp] theorem Lane.cputBoth_comm (ln : Lane) (f : Field) (v : Nat) : (ln.cputBoth f v).comm = ln.comm := by simp [Lane.cputBoth]
@[simp] theorem Lane.cputBoth_loop (ln : Lane) (f : Field) (v : Nat) : (ln.cputBoth f v).loop = ln.loop := by simp [Lane.cputBoth]
@[simp] theorem Lane.cputBoth_brdg (ln : Lane) (f : Field) (v : Nat) : (ln.cputBoth f v).brdg = ln.brdg := by simp [Lane.cputBoth]
@[simp] theorem Lane.cputBoth_agr (ln : Lane) (f : Field) (v : Nat) : (ln.cputBoth f v).agr = ln.agr := by simp [Lane.cputBoth]
@[simp] theorem Lane.cputBoth_rj (ln : Lane) (f : Field) (v : Nat) : (ln.cputBoth f v).rj = ln.rj := by simp [Lane.cputBoth]
@[simp] theorem Lane.cputBoth_stop (ln : Lane) (f : Field) (v : Nat) : (ln.cputBoth f v).stop = ln.stop := by simp [Lane.cputBoth]
@[simp] theorem Lane.cputBoth_mode (ln : Lane) (f : Field) (v : Nat) : (ln.cputBoth f v).mode = ln.mode := by simp [Lane.cputBoth]
@[simp] theorem Lane.cputBoth_mem (ln : Lane) (f : Field) (v : Nat) : (ln.cputBoth f v).mem = ln.mem := by simp [Lane.cputBoth]
@[simp] theorem Lane.cputBoth_wear (ln : Lane) (f : Field) (v : Nat) : (ln.cputBoth f v).wear = ln.wear := by simp [Lane.cputBoth]
@[simp] theorem Lane.cputBoth_log (ln : Lane) (f : Field) (v : Nat) : (ln.cputBoth f v).log = ln.log := by simp [Lane.cputBoth]
@[simp] theorem Lane.cputBoth_nv (ln : Lane) (f : Field) (v : Nat) : (ln.cputBoth f v).nv = ln.nv := by simp [Lane.cputBoth]
@[simp] theorem Lane.cputBoth_upd (ln : Lane) (f : Field) (v : Nat) : (ln.cputBoth f v).upd = ln.upd := by simp [Lane.cputBoth]
@[simp] theorem Lane.cputBoth_host (ln : Lane) (f : Field) (v : Nat) : (ln.cputBoth f v).host = ln.host := by simp [Lane.cputBoth]
@[simp] theorem Lane.cputBoth_lay (ln : Lane) (f : Field) (v : Nat) : (ln.cputBoth f v).lay = ln.lay := by simp [Lane.cputBoth]
@[simp] theorem Lane.cputBoth_can (ln : Lane) (f : Field) (v : Nat) : (ln.cputBoth f v).can = ln.can := by simp [Lane.cputBoth]
@[simp] theorem Lane.cputBoth_gnss (ln : Lane) (f : Field) (v : Nat) : (ln.cputBoth f v).gnss = ln.gnss := by simp [Lane.cputBoth]
@[simp] theorem Lane.cputBoth_track (ln : Lane) (f : Field) (v : Nat) : (ln.cputBoth f v).track = ln.track := by simp [Lane.cputBoth]
@[simp] theorem Lane.cputBoth_sect (ln : Lane) (f : Field) (v : Nat) : (ln.cputBoth f v).sect = ln.sect := by simp [Lane.cputBoth]
@[simp] theorem Lane.cputBoth_jtag (ln : Lane) (f : Field) (v : Nat) : (ln.cputBoth f v).jtag = ln.jtag := by simp [Lane.cputBoth]

/-! ### publish -/

@[simp] theorem Lane.publish_id (ln : Lane) (r : Reg) (k : Nat) (d : List (Reg × Word)) : (ln.publish r k d).id = ln.id := rfl
@[simp] theorem Lane.publish_lt (ln : Lane) (r : Reg) (k : Nat) (d : List (Reg × Word)) : (ln.publish r k d).lt = ln.lt := rfl
@[simp] theorem Lane.publish_regs (ln : Lane) (r : Reg) (k : Nat) (d : List (Reg × Word)) : (ln.publish r k d).regs = ln.regs := rfl
@[simp] theorem Lane.publish_cregs (ln : Lane) (r : Reg) (k : Nat) (d : List (Reg × Word)) : (ln.publish r k d).cregs = ln.cregs := rfl
@[simp] theorem Lane.publish_cpub (ln : Lane) (r : Reg) (k : Nat) (d : List (Reg × Word)) : (ln.publish r k d).cpub = ln.cpub := rfl
@[simp] theorem Lane.publish_rdata (ln : Lane) (r : Reg) (k : Nat) (d : List (Reg × Word)) : (ln.publish r k d).rdata = ln.rdata := rfl
@[simp] theorem Lane.publish_free (ln : Lane) (r : Reg) (k : Nat) (d : List (Reg × Word)) : (ln.publish r k d).free = ln.free := rfl
@[simp] theorem Lane.publish_pwr (ln : Lane) (r : Reg) (k : Nat) (d : List (Reg × Word)) : (ln.publish r k d).pwr = ln.pwr := rfl
@[simp] theorem Lane.publish_pace (ln : Lane) (r : Reg) (k : Nat) (d : List (Reg × Word)) : (ln.publish r k d).pace = ln.pace := rfl
@[simp] theorem Lane.publish_helm (ln : Lane) (r : Reg) (k : Nat) (d : List (Reg × Word)) : (ln.publish r k d).helm = ln.helm := rfl
@[simp] theorem Lane.publish_drv (ln : Lane) (r : Reg) (k : Nat) (d : List (Reg × Word)) : (ln.publish r k d).drv = ln.drv := rfl
@[simp] theorem Lane.publish_pos (ln : Lane) (r : Reg) (k : Nat) (d : List (Reg × Word)) : (ln.publish r k d).pos = ln.pos := rfl
@[simp] theorem Lane.publish_comm (ln : Lane) (r : Reg) (k : Nat) (d : List (Reg × Word)) : (ln.publish r k d).comm = ln.comm := rfl
@[simp] theorem Lane.publish_loop (ln : Lane) (r : Reg) (k : Nat) (d : List (Reg × Word)) : (ln.publish r k d).loop = ln.loop := rfl
@[simp] theorem Lane.publish_brdg (ln : Lane) (r : Reg) (k : Nat) (d : List (Reg × Word)) : (ln.publish r k d).brdg = ln.brdg := rfl
@[simp] theorem Lane.publish_agr (ln : Lane) (r : Reg) (k : Nat) (d : List (Reg × Word)) : (ln.publish r k d).agr = ln.agr := rfl
@[simp] theorem Lane.publish_rj (ln : Lane) (r : Reg) (k : Nat) (d : List (Reg × Word)) : (ln.publish r k d).rj = ln.rj := rfl
@[simp] theorem Lane.publish_stop (ln : Lane) (r : Reg) (k : Nat) (d : List (Reg × Word)) : (ln.publish r k d).stop = ln.stop := rfl
@[simp] theorem Lane.publish_mode (ln : Lane) (r : Reg) (k : Nat) (d : List (Reg × Word)) : (ln.publish r k d).mode = ln.mode := rfl
@[simp] theorem Lane.publish_mem (ln : Lane) (r : Reg) (k : Nat) (d : List (Reg × Word)) : (ln.publish r k d).mem = ln.mem := rfl
@[simp] theorem Lane.publish_wear (ln : Lane) (r : Reg) (k : Nat) (d : List (Reg × Word)) : (ln.publish r k d).wear = ln.wear := rfl
@[simp] theorem Lane.publish_log (ln : Lane) (r : Reg) (k : Nat) (d : List (Reg × Word)) : (ln.publish r k d).log = ln.log := rfl
@[simp] theorem Lane.publish_nv (ln : Lane) (r : Reg) (k : Nat) (d : List (Reg × Word)) : (ln.publish r k d).nv = ln.nv := rfl
@[simp] theorem Lane.publish_upd (ln : Lane) (r : Reg) (k : Nat) (d : List (Reg × Word)) : (ln.publish r k d).upd = ln.upd := rfl
@[simp] theorem Lane.publish_host (ln : Lane) (r : Reg) (k : Nat) (d : List (Reg × Word)) : (ln.publish r k d).host = ln.host := rfl
@[simp] theorem Lane.publish_lay (ln : Lane) (r : Reg) (k : Nat) (d : List (Reg × Word)) : (ln.publish r k d).lay = ln.lay := rfl
@[simp] theorem Lane.publish_can (ln : Lane) (r : Reg) (k : Nat) (d : List (Reg × Word)) : (ln.publish r k d).can = ln.can := rfl
@[simp] theorem Lane.publish_gnss (ln : Lane) (r : Reg) (k : Nat) (d : List (Reg × Word)) : (ln.publish r k d).gnss = ln.gnss := rfl
@[simp] theorem Lane.publish_track (ln : Lane) (r : Reg) (k : Nat) (d : List (Reg × Word)) : (ln.publish r k d).track = ln.track := rfl
@[simp] theorem Lane.publish_sect (ln : Lane) (r : Reg) (k : Nat) (d : List (Reg × Word)) : (ln.publish r k d).sect = ln.sect := rfl
@[simp] theorem Lane.publish_jtag (ln : Lane) (r : Reg) (k : Nat) (d : List (Reg × Word)) : (ln.publish r k d).jtag = ln.jtag := rfl

/-! ### at -/

@[simp] theorem Lane.at_id (ln : Lane) (t : LTime) : (ln.at t).id = ln.id := by unfold Lane.at; split <;> rfl
@[simp] theorem Lane.at_regs (ln : Lane) (t : LTime) : (ln.at t).regs = ln.regs := by unfold Lane.at; split <;> rfl
@[simp] theorem Lane.at_cregs (ln : Lane) (t : LTime) : (ln.at t).cregs = ln.cregs := by unfold Lane.at; split <;> rfl
@[simp] theorem Lane.at_pub (ln : Lane) (t : LTime) : (ln.at t).pub = ln.pub := by unfold Lane.at; split <;> rfl
@[simp] theorem Lane.at_cpub (ln : Lane) (t : LTime) : (ln.at t).cpub = ln.cpub := by unfold Lane.at; split <;> rfl
@[simp] theorem Lane.at_rdata (ln : Lane) (t : LTime) : (ln.at t).rdata = ln.rdata := by unfold Lane.at; split <;> rfl
@[simp] theorem Lane.at_free (ln : Lane) (t : LTime) : (ln.at t).free = ln.free := by unfold Lane.at; split <;> rfl
@[simp] theorem Lane.at_pwr (ln : Lane) (t : LTime) : (ln.at t).pwr = ln.pwr := by unfold Lane.at; split <;> rfl
@[simp] theorem Lane.at_pace (ln : Lane) (t : LTime) : (ln.at t).pace = ln.pace := by unfold Lane.at; split <;> rfl
@[simp] theorem Lane.at_helm (ln : Lane) (t : LTime) : (ln.at t).helm = ln.helm := by unfold Lane.at; split <;> rfl
@[simp] theorem Lane.at_drv (ln : Lane) (t : LTime) : (ln.at t).drv = ln.drv := by unfold Lane.at; split <;> rfl
@[simp] theorem Lane.at_pos (ln : Lane) (t : LTime) : (ln.at t).pos = ln.pos := by unfold Lane.at; split <;> rfl
@[simp] theorem Lane.at_comm (ln : Lane) (t : LTime) : (ln.at t).comm = ln.comm := by unfold Lane.at; split <;> rfl
@[simp] theorem Lane.at_loop (ln : Lane) (t : LTime) : (ln.at t).loop = ln.loop := by unfold Lane.at; split <;> rfl
@[simp] theorem Lane.at_brdg (ln : Lane) (t : LTime) : (ln.at t).brdg = ln.brdg := by unfold Lane.at; split <;> rfl
@[simp] theorem Lane.at_agr (ln : Lane) (t : LTime) : (ln.at t).agr = ln.agr := by unfold Lane.at; split <;> rfl
@[simp] theorem Lane.at_rj (ln : Lane) (t : LTime) : (ln.at t).rj = ln.rj := by unfold Lane.at; split <;> rfl
@[simp] theorem Lane.at_stop (ln : Lane) (t : LTime) : (ln.at t).stop = ln.stop := by unfold Lane.at; split <;> rfl
@[simp] theorem Lane.at_mode (ln : Lane) (t : LTime) : (ln.at t).mode = ln.mode := by unfold Lane.at; split <;> rfl
@[simp] theorem Lane.at_mem (ln : Lane) (t : LTime) : (ln.at t).mem = ln.mem := by unfold Lane.at; split <;> rfl
@[simp] theorem Lane.at_wear (ln : Lane) (t : LTime) : (ln.at t).wear = ln.wear := by unfold Lane.at; split <;> rfl
@[simp] theorem Lane.at_log (ln : Lane) (t : LTime) : (ln.at t).log = ln.log := by unfold Lane.at; split <;> rfl
@[simp] theorem Lane.at_nv (ln : Lane) (t : LTime) : (ln.at t).nv = ln.nv := by unfold Lane.at; split <;> rfl
@[simp] theorem Lane.at_upd (ln : Lane) (t : LTime) : (ln.at t).upd = ln.upd := by unfold Lane.at; split <;> rfl
@[simp] theorem Lane.at_host (ln : Lane) (t : LTime) : (ln.at t).host = ln.host := by unfold Lane.at; split <;> rfl
@[simp] theorem Lane.at_lay (ln : Lane) (t : LTime) : (ln.at t).lay = ln.lay := by unfold Lane.at; split <;> rfl
@[simp] theorem Lane.at_can (ln : Lane) (t : LTime) : (ln.at t).can = ln.can := by unfold Lane.at; split <;> rfl
@[simp] theorem Lane.at_gnss (ln : Lane) (t : LTime) : (ln.at t).gnss = ln.gnss := by unfold Lane.at; split <;> rfl
@[simp] theorem Lane.at_track (ln : Lane) (t : LTime) : (ln.at t).track = ln.track := by unfold Lane.at; split <;> rfl
@[simp] theorem Lane.at_sect (ln : Lane) (t : LTime) : (ln.at t).sect = ln.sect := by unfold Lane.at; split <;> rfl
@[simp] theorem Lane.at_jtag (ln : Lane) (t : LTime) : (ln.at t).jtag = ln.jtag := by unfold Lane.at; split <;> rfl

/-! ### logE -/

@[simp] theorem Lane.logE_id (ln : Lane) (k : Nat) (a : Word) (n : Nat) (b : Word) : (ln.logE k a n b).id = ln.id := by unfold Lane.logE; dsimp only; split <;> rfl
@[simp] theorem Lane.logE_lt (ln : Lane) (k : Nat) (a : Word) (n : Nat) (b : Word) : (ln.logE k a n b).lt = ln.lt := by unfold Lane.logE; dsimp only; split <;> rfl
@[simp] theorem Lane.logE_cregs (ln : Lane) (k : Nat) (a : Word) (n : Nat) (b : Word) : (ln.logE k a n b).cregs = ln.cregs := by unfold Lane.logE; dsimp only; split <;> rfl
@[simp] theorem Lane.logE_pub (ln : Lane) (k : Nat) (a : Word) (n : Nat) (b : Word) : (ln.logE k a n b).pub = ln.pub := by unfold Lane.logE; dsimp only; split <;> rfl
@[simp] theorem Lane.logE_cpub (ln : Lane) (k : Nat) (a : Word) (n : Nat) (b : Word) : (ln.logE k a n b).cpub = ln.cpub := by unfold Lane.logE; dsimp only; split <;> rfl
@[simp] theorem Lane.logE_rdata (ln : Lane) (k : Nat) (a : Word) (n : Nat) (b : Word) : (ln.logE k a n b).rdata = ln.rdata := by unfold Lane.logE; dsimp only; split <;> rfl
@[simp] theorem Lane.logE_free (ln : Lane) (k : Nat) (a : Word) (n : Nat) (b : Word) : (ln.logE k a n b).free = ln.free := by unfold Lane.logE; dsimp only; split <;> rfl
@[simp] theorem Lane.logE_pwr (ln : Lane) (k : Nat) (a : Word) (n : Nat) (b : Word) : (ln.logE k a n b).pwr = ln.pwr := by unfold Lane.logE; dsimp only; split <;> rfl
@[simp] theorem Lane.logE_pace (ln : Lane) (k : Nat) (a : Word) (n : Nat) (b : Word) : (ln.logE k a n b).pace = ln.pace := by unfold Lane.logE; dsimp only; split <;> rfl
@[simp] theorem Lane.logE_helm (ln : Lane) (k : Nat) (a : Word) (n : Nat) (b : Word) : (ln.logE k a n b).helm = ln.helm := by unfold Lane.logE; dsimp only; split <;> rfl
@[simp] theorem Lane.logE_drv (ln : Lane) (k : Nat) (a : Word) (n : Nat) (b : Word) : (ln.logE k a n b).drv = ln.drv := by unfold Lane.logE; dsimp only; split <;> rfl
@[simp] theorem Lane.logE_pos (ln : Lane) (k : Nat) (a : Word) (n : Nat) (b : Word) : (ln.logE k a n b).pos = ln.pos := by unfold Lane.logE; dsimp only; split <;> rfl
@[simp] theorem Lane.logE_comm (ln : Lane) (k : Nat) (a : Word) (n : Nat) (b : Word) : (ln.logE k a n b).comm = ln.comm := by unfold Lane.logE; dsimp only; split <;> rfl
@[simp] theorem Lane.logE_loop (ln : Lane) (k : Nat) (a : Word) (n : Nat) (b : Word) : (ln.logE k a n b).loop = ln.loop := by unfold Lane.logE; dsimp only; split <;> rfl
@[simp] theorem Lane.logE_brdg (ln : Lane) (k : Nat) (a : Word) (n : Nat) (b : Word) : (ln.logE k a n b).brdg = ln.brdg := by unfold Lane.logE; dsimp only; split <;> rfl
@[simp] theorem Lane.logE_agr (ln : Lane) (k : Nat) (a : Word) (n : Nat) (b : Word) : (ln.logE k a n b).agr = ln.agr := by unfold Lane.logE; dsimp only; split <;> rfl
@[simp] theorem Lane.logE_rj (ln : Lane) (k : Nat) (a : Word) (n : Nat) (b : Word) : (ln.logE k a n b).rj = ln.rj := by unfold Lane.logE; dsimp only; split <;> rfl
@[simp] theorem Lane.logE_stop (ln : Lane) (k : Nat) (a : Word) (n : Nat) (b : Word) : (ln.logE k a n b).stop = ln.stop := by unfold Lane.logE; dsimp only; split <;> rfl
@[simp] theorem Lane.logE_mode (ln : Lane) (k : Nat) (a : Word) (n : Nat) (b : Word) : (ln.logE k a n b).mode = ln.mode := by unfold Lane.logE; dsimp only; split <;> rfl
@[simp] theorem Lane.logE_mem (ln : Lane) (k : Nat) (a : Word) (n : Nat) (b : Word) : (ln.logE k a n b).mem = ln.mem := by unfold Lane.logE; dsimp only; split <;> rfl
@[simp] theorem Lane.logE_wear (ln : Lane) (k : Nat) (a : Word) (n : Nat) (b : Word) : (ln.logE k a n b).wear = ln.wear := by unfold Lane.logE; dsimp only; split <;> rfl
@[simp] theorem Lane.logE_nv (ln : Lane) (k : Nat) (a : Word) (n : Nat) (b : Word) : (ln.logE k a n b).nv = ln.nv := by unfold Lane.logE; dsimp only; split <;> rfl
@[simp] theorem Lane.logE_upd (ln : Lane) (k : Nat) (a : Word) (n : Nat) (b : Word) : (ln.logE k a n b).upd = ln.upd := by unfold Lane.logE; dsimp only; split <;> rfl
@[simp] theorem Lane.logE_host (ln : Lane) (k : Nat) (a : Word) (n : Nat) (b : Word) : (ln.logE k a n b).host = ln.host := by unfold Lane.logE; dsimp only; split <;> rfl
@[simp] theorem Lane.logE_lay (ln : Lane) (k : Nat) (a : Word) (n : Nat) (b : Word) : (ln.logE k a n b).lay = ln.lay := by unfold Lane.logE; dsimp only; split <;> rfl
@[simp] theorem Lane.logE_can (ln : Lane) (k : Nat) (a : Word) (n : Nat) (b : Word) : (ln.logE k a n b).can = ln.can := by unfold Lane.logE; dsimp only; split <;> rfl
@[simp] theorem Lane.logE_gnss (ln : Lane) (k : Nat) (a : Word) (n : Nat) (b : Word) : (ln.logE k a n b).gnss = ln.gnss := by unfold Lane.logE; dsimp only; split <;> rfl
@[simp] theorem Lane.logE_track (ln : Lane) (k : Nat) (a : Word) (n : Nat) (b : Word) : (ln.logE k a n b).track = ln.track := by unfold Lane.logE; dsimp only; split <;> rfl
@[simp] theorem Lane.logE_sect (ln : Lane) (k : Nat) (a : Word) (n : Nat) (b : Word) : (ln.logE k a n b).sect = ln.sect := by unfold Lane.logE; dsimp only; split <;> rfl
@[simp] theorem Lane.logE_jtag (ln : Lane) (k : Nat) (a : Word) (n : Nat) (b : Word) : (ln.logE k a n b).jtag = ln.jtag := by unfold Lane.logE; dsimp only; split <;> rfl

/-! ### logR -/

@[simp] theorem Lane.logR_id (ln : Lane) (k : Nat) (r : Reg) (n : Nat) : (ln.logR k r n).id = ln.id := Lane.logE_id _ _ _ _ _
@[simp] theorem Lane.logR_lt (ln : Lane) (k : Nat) (r : Reg) (n : Nat) : (ln.logR k r n).lt = ln.lt := Lane.logE_lt _ _ _ _ _
@[simp] theorem Lane.logR_cregs (ln : Lane) (k : Nat) (r : Reg) (n : Nat) : (ln.logR k r n).cregs = ln.cregs := Lane.logE_cregs _ _ _ _ _
@[simp] theorem Lane.logR_pub (ln : Lane) (k : Nat) (r : Reg) (n : Nat) : (ln.logR k r n).pub = ln.pub := Lane.logE_pub _ _ _ _ _
@[simp] theorem Lane.logR_cpub (ln : Lane) (k : Nat) (r : Reg) (n : Nat) : (ln.logR k r n).cpub = ln.cpub := Lane.logE_cpub _ _ _ _ _
@[simp] theorem Lane.logR_rdata (ln : Lane) (k : Nat) (r : Reg) (n : Nat) : (ln.logR k r n).rdata = ln.rdata := Lane.logE_rdata _ _ _ _ _
@[simp] theorem Lane.logR_free (ln : Lane) (k : Nat) (r : Reg) (n : Nat) : (ln.logR k r n).free = ln.free := Lane.logE_free _ _ _ _ _
@[simp] theorem Lane.logR_pwr (ln : Lane) (k : Nat) (r : Reg) (n : Nat) : (ln.logR k r n).pwr = ln.pwr := Lane.logE_pwr _ _ _ _ _
@[simp] theorem Lane.logR_pace (ln : Lane) (k : Nat) (r : Reg) (n : Nat) : (ln.logR k r n).pace = ln.pace := Lane.logE_pace _ _ _ _ _
@[simp] theorem Lane.logR_helm (ln : Lane) (k : Nat) (r : Reg) (n : Nat) : (ln.logR k r n).helm = ln.helm := Lane.logE_helm _ _ _ _ _
@[simp] theorem Lane.logR_drv (ln : Lane) (k : Nat) (r : Reg) (n : Nat) : (ln.logR k r n).drv = ln.drv := Lane.logE_drv _ _ _ _ _
@[simp] theorem Lane.logR_pos (ln : Lane) (k : Nat) (r : Reg) (n : Nat) : (ln.logR k r n).pos = ln.pos := Lane.logE_pos _ _ _ _ _
@[simp] theorem Lane.logR_comm (ln : Lane) (k : Nat) (r : Reg) (n : Nat) : (ln.logR k r n).comm = ln.comm := Lane.logE_comm _ _ _ _ _
@[simp] theorem Lane.logR_loop (ln : Lane) (k : Nat) (r : Reg) (n : Nat) : (ln.logR k r n).loop = ln.loop := Lane.logE_loop _ _ _ _ _
@[simp] theorem Lane.logR_brdg (ln : Lane) (k : Nat) (r : Reg) (n : Nat) : (ln.logR k r n).brdg = ln.brdg := Lane.logE_brdg _ _ _ _ _
@[simp] theorem Lane.logR_agr (ln : Lane) (k : Nat) (r : Reg) (n : Nat) : (ln.logR k r n).agr = ln.agr := Lane.logE_agr _ _ _ _ _
@[simp] theorem Lane.logR_rj (ln : Lane) (k : Nat) (r : Reg) (n : Nat) : (ln.logR k r n).rj = ln.rj := Lane.logE_rj _ _ _ _ _
@[simp] theorem Lane.logR_stop (ln : Lane) (k : Nat) (r : Reg) (n : Nat) : (ln.logR k r n).stop = ln.stop := Lane.logE_stop _ _ _ _ _
@[simp] theorem Lane.logR_mode (ln : Lane) (k : Nat) (r : Reg) (n : Nat) : (ln.logR k r n).mode = ln.mode := Lane.logE_mode _ _ _ _ _
@[simp] theorem Lane.logR_mem (ln : Lane) (k : Nat) (r : Reg) (n : Nat) : (ln.logR k r n).mem = ln.mem := Lane.logE_mem _ _ _ _ _
@[simp] theorem Lane.logR_wear (ln : Lane) (k : Nat) (r : Reg) (n : Nat) : (ln.logR k r n).wear = ln.wear := Lane.logE_wear _ _ _ _ _
@[simp] theorem Lane.logR_nv (ln : Lane) (k : Nat) (r : Reg) (n : Nat) : (ln.logR k r n).nv = ln.nv := Lane.logE_nv _ _ _ _ _
@[simp] theorem Lane.logR_upd (ln : Lane) (k : Nat) (r : Reg) (n : Nat) : (ln.logR k r n).upd = ln.upd := Lane.logE_upd _ _ _ _ _
@[simp] theorem Lane.logR_host (ln : Lane) (k : Nat) (r : Reg) (n : Nat) : (ln.logR k r n).host = ln.host := Lane.logE_host _ _ _ _ _
@[simp] theorem Lane.logR_lay (ln : Lane) (k : Nat) (r : Reg) (n : Nat) : (ln.logR k r n).lay = ln.lay := Lane.logE_lay _ _ _ _ _
@[simp] theorem Lane.logR_can (ln : Lane) (k : Nat) (r : Reg) (n : Nat) : (ln.logR k r n).can = ln.can := Lane.logE_can _ _ _ _ _
@[simp] theorem Lane.logR_gnss (ln : Lane) (k : Nat) (r : Reg) (n : Nat) : (ln.logR k r n).gnss = ln.gnss := Lane.logE_gnss _ _ _ _ _
@[simp] theorem Lane.logR_track (ln : Lane) (k : Nat) (r : Reg) (n : Nat) : (ln.logR k r n).track = ln.track := Lane.logE_track _ _ _ _ _
@[simp] theorem Lane.logR_sect (ln : Lane) (k : Nat) (r : Reg) (n : Nat) : (ln.logR k r n).sect = ln.sect := Lane.logE_sect _ _ _ _ _
@[simp] theorem Lane.logR_jtag (ln : Lane) (k : Nat) (r : Reg) (n : Nat) : (ln.logR k r n).jtag = ln.jtag := Lane.logE_jtag _ _ _ _ _

end Sys2Proof.Machine
end

