-- ==== Sys2Proof/Laws/Sparse.lean ====
section
/-!
SUPPORT. Every operation on a sparse list keeps its canonical form.
-/

namespace Sys2Proof.Machine

open Sys2Proof

variable {β : Type} [DecidableEq β]

/-- A lower bound may be lowered. -/
theorem sparseWfFrom_mono (d : Nat → β) (l : List (Nat × β)) (b : Nat) (o : Option Nat)
    (h : sparseWfFrom d (some b) l = true) (ho : ∀ c, o = some c → c ≤ b) : sparseWfFrom d o l = true := by
  cases l with
  | nil => rfl
  | cons x t =>
    obtain ⟨k, w⟩ := x
    simp only [sparseWfFrom, Bool.and_eq_true, decide_eq_true_eq] at h ⊢
    obtain ⟨⟨h1, h2⟩, h3⟩ := h
    refine ⟨⟨?_, h2⟩, h3⟩
    cases o with
    | none => rfl
    | some c => simp only [decide_eq_true_eq]; exact Nat.lt_of_le_of_lt (ho c rfl) h1

theorem sparseWfFrom_drop (d : Nat → β) (l : List (Nat × β)) (a : Nat) (o : Option Nat)
    (h : sparseWfFrom d o l = true) : sparseWfFrom d o (sparseDrop l a) = true := by
  induction l generalizing o with
  | nil => rfl
  | cons x t ih =>
    obtain ⟨k, w⟩ := x
    simp only [sparseWfFrom, Bool.and_eq_true] at h
    obtain ⟨⟨h1, h2⟩, h3⟩ := h
    by_cases hk : k = a
    · subst hk
      have h4 := ih _ h3
      simp only [sparseDrop, List.filter_cons, bne_self_eq_false, Bool.false_eq_true, if_false] at h4 ⊢
      refine sparseWfFrom_mono d _ k o h4 ?_
      intro c hc
      subst hc
      simp only [decide_eq_true_eq] at h1
      omega
    · have h4 := ih _ h3
      simp only [sparseDrop] at h4
      simp only [sparseDrop, List.filter_cons, bne_iff_ne, ne_eq, hk, not_false_eq_true, if_true, sparseWfFrom,
        Bool.and_eq_true]
      exact ⟨⟨h1, h2⟩, h4⟩

theorem sparseWfFrom_ins (d : Nat → β) (l : List (Nat × β)) (a : Nat) (v : β) (o : Option Nat)
    (h : sparseWfFrom d o l = true) (hv : v ≠ d a) (hn : ∀ x ∈ l, x.1 ≠ a) (ho : ∀ c, o = some c → c < a) :
    sparseWfFrom d o (sparseIns l a v) = true := by
  induction l generalizing o with
  | nil =>
    simp only [sparseIns, sparseWfFrom, Bool.and_eq_true, Bool.not_eq_true', decide_eq_false_iff_not, and_true]
    refine ⟨?_, hv⟩
    cases o with
    | none => rfl
    | some c => simp only [decide_eq_true_eq]; exact ho c rfl
  | cons x t ih =>
    obtain ⟨k, w⟩ := x
    simp only [sparseWfFrom, Bool.and_eq_true] at h
    obtain ⟨⟨h1, h2⟩, h3⟩ := h
    have hk : k ≠ a := hn (k, w) (by simp)
    simp only [sparseIns]
    split
    · rename_i hlt
      simp only [sparseWfFrom, Bool.and_eq_true, Bool.not_eq_true', decide_eq_false_iff_not, decide_eq_true_eq]
      refine ⟨⟨?_, hv⟩, ⟨⟨hlt, ?_⟩, h3⟩⟩
      · cases o with
        | none => rfl
        | some c => simp only [decide_eq_true_eq]; exact ho c rfl
      · simpa using h2
    · simp only [sparseWfFrom, Bool.and_eq_true]
      refine ⟨⟨h1, h2⟩, ih _ h3 (fun y hy => hn y (by simp [hy])) ?_⟩
      intro c hc
      simp only [Option.some.injEq] at hc
      omega

/-- Setting a key keeps the canonical form. -/
theorem sparsePut_wf (d : Nat → β) (l : List (Nat × β)) (a : Nat) (v : β) (h : sparseWf d l = true) :
    sparseWf d (sparsePut d l a v) = true := by
  unfold sparseWf sparsePut at *
  split
  · exact sparseWfFrom_drop _ _ _ _ h
  · rename_i hv
    exact sparseWfFrom_ins _ _ _ _ _ (sparseWfFrom_drop _ _ _ _ h) hv (by simp [sparseDrop]) (by simp)

/-- Storing a byte keeps a memory's canonical form. -/
theorem putByte_wf (m : List Host.Cell) (a : Nat) (v : Byte) (h : memWf m = true) : memWf (putByte m a v) = true :=
  sparsePut_wf _ _ _ _ h

/-- Storing a word under byte enables keeps it. -/
theorem putWord_wf (m : List Host.Cell) (a : Nat) (v : Word) (be : BitVec 4) (h : memWf m = true) :
    memWf (putWord m a v be) = true := by
  unfold putWord
  dsimp only
  repeat' split
  all_goals first | exact h | (repeat' (first | exact h | apply putByte_wf))

/-- A register write keeps a register file's canonical form. -/
theorem rfPut_wf (f : RegFile) (r : Reg) (v : Word) (h : rfWf f = true) : rfWf (rfPut f r v) = true :=
  sparsePut_wf _ _ _ _ h

/-! ### Bytes read back -/

@[simp] theorem byteAt_putByte_same (m : List Host.Cell) (a : Nat) (v : Byte) : byteAt (putByte m a v) a = v :=
  sparseGet_put_same _ _ _ _

theorem byteAt_putByte_other (m : List Host.Cell) (a b : Nat) (v : Byte) (h : b ≠ a) :
    byteAt (putByte m a v) b = byteAt m b := sparseGet_put_other _ _ _ _ _ h

/-- A byte outside a stored word reads as before. -/
theorem byteAt_putWord_other (m : List Host.Cell) (a b : Nat) (v : Word) (be : BitVec 4) (h : b < a ∨ a + 3 < b) :
    byteAt (putWord m a v be) b = byteAt m b := by
  unfold putWord
  dsimp only
  repeat' split
  all_goals repeat' (first | rfl | rw [byteAt_putByte_other _ _ _ _ (by omega)])

/-- A byte that is stored only where a condition holds. -/
theorem byteAt_putByte_if (c : Bool) (m : List Host.Cell) (x a : Nat) (v : Byte) :
    byteAt (if c then putByte m x v else m) a = if c = true ∧ a = x then v else byteAt m a := by
  cases c
  · simp
  · by_cases h : a = x
    · subst h; simp
    · simp [h, byteAt_putByte_other]

/-- Every byte of memory after a word is stored under byte enables. -/
theorem byteAt_putWord (m : List Host.Cell) (b a : Nat) (v : Word) (be : BitVec 4) :
   byteAt (putWord m b v be) a = if b ≤ a ∧ a < b + 4 ∧ be.getLsbD (a - b) = true then v.extractLsb' (8 * (a - b)) 8 else byteAt m a := by
  unfold putWord
  dsimp only
  rw [byteAt_putByte_if, byteAt_putByte_if, byteAt_putByte_if, byteAt_putByte_if]
  by_cases h : b ≤ a ∧ a < b + 4
  · obtain ⟨k, rfl⟩ : ∃ k, a = b + k := ⟨a - b, by omega⟩
    have hk : k = 0 ∨ k = 1 ∨ k = 2 ∨ k = 3 := by omega
    have e : b + k - b = k := by omega
    rw [e]
    rcases hk with rfl | rfl | rfl | rfl
    · cases hb : be.getLsbD 0 <;> simp
    · cases hb : be.getLsbD 1 <;> simp
    · cases hb : be.getLsbD 2 <;> simp
    · cases hb : be.getLsbD 3 <;> simp
  · have n0 : a ≠ b := by omega
    have n1 : a ≠ b + 1 := by omega
    have n2 : a ≠ b + 2 := by omega
    have n3 : a ≠ b + 3 := by omega
    have n4 : ¬ (b ≤ a ∧ a < b + 4 ∧ be.getLsbD (a - b) = true) := fun h' => h ⟨h'.1, h'.2.1⟩
    simp only [n0, n1, n2, n3, n4, and_false, if_false]

end Sys2Proof.Machine
end

