-- ==== Sys2Proof/Laws/Regs.lean ====
section
/-!
SUPPORT. The laws of registers and fields: what a read gives after a write, field by field.
-/

namespace Sys2Proof.Machine

open Sys2Proof

/-! ### Bits of a word -/

theorem testBit_bits (w : Word) (hi lo i : Nat) :
    (bits w hi lo).testBit i = (decide (i < hi + 1 - lo) && w.getLsbD (lo + i)) := by
  simp [bits, Nat.testBit_mod_two_pow, Nat.testBit_shiftRight, BitVec.getLsbD]

theorem getLsbD_setBits (w : Word) (hi lo v j : Nat) (hj : j < 32) :
    (setBits w hi lo v).getLsbD j = if lo ≤ j ∧ j < hi + 1 then v.testBit (j - lo) else w.getLsbD j := by
  simp only [setBits, BitVec.getLsbD_or, BitVec.getLsbD_and, BitVec.getLsbD_not, BitVec.getLsbD_ofNat, hj, decide_true,
    Bool.true_and, Nat.testBit_shiftLeft, Nat.testBit_two_pow_sub_one, Nat.testBit_mod_two_pow]
  by_cases h1 : lo ≤ j <;> by_cases h2 : j < hi + 1
  · have h3 : j - lo < hi + 1 - lo := by omega
    simp [h1, h2, h3]
  · have h3 : ¬ (j - lo < hi + 1 - lo) := by omega
    simp [h2, h3]
  · simp [h1]
  · simp [h1]

/-- A field reads what was put into it. -/
theorem bits_setBits_same (w : Word) (hi lo v : Nat) (h : hi < 32) (hl : lo ≤ hi) :
    bits (setBits w hi lo v) hi lo = v % 2 ^ (hi + 1 - lo) := by
  apply Nat.eq_of_testBit_eq
  intro i
  rw [testBit_bits, Nat.testBit_mod_two_pow]
  by_cases hi' : i < hi + 1 - lo
  · rw [getLsbD_setBits _ _ _ _ _ (by omega)]
    have h1 : lo ≤ lo + i ∧ lo + i < hi + 1 := by omega
    simp [hi', h1]
  · simp [hi']

/-- A field that does not overlap keeps its value. -/
theorem bits_setBits_other (w : Word) (hi lo v hi' lo' : Nat) (h : hi' < 32) (hd : hi < lo' ∨ hi' < lo) :
    bits (setBits w hi lo v) hi' lo' = bits w hi' lo' := by
  apply Nat.eq_of_testBit_eq
  intro i
  rw [testBit_bits, testBit_bits]
  by_cases hi2 : i < hi' + 1 - lo'
  · rw [getLsbD_setBits _ _ _ _ _ (by omega)]
    have h1 : ¬ (lo ≤ lo' + i ∧ lo' + i < hi + 1) := by omega
    simp only [h1, if_false]
  · simp [hi2]

/-! ### Register files -/

@[simp] theorem rfGet_put_same (f : RegFile) (r : Reg) (v : Word) : rfGet (rfPut f r v) r = v := sparseGet_put_same _ _ _ _

theorem rfGet_put_other (f : RegFile) (r q : Reg) (v : Word) (h : q ≠ r) : rfGet (rfPut f r v) q = rfGet f q :=
  sparseGet_put_other _ _ _ _ _ h

@[simp] theorem Lane.rd_wr_same (ln : Lane) (r : Reg) (v : Word) : (ln.wr r v).rd r = v := rfGet_put_same _ _ _

theorem Lane.rd_wr_other (ln : Lane) (r q : Reg) (v : Word) (h : q ≠ r) : (ln.wr r v).rd q = ln.rd q :=
  rfGet_put_other _ _ _ _ h

/-! ### Fields -/

theorem Lane.rd_putB_other (ln : Lane) (f : Field) (b : Bool) (r : Reg) (h : r ≠ f.reg) : (ln.putB f b).rd r = ln.rd r :=
  Lane.rd_wr_other _ _ _ _ h

theorem Lane.get_put_same (ln : Lane) (f : Field) (v : Nat) (h : f.hi < 32) (hl : f.lo ≤ f.hi) :
    (ln.put f v).get f = v % 2 ^ (f.hi + 1 - f.lo) := by
  unfold Lane.put Lane.get
  rw [Lane.rd_wr_same]
  exact bits_setBits_same _ _ _ _ h hl

theorem Lane.get_put_other (ln : Lane) (f g : Field) (v : Nat) (hg : g.hi < 32)
    (h : g.reg ≠ f.reg ∨ f.hi < g.lo ∨ g.hi < f.lo) : (ln.put f v).get g = ln.get g := by
  unfold Lane.put Lane.get
  by_cases hr : g.reg = f.reg
  · rw [hr, Lane.rd_wr_same]
    exact bits_setBits_other _ _ _ _ _ _ hg (by rcases h with h | h; exact absurd hr h; exact h)
  · rw [Lane.rd_wr_other _ _ _ _ hr]

theorem Lane.rd_put_other (ln : Lane) (f : Field) (v : Nat) (q : Reg) (h : q ≠ f.reg) : (ln.put f v).rd q = ln.rd q :=
  Lane.rd_wr_other _ _ _ _ h

/-! ### Registers held once per copy -/

theorem Lane.crd_cwr_same (ln : Lane) (c : Copy) (r : Reg) (v : Word) : (ln.cwr c r v).crd c r = v := by
  cases c <;> exact rfGet_put_same _ _ _

theorem Lane.crd_cwr_other (ln : Lane) (c : Copy) (r q : Reg) (v : Word) (h : q ≠ r) : (ln.cwr c r v).crd c q = ln.crd c q := by
  cases c <;> exact rfGet_put_other _ _ _ _ h

theorem Lane.crd_cwr_copy (ln : Lane) (c k : Copy) (r q : Reg) (v : Word) (h : k ≠ c) : (ln.cwr c r v).crd k q = ln.crd k q := by
  cases c <;> cases k <;> first | rfl | exact absurd rfl h

theorem Lane.cget_cput_same (ln : Lane) (c : Copy) (f : Field) (v : Nat) (h : f.hi < 32) (hl : f.lo ≤ f.hi) :
    (ln.cput c f v).cget c f = v % 2 ^ (f.hi + 1 - f.lo) := by
  unfold Lane.cput Lane.cget
  rw [Lane.crd_cwr_same]
  exact bits_setBits_same _ _ _ _ h hl

end Sys2Proof.Machine
end

