-- ==== Sys2Proof/Laws/Withdraw.lean ====
section
/-!
SUPPORT. What logging an event, stopping the engines and a withdrawal do to a lane.
-/

namespace Sys2Proof.Machine

open Sys2Proof

/-- Logging an event changes no register but LOG_LOST. -/
theorem Lane.rd_logE (ln : Lane) (c : Nat) (d0 : Word) (d1 : Nat) (d2 : Word) (r : Reg) (h : r ≠ LOG_LOST) : (ln.logE c d0 d1 d2).rd r = ln.rd r := by
  unfold Lane.logE
  dsimp only
  split
  · rfl
  · exact rfGet_put_other _ _ _ _ h

/-- The buffer with an event holds it and what it held. -/
theorem mem_insertEvent (e x : LogEvent) : ∀ l, x ∈ insertEvent e l ↔ x = e ∨ x ∈ l := by
  intro l
  induction l with
  | nil => simp [insertEvent]
  | cons y t ih => unfold insertEvent; split <;> simp [ih, or_left_comm]

/-- Logging loses no event of the buffer. -/
theorem Lane.mem_logE (ln : Lane) (c : Nat) (d0 : Word) (d1 : Nat) (d2 : Word) (e : LogEvent) (h : e ∈ ln.log.buf) : e ∈ (ln.logE c d0 d1 d2).log.buf := by
  unfold Lane.logE
  dsimp only
  split
  · simp [mem_insertEvent, h]
  · exact h

/-- The state becomes the one set. -/
theorem Lane.lstate_setLstate (u : Lane) (st : Nat) (h : st < 8) : (u.setLstate st).lstate = st := by
  have key : ∀ v : Lane, ((v.put TALLY_STAT_LSTATE st).permits).lstate = st := by
    intro v
    simp only [Lane.permits, Lane.lstate, Lane.putB]
    rw [Lane.get_put_other _ _ _ _ (by decide) (by decide), Lane.get_put_other _ _ _ _ (by decide) (by decide), Lane.get_put_same _ _ _ (by decide) (by decide)]
    exact Nat.mod_eq_of_lt (Nat.lt_of_lt_of_le h (by decide))
  exact key _

/-- Setting the state changes no unit but the Lay buffers, and no register but TALLY_STAT and STOP_STAT. -/
theorem Lane.setLstate_frame (u : Lane) (st : Nat) : (u.setLstate st).drv = u.drv ∧ (u.setLstate st).helm = u.helm ∧ (u.setLstate st).log = u.log ∧
   (∀ r, r ∉ [TALLY_STAT, STOP_STAT] → (u.setLstate st).rd r = u.rd r) := by
  unfold Lane.setLstate
  split <;> refine ⟨?_, ?_, ?_, ?_⟩ <;> first | (simp [Lane.permits, Lane.beginHeld]; done) | skip
  all_goals
    intro r hr
    simp only [List.mem_cons, List.not_mem_nil, or_false, not_or] at hr
    refine (Lane.rd_putB_other _ STOP_STAT_PBRK _ r hr.2).trans ((Lane.rd_putB_other _ STOP_STAT_PINH _ r hr.2).trans ((Lane.rd_put_other _ TALLY_STAT_LSTATE _ r hr.1).trans rfl))

/-- Both pairs stop, their hold queues are empty, and only LCTL_DSTAT changes beside them. -/
theorem Lane.stopEngines_spec (u : Lane) : u.stopEngines.drv.run = .stopped ∧ u.stopEngines.helm.run = .stopped ∧ u.stopEngines.drv.c.p.hold = [] ∧ u.stopEngines.drv.c.s.hold = [] ∧
   u.stopEngines.lt = u.lt ∧ u.stopEngines.rj = u.rj ∧ u.stopEngines.log = u.log ∧ u.stopEngines.agr = u.agr ∧ (∀ r, r ≠ LCTL_DSTAT → u.stopEngines.rd r = u.rd r) := by
  unfold Lane.stopEngines
  refine ⟨rfl, rfl, rfl, rfl, rfl, rfl, rfl, rfl, ?_⟩
  intro r hr
  exact (Lane.rd_put_other _ LCTL_DSTAT_WAIT _ r hr).trans ((Lane.rd_put_other _ LCTL_DSTAT_RUN _ r hr).trans rfl)

/-- The record of a withdrawal: engines stopped, events kept, the registers of the record alone changed. -/
theorem Lane.recordWithdrawal_spec (u : Lane) (code detail : Nat) : (u.recordWithdrawal code detail).drv = u.stopEngines.drv ∧ (u.recordWithdrawal code detail).helm = u.stopEngines.helm ∧
   (u.recordWithdrawal code detail).lt = u.lt ∧ (u.recordWithdrawal code detail).rj.times = u.rj.times ∧ (u.recordWithdrawal code detail).agr = u.agr ∧
   (∀ e ∈ u.log.buf, e ∈ (u.recordWithdrawal code detail).log.buf) ∧ (∀ r, r ∉ [LCTL_DSTAT, TALLY_WCAUSE, LOG_LOST, STOP_HB_OUT.reg] → (u.recordWithdrawal code detail).rd r = u.rd r) := by
  obtain ⟨h1, h2, h3, h4, h5, h6, h7, h8, h9⟩ := Lane.stopEngines_spec u
  refine ⟨?_, ?_, ?_, ?_, ?_, ?_, ?_⟩
  · simp [Lane.recordWithdrawal]
  · simp [Lane.recordWithdrawal]
  · simp [Lane.recordWithdrawal, h5]
  · simp [Lane.recordWithdrawal, h6]
  · simp [Lane.recordWithdrawal, h8]
  · intro e he
    simp only [Lane.recordWithdrawal, Lane.put_log, Lane.logR]
    apply Lane.mem_logE
    rw [← h7] at he; exact he
  · intro r hr
    simp only [List.mem_cons, List.not_mem_nil, or_false, not_or] at hr
    obtain ⟨n1, n2, n3, n4⟩ := hr
    show (((((u.stopEngines.put TALLY_WCAUSE_CODE code).put TALLY_WCAUSE_DETAIL detail).put TALLY_WCAUSE_FRAME (u.stopEngines.frame16.toNat)).logR 0x23 TALLY_WCAUSE 0).put STOP_HB_OUT 0).rd r = _
    unfold Lane.logR
    rw [Lane.rd_put_other _ STOP_HB_OUT _ r n4, Lane.rd_logE _ _ _ _ _ _ n3, Lane.rd_put_other _ TALLY_WCAUSE_FRAME _ r n2, Lane.rd_put_other _ TALLY_WCAUSE_DETAIL _ r n2, Lane.rd_put_other _ TALLY_WCAUSE_CODE _ r n2, h9 r n1]

/-- A running lane with fewer than three withdrawals in the last minute becomes withdrawn (R330, R333). -/
theorem Lane.withdraw_running (u : Lane) (code detail : Nat) (h : isRunning u.lstate = true) (hc : barringCode code = false)
    (ht : (u.rj.times.filter (fun t => decide ((u.lt - t).toNat ≤ 480000000000))).length < 3) :
    u.withdraw code detail = (u.leaveState code detail false).setLstate lsWithdrawn := by
  have e4 : (u.leaveState code detail false).rj.times = u.lt :: recentTimes u.lt u.rj.times := by
    obtain ⟨-, -, a, b, -⟩ := Lane.recordWithdrawal_spec u.markGone code detail
    show (u.markGone.recordWithdrawal code detail).lt :: recentTimes (u.markGone.recordWithdrawal code detail).lt (u.markGone.recordWithdrawal code detail).rj.times = _
    rw [a, b]; rfl
  have hl : ¬ 4 ≤ (u.leaveState code detail false).rj.times.length := by
    rw [e4]
    have : (recentTimes u.lt u.rj.times).length < 3 := ht
    simp only [List.length_cons]; omega
  have hr : u.lstate = 1 ∨ u.lstate = 5 := by simpa [isRunning, lsRunning, lsRamp] using h
  unfold Lane.withdraw
  rcases hr with e | e <;> simp [e, lsAbsent, lsWithdrawn, lsBarred, lsResync, lsShadow, hc, hl]

/-- Leaving the running state stops the engines and changes only the registers of the record. -/
theorem Lane.leaveState_spec (u : Lane) (code detail : Nat) : (u.leaveState code detail false).drv = u.stopEngines.drv ∧ (u.leaveState code detail false).helm = u.stopEngines.helm ∧
   (∀ e ∈ u.log.buf, e ∈ (u.leaveState code detail false).log.buf) ∧ (∀ r, r ∉ [LCTL_DSTAT, TALLY_WCAUSE, LOG_LOST, STOP_HB_OUT.reg, TALLY_STAT] → (u.leaveState code detail false).rd r = u.rd r) := by
  obtain ⟨a1, a2, a3, a4, a5, a6, a7⟩ := Lane.recordWithdrawal_spec u.markGone code detail
  refine ⟨a1.trans rfl, a2.trans rfl, a6, ?_⟩
  intro r hr
  simp only [List.mem_cons, List.not_mem_nil, or_false, not_or] at hr
  have : (u.leaveState code detail false).rd r = (u.markGone.recordWithdrawal code detail).rd r := by
    have n := hr.2.2.2.2
    exact (Lane.rd_put_other _ TALLY_STAT_RESYNC _ r n).trans ((Lane.rd_put_other _ TALLY_STAT_ATT _ r n).trans ((Lane.rd_put_other _ TALLY_STAT_WDN _ r n).trans rfl))
  rw [this, a7 r (by simp [hr])]; rfl

end Sys2Proof.Machine
end

