-- ==== Sys2Proof/Tests/Slice0.lean ====
section
/-!
SUPPORT. The author's own tests: ill-formed commands that the check refuses, words of the spec, single steps on small
states, and for each statement of Obligations.lean with hypotheses a state and operands that meet them together
(`witness_<Name>`, one theorem for each group of clauses). Every test state is the state after reset with the few fields
that the test needs.
-/

set_option maxRecDepth 100000
set_option Elab.async false

namespace Sys2Proof.Tests

open Sys2Proof Sys2Proof.Machine

/-! ### Helpers -/

/-- Lane A after its start-up: released, all of its domains on, its gate supply up. -/
def lane0 : Lane :=
  { State.reset.a.put BRDG_STAT_UVLO 0 with
    pwr := { State.reset.a.pwr with stage := .released, phase := Vector.replicate 8 .on } }

/-- The module whose lane A is `u`, the other lanes as after reset. -/
def st (u : Lane) : State := State.reset.setLane .a u

/-- The module whose three lanes are `u` at their own places. -/
def all (u : Lane) : State := ((State.reset.setLane .a u).setLane .b u).setLane .c u

/-- Lane A after a command; `u` itself where the command does not answer a next state. -/
def after (c : Instr) (u : Lane) : Lane :=
  match exec c (st u) with
  | .next t => t.a
  | _ => u

/-- A helm copy with two registers set. -/
def copyWith (r1 : Nat) (v1 : Word) (r2 : Nat) (v2 : Word) : HelmCopy :=
  { HelmCopy.reset with g := vset (vset HelmCopy.reset.g r1 v1) r2 v2 }

/-- Lane A whose helm pair runs, both copies `c`. -/
def helm (c : HelmCopy) : Lane := { lane0 with helm := { lane0.helm with run := .running, c := ⟨c, c⟩ } }

/-- The issue of a helm instruction of lane A, with no predicate. -/
def hi : HelmIssue := ⟨.a, false, 0, true, 0⟩

/-- Lane A whose drive pair runs, both copies `d`. -/
def drive (d : DriveCopy) : Lane := { lane0 with drv := { lane0.drv with run := .running, c := ⟨d, d⟩ } }

/-- The issue of a drive bundle of lane A. -/
def di : DriveIssue := ⟨.a, true⟩

/-- A drive copy with one register set. -/
def driveWith (r : Nat) (v : Word) : DriveCopy := { DriveCopy.reset with w := vset DriveCopy.reset.w r v }

/-! ### Well-formedness: an ill-formed command for each check -/

theorem illformed_predicate : wellFormed (.add ⟨.a, true, 0, true, 0⟩ 1 2 3) = false := by decide
theorem illformed_unused_register : wellFormed (.abs hi 1 2 3) = false ∧ wellFormed (.clr hi false 1 0 0) = false ∧
    wellFormed (.mac hi false 1 2 3) = false ∧ wellFormed (.exs hi false 1 2 3) = false ∧ wellFormed (.exq hi false 1 2 0) = false ∧
    wellFormed (.jr hi 1 2 0 0) = false ∧ wellFormed (.jalr hi 1 2 3 0) = false ∧ wellFormed (.mfq hi 1 2 0) = false ∧
    wellFormed (.mtq hi 1 2 0) = false ∧ wellFormed (.oril hi 1 0x4000) = false := by decide
theorem illformed_predicate_destination : wellFormed (.cmp hi 0 1 2 0 0) = false ∧ wellFormed (.cmpi hi 1 2 7 0) = false ∧
    wellFormed (.cmpi hi 0 2 0 0) = false ∧ wellFormed (.qand hi 0 1 2 0) = false ∧ wellFormed (.qor hi 1 1 2 1) = false ∧
    wellFormed (.cmp hi 1 1 2 0 1) = false := by decide
theorem illformed_control : wellFormed (.mfcs hi 1 8 0 0) = false ∧ wellFormed (.mtcs hi 1 0 0 0) = false ∧
    wellFormed (.trap hi 0 0x100) = false ∧ wellFormed (.trap hi 1 0) = false ∧ wellFormed (.eret hi 1) = false ∧
    wellFormed (.fence hi 1) = false ∧ wellFormed (.wfe hi 1) = false := by decide
theorem illformed_slots : slotLegal ⟨0, 1, 0, 0⟩ = false ∧ slotLegal ⟨0x08, 1, 1, 32⟩ = false ∧ slotLegal ⟨0x0D, 1, 1, 1⟩ = false ∧
    slotLegal ⟨0x10, 0, 1, 1⟩ = false ∧ slotLegal ⟨0x13, 4, 1, 1⟩ = false ∧ slotLegal ⟨0x17, 1, 4, 0⟩ = false ∧
    slotLegal ⟨0x18, 1, 4, 0⟩ = false ∧ slotLegal ⟨0x19, 0, 1, 0⟩ = false ∧ slotLegal ⟨0x1A, 0, 49, 16⟩ = false ∧
    slotLegal ⟨0x1B, 63, 0, 1⟩ = false ∧ slotLegal ⟨0x1D, 0, 0, 0⟩ = false := by decide
theorem illformed_memory_slots : slotMLegal ⟨0, 1, 0⟩ = false ∧ slotMLegal ⟨0xB, 0, 6⟩ = false ∧ slotMLegal ⟨0xC, 1, 1⟩ = false ∧
    slotMLegal ⟨0xD, 1, 0⟩ = false ∧ slotMLegal ⟨0xE, 0, 0⟩ = false := by decide
theorem illformed_bundles : wellFormed (.operationBundle di ⟨0, nopXY, ⟨0x1A, 0, 0, 1⟩, nopM⟩) = false ∧
    wellFormed (.operationBundle di ⟨0, ⟨0x1F, 0, 0, 0⟩, nopXY, nopM⟩) = false ∧
    wellFormed (.immediateBundle di 0 1 1 0 nopM) = false ∧ wellFormed (.loop di false 0 1 0 0 1) = false ∧
    wellFormed (.bf di 1 1 0) = false ∧ wellFormed (.driveBranch di 1 0) = false ∧ wellFormed (.driveCall di 1 0) = false ∧
    wellFormed (.ret di 1) = false ∧ wellFormed (.driveFence di 1) = false ∧ wellFormed (.wfp di 1) = false := by decide
theorem wellformed_commands : wellFormed (.add hi 1 2 3) = true ∧ wellFormed (.trap hi 0 0xFF) = true ∧
    wellFormed (.operationBundle di ⟨0, ⟨0x1A, 62, 48, 16⟩, nopXY, nopM⟩) = true ∧ wellFormed (.loop di true 1 0 7 1023 0) = true := by
  decide

/-! ### Words -/

/-- Words of the spec's own example program (chapter 3), and a word of no listed opcode. -/
theorem test_helm_words : decodeHelm .a true 0 0x001C8510 = some (.min hi 7 4 5) ∧
    decodeHelm .a true 0 0x0C1E800C = some (.stw hi 7 20 12) ∧ decodeHelm .a true 0 0xFFFFFFFF = none := by decide
/-- A bundle of the spec's example (chapter 5), and a reserved format. -/
theorem test_drive_words : decodeDrive .a true 0x4100001080200000 = some (.loop di false 0 8 2 2 0) ∧
    decodeDrive .a true 0xC000000000000000 = none := by decide
/-- The table gives its rows no bits, so no word of it spells a command (log 35). -/
theorem test_table_words : decodeTableWord 32 0x0C1E800C = none ∧ (State.reset.withFetchWord 32 7) = State.reset := by decide

/-! ### The helm -/

/-- Two operands whose sum wraps and saturates: the largest and the smallest word. -/
def hc : HelmCopy := copyWith 2 0x7FFFFFFF 3 0x80000000

theorem witness_StepRunsFront : ({ State.reset with pending := [] } : State).pending = [] ∧
    ∃ t, step { State.reset with pending := [.interruptEntry .a] } = .next t ∧ t.pending = [] := ⟨rfl, _, rfl, rfl⟩

theorem witness_CommandsComplete : exec (.feedVoltageRefresh .a 58001 24000 0) State.reset = .fault .absoluteLimit ∧
    ∃ t, exec (.feedVoltageRefresh .a 58000 24000 0) State.reset = .next t := by
  exact ⟨rfl, _, rfl⟩

theorem witness_LanesAreSeparate : ∃ t, exec (.add hi 1 2 3) (st (helm hc)) = .next t := ⟨_, rfl⟩

theorem witness_LanesKeepPlace : ∃ t, State.reset.placed ∧ step { State.reset with pending := [.noValidLane .a] } = .next t :=
  ⟨_, ⟨rfl, rfl, rfl⟩, rfl⟩

/-- The helm pair takes its next instruction, held or not: the premise of every statement about an instruction that goes
on, also with a predicate that is false. -/
theorem witness_helmReady : ((st (helm hc)).lane .a).helmReady hi false ∧ ((st (helm hc)).lane .a).helmReady hi true ∧
    ((st (helm hc)).lane .a).helmReady ⟨.a, true, 1, true, 0⟩ false ∧ HelmCopy.takes hc ⟨.a, false, 1, true, 0⟩ = false := by
  simp only [Lane.helmReady, Lane.helmGate, Lane.helmFree, Lane.codeClean]; decide

/-- The sums of R66 and R67 at their limits, and 510 full-scale products in an accumulator. -/
theorem witness_SaturationAndHeadroom : sat32 (2 ^ 31) = (0x7FFFFFFF, true) ∧ sat32 (-(2 ^ 31)) = (0x80000000, false) ∧
    (sat72 (2 ^ 71)).2 = true ∧ (510 < 511 ∧ (BitVec.ofInt 72 (510 * 2 ^ 62)).toInt.natAbs ≤ 510 * 2 ^ 62) := by decide

theorem test_add_wraps : (after (.add hi 1 2 2) (helm hc)).helm.c.p.rg 1 = 0xFFFFFFFE ∧
    (after (.add hi 0 2 2) (helm hc)).helm.c.p.rg 0 = 0 := by decide
theorem test_qadd_saturates : (after (.qadd hi 1 2 2) (helm hc)).helm.c.s.rg 1 = 0x7FFFFFFF ∧
    (after (.qadd hi 1 2 2) (helm hc)).helm.c.s.stat.getLsbD 2 = true := by decide
theorem test_div_by_zero : (after (.div hi 1 3 4) (helm hc)).helm.c.p.rg 1 = 0x80000000 ∧
    (after (.rem hi 1 3 4) (helm hc)).helm.c.p.rg 1 = 0x80000000 := by decide
theorem test_qmul_corner : (after (.qmul hi 1 3 3) (helm hc)).helm.c.p.rg 1 = 0x7FFFFFFF := by decide
theorem test_sra_sign : (after (.sra hi true 1 3 31) (helm hc)).helm.c.p.rg 1 = 0xFFFFFFFF ∧
    (after (.srl hi true 1 3 31) (helm hc)).helm.c.p.rg 1 = 1 := by decide
theorem test_source_is_destination : (after (.sub hi 2 2 3) (helm hc)).helm.c.p.rg 2 = 0xFFFFFFFF := by decide
theorem test_lui : (after (.lui hi 1 0x3FFFF) (helm hc)).helm.c.p.rg 1 = 0xFFFFC000 := by decide
theorem test_mac : (after (.mac hi true 0 3 3) (helm hc)).helm.c.p.hb = 0x4000000000000000 := by decide

/-- Compares and predicate moves name a predicate other than q0 and a condition that exists. -/
theorem witness_HelmPredicates : (1 : BitVec 2) ≠ 0 ∧ (6 : BitVec 3) ≠ 7 ∧
    (after (.cmp hi 3 3 2 2 0) (helm hc)).helm.c.p.q = 0b1001 ∧ (after (.cmp hi 3 3 2 4 0) (helm hc)).helm.c.p.q = 0b0001 := by
  decide
theorem witness_HelmControlRegisters : (2 : Reg5) = 2 ∨ (2 : Reg5) = 3 ∨ (2 : Reg5) = 6 ∨ (2 : Reg5) = 7 := by decide
theorem test_mtcs_vbase : (after (.mtcs hi 0 4 2 0) (helm hc)).helm.c.p.vbase = 0x7FFFF000 := by decide

/-- Jump targets at the last word of code SRAM, past it, and off by one byte. -/
theorem witness_HelmControlFlow_targets :
    (helm (copyWith 2 0x1FFFFC 3 0x200000)).whereTaken hi (fun c => goodTarget (c.rg 2)) ∧
    (helm (copyWith 2 0x1FFFFC 3 0x200000)).bothTake hi (fun c => ¬ goodTarget (c.rg 3)) ∧
    (helm (copyWith 2 0x1FFFFD 3 0)).bothTake hi (fun c => ¬ goodTarget (c.rg 2)) ∧
    (helm hc).whereTaken hi (fun c => goodTarget (c.pc + BitVec.ofInt 32 (4 * (0x7FFFF : BitVec 23).toInt))) ∧
    (helm hc).bothTake hi (fun c => ¬ goodTarget (c.pc + BitVec.ofInt 32 (4 * (0x7FFFFF : BitVec 23).toInt))) ∧
    (helm { hc with epc := 0x200000 }).bothTake hi (fun c => ¬ goodTarget c.epc) ∧
    (helm hc).bothTake hi (fun c => goodTarget c.epc) := by
  simp only [Lane.whereTaken, Lane.bothTake, goodTarget]; decide
theorem witness_HelmControlFlow_entries : (helm hc).canEnter 0x02 ∧ (helm hc).canEnter 0x0A ∧
    ((helm hc).goesOn hi (fun c => c)).closeDue = false ∧ (helm hc).bothTake hi (fun _ => True) ∧
    hc.takes ⟨.a, false, 1, true, 0⟩ = false := by
  simp only [Lane.canEnter, Lane.bothTake]; decide
/-- A pair with nothing stored, one with a posted store, one with no source pending and one with source 12 pending. -/
theorem witness_HelmControlFlow_waits : (hc.sbuf = [] ∧ hc.hold = []) ∧
    ¬ (({ hc with sbuf := [⟨0x10000000, 7, 0xF⟩] } : HelmCopy).sbuf = []) ∧ (helm hc).irqPend = 0 ∧
    ((helm hc).put LCTL_MBSTAT_PUB 1).irqPend ≠ 0 ∧ hc.takes hi = true := by decide
theorem test_call_links : (after (.call hi 3) (helm { hc with pc := 0x100 })).helm.c.p.rg 31 = 0x104 ∧
    (after (.call hi 3) (helm { hc with pc := 0x100 })).helm.c.p.pc = 0x10C := by decide
theorem test_jalr_same_register : (after (.jalr hi 2 2 0 0) (helm (copyWith 2 0x200 3 0))).helm.c.p.pc = 0x200 ∧
    (after (.jalr hi 2 2 0 0) (helm (copyWith 2 0x200 3 0))).helm.c.p.rg 2 = 4 := by decide
theorem test_trap_enters : (after (.trap hi 0 0x17) (helm hc)).helm.c.p.pc = 0x10A0 ∧
    (after (.trap hi 0 0x17) (helm hc)).helm.c.p.epc = 4 ∧ (after (.trap hi 0 0x17) (helm hc)).helm.c.p.cause = 0x170A := by decide

/-- Source 12 pending and enabled, with CS_STAT.IE. -/
def irqLane : Lane := ((helm { hc with stat := 1 }).put LCTL_MBSTAT_PUB 1).wr LCTL_IRQ_EN 0x1000
theorem witness_HelmInterruptEntry : irqLane.helm.run ≠ .stopped ∧ irqLane.helm.run ≠ .armed ∧ irqLane.domOn 1 = true ∧
    irqLane.closeDue = false ∧ irqLane.releaseDue = false ∧ irqLane.helm.c.p.stat.getLsbD 0 = true ∧
    irqLane.irqPend.getLsbD 12 = true ∧ (irqLane.rd LCTL_IRQ_EN).getLsbD 12 = true ∧
    (∀ k, k < 12 → ¬ (k < 21 ∧ irqLane.irqPend.getLsbD k = true ∧ (irqLane.rd LCTL_IRQ_EN).getLsbD k = true)) ∧
    irqLane.canEnter (0x40 + 12) := by
  simp only [Lane.canEnter]; decide
/-- The same source pending and not enabled, with a pair that waits in wfe and one that runs. -/
def wokenLane (r : Run) : Lane :=
  let ln := (helm hc).put LCTL_MBSTAT_PUB 1
  { ln with helm := { ln.helm with run := r } }
theorem witness_HelmInterruptEntry_wfe : (wokenLane .waiting).irqPend ≠ 0 ∧ (wokenLane .waiting).id = .a ∧
    (wokenLane .waiting).helm.run = .waiting ∧ (wokenLane .waiting).helm.c.p.stat.getLsbD 0 = false ∧
    (wokenLane .waiting).closeDue = false ∧ (wokenLane .waiting).releaseDue = false ∧ (wokenLane .waiting).domOn 1 = true := by
  decide
theorem test_interrupt_vector : (after (.interruptEntry .a) irqLane).helm.c.p.pc = 0x14C0 ∧
    (after (.interruptEntry .a) irqLane).helm.c.p.stat = 2 := by decide

/-- Depth 3, and a vector base past code SRAM. -/
theorem witness_HelmEntryRefused : ({ (helm hc).helm with depth := 3 } : HelmUnit).depth = 3 ∧ (helm hc).helm.depth < 3 ∧
    0x200000 ≤ (((0x1FFFFF : Word) &&& 0xFFFFF000) + BitVec.ofNat 32 (16 * 0x100)).toNat := by decide

/-- A copy word with a bit in a field the instruction does not use, and PN with q0. -/
theorem witness_HelmIllegalForms : helmIssue? (.abs hi 1 2 3) = some hi ∧ fieldsLegal (.abs hi 1 2 3) = false ∧
    badPred ⟨.a, true, 0, true, 0⟩ = true ∧ ((st (helm hc)).lane .a).helmGate hi false ∧ (helm hc).canEnter 0x01 := by
  simp only [Lane.helmGate, Lane.helmFree, Lane.codeClean, Lane.canEnter]; decide

/-- A release error that waits, deferred or not. -/
def relLane (d e : Bool) : Lane :=
  { helm hc with helm := { (helm hc).helm with relErr := some 0x20080080, deferred := d, eretSince := e } }
theorem witness_HelmReleaseErrors : (∀ d e, (relLane d e).helm.run ≠ .stopped ∧ (relLane d e).helm.run ≠ .armed ∧
    (relLane d e).domOn 1 = true ∧ (relLane d e).closeDue = false ∧ (relLane d e).helm.relErr = some 0x20080080 ∧
    (relLane d e).helm.deferred = d ∧ (relLane d e).helm.eretSince = e) ∧ (relLane true true).canEnter 0x08 ∧
    (relLane true false).helm.c.p.stat.getLsbD 0 = false := by
  simp only [Lane.canEnter]; decide

/-- A copy whose g2 points at the last word of data SRAM, with bytes stored there, and whose g3 points at the register
LCTL_MBSTAT. -/
def memCopy : HelmCopy :=
  let c := copyWith 2 0x100FFFFC 3 (BitVec.ofNat 32 (0x40000000 + LCTL_MBSTAT))
  { c with data := { c.data with bytes := putWord c.data.bytes 0xFFFFC 0x80FF0180 0xF } }

theorem witness_HelmLoads_sram : (.ldw hi 1 2 0, 4, false) ∈ loadForms hi 1 2 0 ∧ (.ldb hi 1 2 3, 1, true) ∈ loadForms hi 1 2 3 ∧
    ((st (helm memCopy)).lane .a).domOn 6 = true ∧ (helm memCopy).helm.c.p.sbuf = [] ∧ (helm memCopy).get MEM_CBTEST_EN = 0 ∧
    (helm memCopy).whereTaken hi (fun c => (c.rg 2).toNat % 4 = 0 ∧ 0x10000000 ≤ (c.rg 2).toNat ∧ (c.rg 2).toNat < 0x10100000) ∧
    (helm (copyWith 2 0x1FFFFC 3 0)).whereTaken hi (fun c => (c.rg 2).toNat % 4 = 0 ∧ (c.rg 2).toNat < 0x200000) := by
  simp only [Lane.whereTaken]; decide
theorem witness_HelmLoads_noFlip : ∀ m w, m < 4 → (helm memCopy).flipAt m w = 0 := by
  intro m w h
  match m, h with
  | 0, _ => rfl
  | 1, _ => rfl
  | 2, _ => rfl
  | 3, _ => rfl
/-- A load behind a posted store to its own address. -/
theorem witness_HelmLoads_pending : (helm { memCopy with sbuf := [⟨0x100FFFFC, 9, 0xF⟩] }).whereTaken hi (fun c =>
      (c.rg 2).toNat % 4 = 0 ∧ 0x10000000 ≤ (c.rg 2).toNat ∧ (c.rg 2).toNat < 0x10100000 ∧
      c.sbuf = [] ++ [⟨c.rg 2, 9, 0xF⟩]) := by
  simp only [Lane.whereTaken]; decide
theorem witness_HelmLoads_register : LCTL_MBSTAT < 0x110000 ∧ LCTL_MBSTAT % 4 = 0 ∧ isCopyReg LCTL_MBSTAT = false ∧
    (helm memCopy).bothTake hi (fun c => (c.rg 3 + (0 : Imm13).signExtend 32).toNat = 0x40000000 + LCTL_MBSTAT) ∧
    memCopy.hold = [] ∧ (∃ w u, (helm memCopy).readSingle LCTL_MBSTAT = some (w, u) ∧ u.helm = (helm memCopy).helm) := by
  refine ⟨by decide, by decide, by decide, ?_, rfl, _, _, rfl, rfl⟩
  simp only [Lane.bothTake]; decide
theorem test_load_signs : (after (.ldb hi 1 2 0) (helm memCopy)).helm.c.p.rg 1 = 0xFFFFFF80 ∧
    (after (.ldhu hi 1 2 2) (helm memCopy)).helm.c.p.rg 1 = 0x80FF := by decide

/-- One address for each access exception. -/
theorem witness_HelmAccessExceptions : (helm hc).canEnter 0x04 ∧ (helm hc).canEnter 0x05 ∧ (helm hc).canEnter 0x07 ∧
    (helm hc).canEnter 0x09 ∧
    (helm (copyWith 2 0x10000002 3 0x10000001)).bothTake hi (fun c => (c.rg 2).toNat % 4 ≠ 0 ∧ (c.rg 3).toNat % 2 ≠ 0) ∧
    (helm (copyWith 2 0x1FFFFC 3 0x1FFFFF)).bothTake hi (fun c => ((c.rg 2).toNat % 4 = 0 ∧ (c.rg 2).toNat < 0x200000) ∧
      (c.rg 3).toNat < 0x200000) ∧
    (helm (copyWith 2 0x200000 3 0x40110000)).bothTake hi (fun c =>
      (0x200000 ≤ (c.rg 2).toNat ∧ (c.rg 2).toNat < 0x10000000) ∧ 0x40110000 ≤ (c.rg 3).toNat) ∧
    (helm (copyWith 2 0x1FFFFFFC 3 0x4010FFFC)).bothTake hi (fun c =>
      (0x10100000 ≤ (c.rg 2).toNat ∧ (c.rg 2).toNat < 0x20000000) ∧
      (c.rg 3).toNat % 2 = 0 ∧ 0x40000000 ≤ (c.rg 3).toNat ∧ (c.rg 3).toNat < 0x40110000) ∧
    ({ helm memCopy with pwr := { lane0.pwr with phase := vset lane0.pwr.phase 5 .off } } : Lane).domOn 6 = false := by
  simp only [Lane.canEnter, Lane.bothTake]; decide
theorem test_store_code : (after (.stw hi 1 0 0) (helm hc)).helm.c.p.cause = 9 ∧ (after (.stw hi 1 0 2) (helm hc)).helm.c.p.cause = 7 := by
  decide

/-- A store to data SRAM, a store into the command window, a full held queue, and the two tally registers. -/
theorem witness_HelmStores : (.sth hi 1 2 0, 2) ∈ storeForms hi 1 2 0 ∧
    (helm memCopy).whereTaken hi (fun c => ((c.rg 2).toNat % 2 = 0 ∧ 0x200000 ≤ (c.rg 2).toNat) ∧
      (helmArea (c.rg 2)).held = false ∧ helmArea (c.rg 2) = .data 0xFFFFC) ∧
    (helm (copyWith 2 0x2008003C 3 0)).bothTake hi (fun c => ((c.rg 2).toNat % 4 = 0 ∧ 0x200000 ≤ (c.rg 2).toNat) ∧
      (helmArea (c.rg 2)).held = true) ∧
    (copyWith 2 0 3 0).hold.length < 16 ∧ 16 ≤ (List.replicate 16 (⟨0x20080000, 0, 0xF, 0, false⟩ : HoldEntry)).length ∧
    (helm (copyWith 2 (BitVec.ofNat 32 (0x40000000 + TALLY_LIVE)) 3 (BitVec.ofNat 32 (0x40000000 + TALLY_LIVEX)))).bothTake hi
      (fun c => (c.rg 2).toNat = 0x40000000 + TALLY_LIVE ∧ (c.rg 3).toNat = 0x40000000 + TALLY_LIVEX) := by
  simp only [Lane.whereTaken, Lane.bothTake]; decide

/-- A posted store of both copies to the first and to the last word of data SRAM. -/
theorem witness_HelmStoreDrain : (0x10000000 ≤ (0x10000000 : Word).toNat ∧ (0x100FFFFF : Word).toNat < 0x10100000) ∧
    (helm { memCopy with sbuf := [⟨0x100FFFFF, 9, 0x8⟩] }).helm.c.p.sbuf = ⟨0x100FFFFF, 9, 0x8⟩ :: [] ∧
    (helm memCopy).get MEM_CBTEST_EN = 0 ∧ (helm memCopy).mem.wback = [] ∧ (helm memCopy).domOn 6 = true ∧
    (∀ w, (helm memCopy).flipAt 2 w = 0) ∧ (∀ w, (helm memCopy).flipAt 3 w = 0) :=
  ⟨by decide, rfl, by decide, rfl, by decide, fun _ => rfl, fun _ => rfl⟩

/-- A window of 1024 instructions closes; a store bus error waits for it; held entries of a compared window. -/
def dueLane (d : HelmCopy) : Lane :=
  { helm hc with helm := { (helm hc).helm with count := 1024, c := ⟨hc, d⟩ } }
theorem witness_HelmWindow : (dueLane hc).closeBefore false = true ∧ (dueLane hc).helm.run = .running ∧ (dueLane hc).domOn 1 = true ∧
    (dueLane hc).foldRegs .p hc = (dueLane hc).foldRegs .s hc ∧ hc.busErr = none ∧ hc.sbuf = [] ∧
    (dueLane { hc with g := vset hc.g 5 1 }).foldRegs .p hc ≠
      (dueLane { hc with g := vset hc.g 5 1 }).foldRegs .s { hc with g := vset hc.g 5 1 } := by decide +kernel
theorem witness_HelmStoreBus : (helm { hc with busErr := some 0x40110000 }).helm.c.p.busErr = some 0x40110000 ∧
    (helm hc).helm.relErr = none ∧ (helm hc).canEnter 0x08 := by
  simp only [Lane.canEnter]; decide
def heldLane (e f : HoldEntry) : Lane :=
  { helm hc with helm := { (helm hc).helm with c := ⟨{ hc with hold := [e] }, { hc with hold := [f] }⟩ } }
theorem witness_HelmRelease :
    (∀ e f, ((heldLane e f).at 0).helm.run = .running ∧ ((heldLane e f).at 0).helm.c.p.hold = e :: [] ∧
      ((heldLane e f).at 0).helm.c.s.hold = f :: []) ∧
    ((⟨0x2008003C, 7, 0xF, 0, true⟩ : HoldEntry) ≠ ⟨0x2008003C, 8, 0xF, 0, true⟩) ∧
    (∃ k, k < 16 ∧ (0x2008003C : Word).toNat = 0x20080000 + 4 * k) :=
  by
  refine ⟨fun e f => ?_, by decide, 15, by decide, by decide⟩
  have h : (heldLane e f).at 0 = heldLane e f := by unfold Lane.at; split <;> rfl
  rw [h]
  exact ⟨rfl, rfl, rfl⟩
theorem witness_HelmRelease_register : LCTL_IRQ_EN < 0x110000 ∧ ∃ v, (helm hc).regWrite LCTL_IRQ_EN 1 = some v ∧ v.helm.run = .running :=
  ⟨by decide, _, rfl, rfl⟩

/-- A doorbell of 16 words, and words the rule turns away: 0, 17 and a reserved bit. -/
theorem witness_Mailboxes : (1 ≤ 16 ∧ 16 ≤ 16) ∧ (0 : Word).toNat % 32 = 0 ∧ 16 < (17 : Word).toNat % 32 ∧
    (0x21 : Word).toNat / 32 % 8 ≠ 0 ∧ (0x201 : Word).toNat / 512 ≠ 0 ∧ (helm hc).helm.relErr = none := by decide
theorem test_doorbell : (after (.doorbell .a 16) (helm hc)).get LCTL_MBSTAT_PEND = 1 ∧
    (after (.doorbell .a 17) (helm hc)).helm.relErr = some 0x20080080 := by decide

/-! ### The drive engine -/

/-- A drive copy with w48 the largest word, w49 the smallest, and p0 at the last word of its data SRAM. -/
def dc : DriveCopy :=
  { DriveCopy.reset with
    w := vset (vset DriveCopy.reset.w 48 0x7FFFFFFF) 49 0x80000000
    p := vset DriveCopy.reset.p 0 0x7FFFC
    data := { DriveCopy.reset.data with bytes := putWord [] 0x3FFFC 0x12345678 0xF } }

/-- An operation bundle of slot X alone. -/
def bx (x : SlotXY) : OpBundle := ⟨0, x, nopXY, nopM⟩

/-- The drive pair takes its next bundle, at stage 0 outside a loop, with or without a held store. -/
theorem witness_driveReady : ((st (drive dc)).lane .a).driveReady di false ∧ ((st (drive dc)).lane .a).driveReady di true ∧
    ((st (drive dc)).lane .a).stageOk 0 ∧ (drive dc).noLoop ∧ dc.enabled 0 = true := by
  simp only [Lane.driveReady, Lane.bundleClean, Lane.stageOk, Lane.noLoop]; decide +kernel

/-- A bundle whose slots X and M name different registers, each the other's source. -/
def swap : OpBundle := ⟨0, ⟨0x0E, 48, 49, 0⟩, ⟨0x0E, 49, 48, 0⟩, ⟨7, 50, 0⟩⟩
theorem witness_DriveSlotsReadFirst : opIllegal dc swap = false ∧ opRefused dc swap = false ∧ swap.m.op.toNat ∉ [1, 2, 3, 4] := by
  decide +kernel
theorem test_slots_swap : (after (.operationBundle di swap) (drive dc)).drv.c.p.rw 48 = 0x80000000 ∧
    (after (.operationBundle di swap) (drive dc)).drv.c.p.rw 49 = 0x7FFFFFFF ∧
    (after (.operationBundle di swap) (drive dc)).drv.c.p.rw 50 = 0x7FFFC := by decide +kernel

/-- The fields at the ends of their ranges. -/
theorem witness_DriveRegisterOperations : (31 : BitVec 6).toNat < 32 ∧ (1 ≤ (3 : BitVec 6).toNat ∧ (3 : BitVec 6).toNat ≤ 3) ∧
    (1 ≤ (16 : BitVec 6).toNat ∧ (16 : BitVec 6).toNat ≤ 16 ∧ (48 : BitVec 6).toNat + (16 : BitVec 6).toNat ≤ 64 ∧
      (62 : BitVec 6).toNat ≤ 62) ∧
    (5 : BitVec 3).toNat ≤ 5 ∧ (0 : BitVec 3).toNat ∉ [1, 7] ∧ (48 : BitVec 6) ≠ 49 ∧
    ((driveWith 48 8).enabled 0 = true → (driveWith 48 8).rw 48 = 2 ∨ (driveWith 48 8).rw 48 = 4 ∨ (driveWith 48 8).rw 48 = 6 ∨
      (driveWith 48 8).rw 48 = 8) := by decide +kernel
theorem test_add_saturates : (after (.operationBundle di (bx ⟨3, 0, 48, 48⟩)) (drive dc)).drv.c.p.rw 0 = 0x7FFFFFFF ∧
    (after (.operationBundle di (bx ⟨3, 0, 48, 48⟩)) (drive dc)).drv.c.p.flags.getLsbD 0 = true := by decide +kernel
theorem test_rotating_write : (after (.operationBundle di (bx ⟨0x0E, 5, 49, 0⟩)) (drive { dc with rot := 47 })).drv.c.p.rw 5 =
    0x80000000 := by decide +kernel
theorem test_mxi : (after (.operationBundle di (bx ⟨0x1A, 0, 46, 4⟩)) (drive dc)).drv.c.p.rw 0 = 0x80000000 ∧
    (after (.operationBundle di (bx ⟨0x1A, 0, 46, 4⟩)) (drive dc)).drv.c.p.rw 1 = 3 := by decide +kernel
theorem test_immediate : (after (.immediateBundle di 0 48 0 9 ⟨5, 48, 1⟩) (drive dc)).drv.c.p.rw 48 = 9 ∧
    vget (after (.immediateBundle di 0 48 0 9 ⟨5, 48, 1⟩) (drive dc)).drv.c.p.p 1 0 = 0x7FFFFFFF := by decide +kernel

/-- p0 at the last word of each area a load reads, and of each a store goes to. -/
def dp (a : Word) : DriveCopy := { dc with p := vset dc.p 0 a }
def dptr (c : DriveCopy) : Word := vget c.p 0 0
theorem witness_DriveMemory_sram : ((dptr dc).toNat % 4 = 0 ∧ 0x40000 ≤ (dptr dc).toNat ∧ (dptr dc).toNat < 0x80000 ∧ dc.sbuf = []) ∧
    (drive dc).get MEM_CBTEST_EN = 0 ∧ (∀ j, (drive dc).flipAt 6 j = 0) ∧ (∀ j, (drive dc).flipAt 7 j = 0) ∧
    ({ dc with sbuf := [⟨0x7FFFC, 5, 0xF⟩] } : DriveCopy).sbuf = [] ++ [⟨dptr dc, 5, 0xF⟩] :=
  ⟨by decide +kernel, by decide +kernel, fun _ => rfl, fun _ => rfl, by decide +kernel⟩
theorem witness_DriveMemory_inputs :
    ((dptr (dp 0x8003C)).toNat % 4 = 0 ∧ 0x80000 ≤ (dptr (dp 0x8003C)).toNat ∧ (dptr (dp 0x8003C)).toNat < 0x80040 ∧
      ∃ g, ({ dp 0x8003C with mbox := { dc.mbox with owned := some ⟨Vector.replicate 16 3, 16, false⟩ } } : DriveCopy).mbox.owned = some g) ∧
    ((dptr (dp 0xB0000)).toNat % 4 = 0 ∧ 0xB0000 ≤ (dptr (dp 0xB0000)).toNat ∧ (dptr (dp 0xB0000)).toNat < 0xB0400 ∧
      keyGet [(0, (7 : Word))] (((dptr (dp 0xB0000)).toNat - 0xB0000) / 4) = some 7) :=
  ⟨⟨by decide +kernel, by decide +kernel, by decide +kernel, _, rfl⟩, by decide +kernel⟩
theorem witness_DriveMemory_held : dc.hold.length < 32 ∧ dc.enabled 0 = true ∧
    ((dptr (dp 0x8017C)).toNat % 4 = 0 ∧ 0x80100 ≤ (dptr (dp 0x8017C)).toNat ∧ (dptr (dp 0x8017C)).toNat < 0x80180) ∧
    ((dptr (dp 0xA0044)).toNat % 4 = 0 ∧ 0xA0000 ≤ (dptr (dp 0xA0044)).toNat ∧ (dptr (dp 0xA0044)).toNat < 0xA0048) ∧
    ((dptr (dp 0xA0080)).toNat % 4 = 0 ∧ 0xA0080 ≤ (dptr (dp 0xA0080)).toNat ∧ (dptr (dp 0xA0080)).toNat < 0xA0098) := by
  decide +kernel
theorem test_drive_load : (after (.operationBundle di ⟨0, nopXY, nopXY, ⟨2, 1, 0⟩⟩) (drive dc)).drv.c.p.rw 1 = 0x12345678 := by
  decide +kernel
theorem test_drive_held_store : (after (.operationBundle di ⟨0, nopXY, nopXY, ⟨3, 48, 0⟩⟩) (drive (dp 0xA0044))).drv.c.s.hold =
    [⟨0xA0044, 0x7FFFFFFF, 0xF, 0, false⟩] := by decide +kernel

/-- A column begun for M = 6 and one complete, with the fields at the ends of their ranges. -/
def tc : DriveCopy := { dc with col := some [] }
theorem witness_DriveTrellis : ((58 : BitVec 6).toNat + tc.trm.toNat ≤ 64 ∧ (46 : BitVec 6).toNat + 3 * tc.trm.toNat ≤ 64 ∧
      (tc.trm.toNat = 2 ∨ tc.trm.toNat = 4 ∨ tc.trm.toNat = 6 ∨ tc.trm.toNat = 8) ∧
      (tc.enabled 0 = true → tc.tj < tc.trm.toNat / 2 ∧ tc.col ≠ none)) ∧
    (let c : DriveCopy := { tc with tj := 3 }
     (c.enabled 0 = true → c.trm.toNat ≤ 8 ∧ c.tj = c.trm.toNat / 2 ∧ c.col ≠ none) ∧ c.trm.toNat ∈ [2, 4, 6, 8] ∧
     vget ({ c with ctx := vset c.ctx 0 ⟨[[0, 1, 2, 0, 0, 0]], [5, 4, 3, 2, 1, 9]⟩ } : DriveCopy).ctx c.sel ⟨[], []⟩ =
       ⟨[[0, 1, 2, 0, 0, 0]], [5, 4, 3, 2, 1, 9]⟩ ∧ ([5, 4, 3, 2, 1, 9] : List Word).length ≤ 8) := by decide +kernel
theorem test_traceback : (after (.operationBundle di ⟨0, nopXY, nopXY, ⟨0xC, 1, 0⟩⟩)
    (drive { tc with tj := 3, ctx := vset tc.ctx 0 ⟨[[0, 1, 2, 0, 0, 0], [0, 0, 0, 0, 2, 0]], [5, 4, 3, 2, 1, 9]⟩ })).drv.c.p.rw 1 =
      0x404 := by decide +kernel

/-- Loops outside a body, in the last pass and in the one before; branch targets at both ends of program SRAM; stacks. -/
theorem witness_DriveLoops : (⟨4, 2, 2, 3, 2⟩ : LoopState).iters = 3 ∧ 1 ≤ 3 ∧ 2 ≤ 8 ∧
    (4 + 1 < 4 + 2) ∧ (4 + 2 ≤ 5 + 1) ∧ (2 + 2 < 3 + 2) ∧ (3 + 2 ≤ 3 + 2) ∧ (47 < 48 ∧ 1 ≤ 47) := by decide
theorem witness_DriveControl : (0 ≤ ((0 : Nat) : Int) + (16383 : BitVec 24).toInt ∧ ((0 : Nat) : Int) + (16383 : BitVec 24).toInt < 16384) ∧
    dc.stack.length < 4 ∧ dc.rf 0 = true ∧ dc.rf 1 = false ∧ ({ dc with stack := [16383] } : DriveCopy).stack = 16383 :: [] ∧
    (dc.sbuf = [] ∧ dc.hold = []) ∧ ({ dc with sbuf := [⟨0x40000, 1, 0xF⟩] } : DriveCopy).sbuf ≠ [] ∧ (drive dc).drv.count = 0 ∧
    (drive dc).drv.urgent = false ∧ (drive dc).drv.overrun = false ∧ ∀ k, ((drive dc).drv.c.get k).mbox.pend = none :=
  ⟨by decide +kernel, by decide +kernel, by decide +kernel, by decide +kernel, rfl, ⟨rfl, rfl⟩, by decide +kernel, rfl, rfl, rfl,
    fun k => by cases k <;> rfl⟩
theorem test_loop_zero : (after (.loop di false 0 0 7 9 0) (drive { dc with pc := 100, rot := 9 })).drv.c.p.pc = 111 ∧
    (after (.loop di false 0 0 7 9 0) (drive { dc with pc := 100, rot := 9 })).drv.c.p.rot = 0 := by decide +kernel
theorem test_branch_back : (after (.driveBranch di 0 0xFFFFFF) (drive { dc with pc := 100 })).drv.c.p.pc = 99 := by decide +kernel

/-- One bundle, and one state, for each fault. -/
theorem witness_DriveFaults_bundle : (0x1D : BitVec 5).toNat ∈ [0x1D, 0x1E, 0x1F] ∧ 0x1A ≤ (0x1A : BitVec 5).toNat ∧
    (0xE : BitVec 4).toNat ∈ [0xE, 0xF] ∧ (∃ x ∈ xyDests dc ⟨1, 5, 0, 0⟩, x ∈ xyDests dc ⟨2, 5, 0, 0⟩) ∧
    (∃ x ∈ xyDests dc ⟨1, 5, 0, 0⟩, x ∈ mDests ⟨7, 5, 0⟩) ∧ (0x10 : BitVec 5).toNat ∈ [0x10, 0x11, 0x12] ∧ 3 < (4 : BitVec 6).toNat ∧
    (drive dc).noLoop ∧ (1 : BitVec 3) ≠ 0 ∧ dc.holdsStore 0 nopM = false := by
  simp only [Lane.noLoop]; decide +kernel
theorem witness_DriveFaults_address : (dptr (dp 0x40002)).toNat % 4 ≠ 0 ∧
    (¬ (0x40000 ≤ (dptr (dp 0x3FFFC)).toNat) ∧ (dptr (dp 0x80040)).toNat = 0x80040 ∧ (dptr (dp 0xB0400)).toNat = 0xB0400) ∧
    (dptr (dp 0x80180)).toNat = 0x80180 ∧ (dptr (dp 0xA0048)).toNat = 0xA0048 ∧ (dptr (dp 0xA0098)).toNat = 0xA0098 ∧
    opIllegal (dp 0x40002) ⟨0, nopXY, nopXY, ⟨1, 1, 0⟩⟩ = false ∧ opRefused (dp 0x40002) ⟨0, nopXY, nopXY, ⟨1, 1, 0⟩⟩ = false := by
  decide +kernel
theorem witness_DriveFaults_control : ({ dc with loop := some ⟨0, 1, 1, 1, 0⟩ } : DriveCopy).loop ≠ none ∧
    ((dc.pc : Int) + (0xFFFFFF : BitVec 24).toInt < 0) ∧ (16384 ≤ (dc.pc : Int) + (16384 : BitVec 24).toInt) ∧
    4 ≤ ({ dc with stack := [1, 2, 3, 4] } : DriveCopy).stack.length ∧ dc.stack = [] ∧ (⟨.a, false⟩ : DriveIssue).agree = false ∧
    (drive dc).driveReady { (⟨.a, false⟩ : DriveIssue) with agree := true } false := by
  simp only [Lane.driveReady, Lane.bundleClean]; decide +kernel
theorem witness_DriveFaults_withdraws : isRunning ((drive dc).put TALLY_STAT_LSTATE lsRunning).lstate = true ∧
    ((drive dc).rj.times.filter (fun t => decide (((drive dc).lt - t).toNat ≤ 480000000000))).length < 3 ∧
    (drive dc).log.buf.length < 32 := by decide +kernel
theorem test_illegal_bundle : (after (.operationBundle di (bx ⟨0x1D, 0, 0, 0⟩)) ((drive dc).put TALLY_STAT_LSTATE lsRunning)).get LCTL_DFAULT_CODE = 1 ∧
    (after (.ret di 0) ((drive dc).put TALLY_STAT_LSTATE lsRunning)).get LCTL_DFAULT_CODE = 5 := by decide +kernel

theorem witness_DriveQueues_drain : ({ dc with sbuf := [⟨0x7FFFC, 1, 0xF⟩] } : DriveCopy).sbuf = ⟨0x7FFFC, 1, 0xF⟩ :: [] ∧
    (0x40000 ≤ (0x7FFFC : Word).toNat ∧ (0x7FFFC : Word).toNat < 0x80000 ∧ (0x7FFFC : Word).toNat % 4 = 0) ∧ (drive dc).mem.wback = [] ∧
    (drive dc).domOn 3 = true ∧ (drive dc).drv.run = .running := by decide +kernel
theorem witness_DriveQueues_window : 256 ≤ ({ (drive dc).drv with count := 256 } : DriveUnit).count ∧ dc.sbuf = [] ∧
    dc.foldRegs ≠ ({ dc with w := vset dc.w 63 1 } : DriveCopy).foldRegs := by decide +kernel
theorem witness_DriveQueues_release : ((⟨0x8017C, 7, 0xF, 0, true⟩ : HoldEntry) ≠ ⟨0x8017C, 8, 0xF, 0, true⟩) ∧
    (∃ k, 1 ≤ k ∧ k < 32 ∧ (0x8017C : Word).toNat = 0x80100 + 4 * k) := ⟨by decide, 31, by decide, by decide, by decide⟩
theorem witness_DriveQueues_registers : (∀ k, 48 ≤ k → k < 64 → vget dc.w k 0 = vget (driveWith 5 7).w k 0) ∨
    (∀ k, 48 ≤ k → k < 64 → vget dc.w k 0 = vget ({ dc with w := vset dc.w 5 7 } : DriveCopy).w k 0) :=
  .inr (by
    intro k h1 h2
    have h : ∀ j : Fin 64, 48 ≤ j.val → vget dc.w j.val 0 = vget ({ dc with w := vset dc.w 5 7 } : DriveCopy).w j.val 0 := by
      decide +kernel
    exact h ⟨k, h2⟩ h1)
theorem witness_DriveStaysLegal : (driveIssue? (.ret di 0)).isSome = true ∧
    (∀ l k, DriveCopy.legal (((st (drive dc)).lane l).drv.c.get k)) ∧ ∃ t, exec (.ret di 0) (st (drive dc)) = .next t := by
  refine ⟨rfl, ?_, _, rfl⟩
  intro l k
  have h : ∀ l : LaneId, ∀ k : Copy, DriveCopy.legal (((st (drive dc)).lane l).drv.c.get k) := by
    intro l k
    cases l <;> cases k <;> (simp only [DriveCopy.legal]; decide +kernel)
  exact h l k

/-! ### Feeds, domains, pace and lane time -/

/-- Lane A in a mode. -/
def inMode (m : Nat) : Lane := lane0.put LCTL_MODE_MODE m

theorem witness_Feeds : (State.reset.a.is PWR_FEED_F1_OK = false ∧ State.reset.a.pwr.stage = .reset ∧
      vget State.reset.a.pwr.phase 5 .on = .off) ∧
    (lane0.is PWR_FEED_F1_OK = false ∧ lane0.pwr.stage ≠ .reset) ∧
    (((lane0.on PWR_FEED_F1_OK).on PWR_FEED_F2_OK).is PWR_FEED_F1_OK = true ∧
      ((lane0.on PWR_FEED_F1_OK).on PWR_FEED_F2_OK).is PWR_FEED_F2_OK = true ∧ lane0.mode.shut = .none) ∧
    ((lane0.on PWR_FEED_F2_OK).is PWR_FEED_F2_OK = true ∧ (lane0.on PWR_FEED_F2_OK).is PWR_FEED_F1_OK = false) ∧
    ({ State.reset.a with nv := { State.reset.a.nv with pfail := true } } : Lane).nv.pfail = true ∧
    (-36000 ≤ (-36000 : Int) ∧ (58000 : Int) ≤ 58000) := by decide +kernel
theorem test_feed_present : (after (.feedPresent .a .f2 7) State.reset.a).is PWR_FEED_F2_SRC = true ∧
    (after (.feedPresent .a .f2 7) State.reset.a).pwr.stage = .powering := by decide +kernel

/-- A lane in STANDBY with every domain on, one switching, and one at the last rail of its start-up. -/
def domLane (d : Fin 8) (ph : DomPhase) (js : List DomJob) : Lane :=
  let u := inMode 3
  { u with pwr := { u.pwr with phase := vset u.pwr.phase d ph, jobs := js } }
def bistDone : BistRec := ⟨true, false, 980, 1000, 18, 0, false⟩
def poweringLane : Lane :=
  let u := domLane 3 .rising [⟨[2, 3], true⟩]
  { u with pwr := { u.pwr with stage := .powering }, nv := { u.nv with bist := some bistDone } }
theorem witness_PowerDomains : ((inMode 3).is PWR_DOMSTAT_BUSY = false ∧ ∀ n, n < 8 → vget (inMode 3).pwr.phase n .on = .on) ∧
    (lane0.on PWR_DOMSTAT_BUSY).is PWR_DOMSTAT_BUSY = true ∧ (inMode 3).modeNow = 3 ∧ (inMode 5).modeNow = 5 ∧
    bits (0xEF : Word) 7 0 = 255 - 2 ^ (4 : Fin 8).toNat ∧ bits (0x7F : Word) 7 0 = 255 - 2 ^ (7 : Fin 8).toNat ∧
    ((inMode 4).modeNow ≠ 3 ∧ (inMode 4).modeNow ≠ 5) ∧ bits (0xF7 : Word) 7 0 = 255 - 2 ^ (3 : Fin 8).toNat ∧
    ((inMode 3).locked = true ∧ (inMode 3).mode.sleep = .none ∧ (inMode 3).mode.shut = .none ∧ (inMode 3).pwr.heldDom = []) ∧
    (∀ d, vget (domLane d .quieting [⟨[4], false⟩]).pwr.phase d .on = .quieting) ∧
    (vget (domLane 4 .falling [⟨[4], false⟩]).pwr.phase 4 .on = .falling ∧
      (domLane 4 .falling [⟨[4], false⟩]).pwr.jobs = [⟨[(4 : Fin 8).toNat], false⟩]) ∧
    (vget (domLane 7 .rising [⟨[7], true⟩]).pwr.phase 7 .on = .rising ∧
      (domLane 7 .rising [⟨[7], true⟩]).pwr.jobs = [⟨[(7 : Fin 8).toNat], true⟩]) ∧
    (poweringLane.pwr.stage = .powering ∧ vget poweringLane.pwr.phase 2 .on = .on ∧ vget poweringLane.pwr.phase 3 .on = .rising ∧
      poweringLane.pwr.jobs = [⟨[2, 3], true⟩] ∧ poweringLane.mode.accepted = false ∧ poweringLane.nv.bist = some bistDone ∧
      bistDone.consumed = false ∧ bistDone.pass = true) := by decide +kernel

/-- A lane with the pace unit at rest: point `op`, periods of 25 us and 1 ms, no channel enabled. -/
def paceLane (m op : Nat) : Lane :=
  let u := ((((inMode m).put PACE_STAT_OP op).put PACE_STAT_CEIL_PS 1180).put PACE_LIVE_PWM_LIVE 100).put PACE_LIVE_FR_LIVE 40
  { u with pace := { u.pace with target := op } }
theorem witness_PaceInterlock_modes : (∀ m, m = 3 ∨ m = 8 → paceModes m) ∧ ¬ paceModes 2 ∧ ¬ paceModes 9 ∧
    (paceModes (paceLane 3 2).modeNow ∧ paceIdle (paceLane 3 2)) ∧
    ({ paceLane 3 2 with nv := { (paceLane 3 2).nv with bar1 := true } } : Lane).nv.bar1 = true := by
  refine ⟨?_, ?_, ?_, ?_, by decide +kernel⟩ <;> unfold paceModes
  · omega
  · omega
  · omega
  · unfold paceIdle; decide +kernel
theorem witness_PaceInterlock_periods : (paceLane 3 2).nChan = 0 ∧ slowEnough (pointPs false 1) 0 100 40 ∧
    slowEnough 1020 0 100 4 ∧ slowEnough 1550 0 800 40 ∧ (100 ≤ 100 ∧ 40 * 100 % 100 = 0 ∧ 40 * 100 / 100 ≤ 40) ∧
    bits (0x00280064 : Word) 9 0 = 100 ∧ bits (0x00280064 : Word) 21 16 = 40 ∧ ¬ (100 ≤ 99) ∧
    ¬ slowEnough (pointPs false 1) 6 100 4 ∧ (40 * 100 % 160 = 0 ∧ slowEnough 1020 6 160 40 ∧ ¬ slowEnough 1180 6 160 40) ∧
    (paceLane 3 3).get PACE_STAT_OP = 3 ∧ (paceLane 3 2).is PACE_STAT_EOL = false := by
  unfold slowEnough; decide +kernel
theorem witness_PaceInterlock_reached : ((paceLane 3 2).on PACE_STAT_SLEW).is PACE_STAT_SLEW = true ∧
    (paceLane 3 2).pace.heldCtl = none ∧ (paceLane 3 2).pace.heldRate = none := by decide +kernel
/-- The operating point 1 of a module with all six channels breaks the minimum of a 25 us period, which point 2 allows. -/
theorem witness_PaceInterlock_held : (let u := (List.range 6).foldl (fun (u : Lane) c => u.on (COMM_CHCFG_EN c)) (paceLane 3 2)
    paceIdle u ∧ u.nChan = 6 ∧ ¬ slowEnough (pointPs false 1) u.nChan (u.get PACE_LIVE_PWM_LIVE) (u.get PACE_LIVE_FR_LIVE) ∧
    1 < u.get PACE_STAT_OP ∧ u.get PACE_STAT_CEIL_PS = 1180) := by
  unfold paceIdle slowEnough; decide +kernel
theorem test_pace_dropped : (after (.paceCtlWrite .a 1) (paceLane 2 2)).get PACE_CTL_OPSEL = (paceLane 2 2).get PACE_CTL_OPSEL ∧
    (after (.paceCtlWrite .a 1) (paceLane 3 2)).get PACE_STAT_CEIL_PS = 1420 := by decide +kernel

theorem witness_LaneTime : (399 < 400 ∧ (20000 : Int).natAbs ≤ 20000) ∧ 400 ≤ 400 ∧ 20000 < (-20001 : Int).natAbs ∧
    isRunning (lane0.put TALLY_STAT_LSTATE lsRunning).lstate = true ∧ lane0.nv.boot.trial = false ∧
    (let u := (lane0.on TIME_CSTAT_ARM).wr TIME_CMPLO 9
     u.is TIME_CSTAT_ARM = true ∧ u.lt.toNat ≤ (u.rd TIME_CMPHI ++ u.rd TIME_CMPLO).toNat ∧
       (u.rd TIME_CMPHI ++ u.rd TIME_CMPLO).toNat < u.lt.toNat + 2 ^ 63) ∧
    (lane0.locked = true ∧ lane0.mode.sleep ≠ .asleep ∧ lane0.modeNow ≠ modeUpdate) ∧ (inMode modeUpdate).modeNow = modeUpdate ∧
    State.reset.a.locked = false ∧
    (let u := paceLane 3 2
     u.lt.toNat + u.frameUnits < 2 ^ 63 ∧ 0 < u.frameUnits ∧ u.pace.lastFrame = none ∧ u.lt.toNat + u.pwmUnits < 2 ^ 63 ∧
       0 < u.pwmUnits ∧ u.pace.lastPwm = none) ∧
    ({ (paceLane 3 2).pace with waiting := some 0x00040064 } : PaceUnit).waiting = some 0x00040064 ∧ 4 ≤ bits (0x00040064 : Word) 21 16 ∧
    ((paceLane 3 2).rd TIME_FRAME - (paceLane 3 2).rd PACE_APPLY).toNat < 2 ^ 31 ∧
    2 ^ 31 ≤ (((paceLane 3 2).wr PACE_APPLY 1).rd TIME_FRAME - ((paceLane 3 2).wr PACE_APPLY 1).rd PACE_APPLY).toNat ∧
    (paceLane 3 2).get PACE_LIVE_FR_LIVE ≠ bits (0x00040064 : Word) 21 16 := by decide +kernel
theorem test_compare_wraps : (after (.timeCmphiWrite .a 0 10) (lane0.wr TIME_CMPLO 10)).is TIME_CSTAT_MATCH = true ∧
    (after (.timeCmphiWrite .a 0 9) (lane0.wr TIME_CMPLO 10)).is TIME_CSTAT_ARM = true := by decide +kernel

/-! ### Position inputs, commutation, loop commands -/

/-- Incremental channel 7 enabled with an index of 4000 counts per turn and a tolerance of 3, referenced at 0, its count one
beyond the tolerance past a half turn. -/
def incLane (refd : Bool) (cnt : Word) : Lane :=
  ((((lane0.on (POS_ICFG_EN 7)).on (POS_ICFG_IDXEN 7)).put (POS_ICFG_ITOL 7) 3).put (POS_ICPR_CPR 7) 4000 |>.wr (POS_CNT 7) cnt).putB
    (POS_ISTAT_REFD 7) refd
theorem witness_IncrementalCounting : (incLane true 0).is (POS_ICFG_EN 7) = true ∧ (true ≠ ((incLane true 0).inc 7).a) ∧
    (true ≠ ((incLane true 0).inc 7).b) ∧
    ((incLane true 0).is (POS_ICFG_IDXEN 7) = true ∧ (((incLane true 0).get (POS_ICPR_CPR 7) : Nat) : Int) ≠ 0 ∧
      (incLane true 0).get (POS_ICFG_IGATE 7) = 0) ∧
    ((incLane true 0).inc 7).lastFwd = true ∧ (incLane false 0).is (POS_ISTAT_REFD 7) = false ∧
    (incLane true 0).is (POS_ISTAT_REFD 7) = true ∧ (incLane true 0).is (POS_ISTAT_SUSPECT 7) = false ∧
    nearestTurn (2000 - ((incLane true 2000).inc 7).ref) 4000 1 ∧ nearestTurn (-1999 - ((incLane true 2000).inc 7).ref) 4000 0 ∧
    (({ (incLane true 0).inc 7 with coins := [3, 2, 1] } : IncUnit).coins = 3 :: 2 :: 1 :: [] ∧
      ((8000001 : LTime) - 1).toNat ≤ 8000000) := by
  unfold nearestTurn; decide +kernel
theorem test_index : ((after (.edgeAccepted .a 7 (.index true) 5) (incLane true 4003)).rd (POS_CNT 7) = 4000) ∧
    (after (.edgeAccepted .a 7 (.index true) 5) (incLane true 4004)).is (POS_ISTAT_SUSPECT 7) = true := by decide +kernel

/-- A window of the two speed sources, incremental channel 0 and hall channel 0, whose last two edges stand before its end. -/
def speedLane (k : Nat) : Lane :=
  lane0.setSpeed k { SpeedUnit.reset with
    ends := [400000], eb := some ⟨390000, 5, true⟩, ebb := some ⟨380000, 4, true⟩, cf0 := some (3, 7), t0 := 200000, zero := false }
theorem witness_SpeedWindows : ∀ k : Fin 16, (k = 0 ∨ k = 15) → (let x := (speedLane k).speedU k
    x.ends = 400000 :: [] ∧ x.eb = some ⟨390000, 5, true⟩ ∧ x.ebb = some ⟨380000, 4, true⟩ ∧
    x.cf0 = some (((3 : Nat) : Int), 7) ∧ 0 < 7 ∧ (380000 : LTime).toNat ≤ (390000 : LTime).toNat ∧
    (390000 : LTime).toNat < (400000 : LTime).toNat ∧ x.t0.toNat < (400000 : LTime).toNat ∧ x.zero = false ∧
    200000 ≤ (400000 : LTime).toNat - x.t0.toNat ∧ (speedLane k).lt.toNat ≤ (400000 : LTime).toNat) := by decide +kernel

/-- Hall channel 0 enabled, MAP sending the states 1 to 6 to the sectors 0 to 5, at state 1. -/
def hallLane : Lane :=
  let u := (((lane0.wr (POS_HCFG 0) (1 ||| (0 <<< 2) ||| (1 <<< 5) ||| (2 <<< 8) ||| (3 <<< 11) ||| (4 <<< 14) ||| (5 <<< 17))).put
    (POS_HSTAT_STATE 0) 1).put (POS_HSTAT_SECTOR 0) 0)
  u.setHall 0 { u.hallU 0 with invalidSince := some 5 }
theorem witness_Halls : hallLane.is (POS_HCFG_EN 0) = true ∧ hallLane.get (POS_HSTAT_STATE 0) ≠ 0 ∧
    hallLane.get (POS_HSTAT_SECTOR 0) < 6 ∧ bit (hallLane.rd (POS_HCFG 0)) 1 = false ∧
    (sectorOf (hallLane.rd (POS_HCFG 0)) 1 = 0 ∧ sectorOf (hallLane.rd (POS_HCFG 0)) 2 = 1 ∧
      sectorOf (hallLane.rd (POS_HCFG 0)) 3 = 2 ∧ sectorOf (hallLane.rd (POS_HCFG 0)) 4 = 3 ∧
      sectorOf (hallLane.rd (POS_HCFG 0)) 5 = 4 ∧ sectorOf (hallLane.rd (POS_HCFG 0)) 6 = 5) ∧
    (hallLane.hallU 0).invalidSince = some 5 := by decide +kernel
theorem test_hall_steps : ((after (.hallTransition .a 0 2 9) hallLane).hallU 0).count = 1 ∧
    ((after (.hallTransition .a 0 6 9) hallLane).hallU 0).count = -1 ∧
    (after (.hallTransition .a 0 3 9) hallLane).is (POS_HSTAT_SKIP 0) = true := by decide +kernel

/-- SSI master 1 in a frame of 4 bits in Gray code with even parity, at two rejects. -/
def ssiLane (gray : Bool) : Lane :=
  let u := ((lane0.put (POS_SCFG_NBITS 1) 4).putB (POS_SCFG_GRAY 1) gray).put (POS_SCFG_PAR 1) 1
  u.setSsi 1 { u.ssiU 1 with running := true, rejects := 2, last := some 9 }
/-- 0b1101 is Gray for 9; as a plain position it is 13. Its three ones need a parity bit of 1 for an even count. -/
theorem witness_Ssi : ((ssiLane true).ssiU 1).running = true ∧ (ssiLane true).get (POS_SCFG_NBITS 1) ≤ 32 ∧
    (ssiLane true).is (POS_SCFG_GRAY 1) = true ∧ 9 ^^^ (9 / 2) = (0b1101 : Word).toNat % 2 ^ 4 ∧
    (ssiLane false).is (POS_SCFG_GRAY 1) = false ∧ 13 = (0b1101 : Word).toNat % 2 ^ 4 ∧
    ((List.range 32).countP ((0b1101 : Word).toNat % 2 ^ 4).testBit + 1) % 2 = 0 ∧ (ssiLane true).get (POS_SCFG_JUMP 1) = 0 ∧
    ((ssiLane true).ssiU 1).rejects = 2 := by decide +kernel
theorem test_ssi_gray : rfGet (after (.ssiFrameEnd .a 1 ⟨true, 0b1101, true, false⟩ 9) (ssiLane true)).pub (POS_SS_POS 1) = 9 ∧
    (after (.ssiFrameEnd .a 1 ⟨true, 0b1101, false, false⟩ 9) (ssiLane true)).is (POS_SS_STAT_SFLT 1) = true := by decide +kernel

/-- Echo output 1 from incremental channel 7 at a ratio of 1, the source `lag` edges ahead. -/
def echoLane (lag : Word) : Lane :=
  let u := (lane0.on (POS_ISTAT_VALID 7)).wr (POS_CNT 7) lag
  u.setEcho 1 { u.echoU 1 with valid := true, cfg := 0x0F }
theorem witness_Echo : ((echoLane 256).echoU 1).valid = true ∧ bit ((echoLane 256).echoU 1).cfg 0 = true ∧
    bits ((echoLane 256).echoU 1).cfg 5 1 < 8 ∧ (echoLane 256).echoValid (bits ((echoLane 256).echoU 1).cfg 5 1) = true ∧
    (256 : Int).natAbs ≤ 256 ∧ 256 < (257 : Int).natAbs := by decide +kernel
theorem test_echo_lag : ((after (.echoEdge .a 1 9) (echoLane 256)).echoU 1).out = 1 ∧
    (after (.echoEdge .a 1 9) (echoLane 257)).is (ECHO_STAT_LAG 1) = true := by decide +kernel
theorem test_pos_cmd_targets : (after (.clearFault .a 18) lane0).is POS_IEN_REJ = true ∧
    (after (.clearFault .a 17) lane0).is POS_IEN_REJ = false ∧ (after (.reReferenceIndex .a 8) lane0).is POS_IEN_REJ = true := by
  decide +kernel

/-- Channel 2 with a shadow load that asks for a commutation forwards in the sector 5, and samples. -/
def chanLane (chan : Word) (demag : Bool) : Lane :=
  lane0.setChD 2 { ChanDrive.reset with taken := { CmdSet.reset with chan := chan }, sector := 5, demag := demag }
theorem witness_CommutationAndSamples : (let u := chanLane 0x4D false
    let d := u.chD 2
    bit d.taken.chan 3 = true ∧ d.commutated = false ∧ d.sector < 6 ∧ u.rj.holding = false ∧ u.brdg.override = false ∧
    bit d.taken.chan 6 = true ∧ bits d.taken.chan 2 0 < 6 ∧ d.demag = false) ∧
    bit ((chanLane 0 false).chD 2).taken.chan 3 = false ∧ ((chanLane 0 true).chD 2).demag = true ∧
    (let u := (lane0.put (COMM_CSTAT_STATE 2) 1).setChanU 2 { lane0.chanU 2 with
       catching := { CatchUnit.reset with signs := some (true, false, true) } }
     u.cst 2 = 1 ∧ (u.chanU 2).catching.signs = some (true, false, true)) ∧
    (let u := (lane0.put (COMM_CSTAT_STATE 2) 3).setChanU 2 { lane0.chanU 2 with recatch := true }
     u.cst 2 = 3 ∧ (u.chanU 2).recatch = true) := by decide +kernel
theorem test_commutation_wraps : ((after (.commutationAtCt .a 2) (chanLane 0x4D false)).chD 2).sector = 0 := by decide +kernel

/-- Channel 5 enabled in a mode, with a position sensor, in a state, its hall valid or not, with or without the fallback. -/
def startLane (m sens st : Nat) (good sfb : Bool) : Lane :=
  (((((inMode m).on (COMM_CHCFG_EN 5)).put (COMM_CHCFG_SENS 5) sens).put (COMM_CSTAT_STATE 5) st).putB (COMM_CHCFG_SFB 5) sfb).putB
    (POS_HSTAT_VALID 0) good
theorem witness_ChannelStates : (let u := startLane 4 1 0 true false
    u.is (COMM_CHCFG_EN 5) = true ∧ u.get (COMM_CSTAT_STATE 5) = 0 ∧ u.modeNow = 4 ∧ u.get (COMM_CHCFG_SENS 5) = 1 ∧
    u.get (COMM_CHCFG_HSEL 5) = 0 ∧ u.is (POS_HSTAT_VALID 0) = true ∧ u.is (POS_HSTAT_HFLT 0) = false) ∧
    ¬ ((startLane 4 0 0 true false).get (COMM_CHCFG_SENS 5) = 1 ∨ (startLane 4 0 0 true false).get (COMM_CHCFG_SENS 5) = 2) ∧
    ((startLane 8 2 0 false true).is (POS_HSTAT_VALID 0) = false ∧ (startLane 8 2 0 false true).is (COMM_CHCFG_SFB 5) = true) ∧
    ((startLane 8 2 0 false false).is (COMM_CHCFG_SFB 5) = false ∧ (startLane 8 2 0 false false).get (COMM_CHCFG_SENS 5) = 2) ∧
    (startLane 3 1 0 true false).modeNow = 3 ∧ (startLane 4 1 7 true false).get (COMM_CSTAT_STATE 5) = 7 ∧
    (startLane 4 1 3 true false).get (COMM_CSTAT_STATE 5) = 3 ∧ (startLane 4 1 4 true false).get (COMM_CSTAT_STATE 5) = 4 ∧
    (startLane 4 0 6 true false).get (COMM_CSTAT_STATE 5) = 6 ∧ (startLane 4 0 6 true false).is (COMM_CSTAT_DEF 5) = false ∧
    (startLane 4 0 6 true false).log.buf.length < 32 := by decide +kernel
theorem test_start : (after (.startForward .a 5) (startLane 4 1 0 true false)).get (COMM_CSTAT_STATE 5) = 6 ∧
    (after (.startForward .a 5) (startLane 4 0 0 true false)).get (COMM_CSTAT_STATE 5) = 1 ∧
    (after (.startForward .a 5) (startLane 3 0 0 true false)).is COMM_IEN_REJ = true := by decide +kernel

/-- The loop unit in SERVICE with slot 23 enabled, an injection of order 7 or a sweep of no frames, and a capture. -/
def loopLane (f : LoopCopy → LoopCopy) : Lane :=
  let u := (((inMode 5).cputBoth (LOOP_CFG_EN 23) 1).cputBoth LOOP_INJ_ORDER 7)
  { u with loop := ⟨f u.loop.p, f u.loop.s⟩ }
def sweepLane : Lane :=
  (loopLane (fun x => { x with inject := { x.inject with on := true } })).cputBoth LOOP_INJ_WAVE 1
def captureLane : Lane := loopLane (fun x => { x with cap := { x.cap with on := true, words := [7], count := 1 } })
theorem witness_LoopCommands : (loopLane id).modeNow = 5 ∧ (inMode 4).modeNow ≠ 5 ∧
    (∀ k : Copy, k = .p ∨ k = .s → (loopLane id).cget k (LOOP_CFG_EN 23) = 1 ∧
      (7 ≤ (loopLane id).cget k LOOP_INJ_ORDER ∧ (loopLane id).cget k LOOP_INJ_ORDER ≤ 15)) ∧
    ((sweepLane.loop.get .p).inject.on = true ∧ sweepLane.cget .p LOOP_INJ_WAVE = 1 ∧
      sweepLane.cget .p LOOP_SWDUR_DUR ≤ (sweepLane.loop.get .p).inject.frames) ∧
    ((captureLane.loop.get .s).cap.on = true ∧ captureFull (captureLane.cregs.get .s) (captureLane.loop.get .s).cap = true) ∧
    (captureLane.loop.get .p).cap.words.getD (captureLane.cget .p LOOP_CAPIDX_IDX) 0 =
      (captureLane.loop.get .s).cap.words.getD (captureLane.cget .s LOOP_CAPIDX_IDX) 0 :=
  ⟨by decide +kernel, by decide +kernel, by intro k h; rcases h with rfl | rfl <;> decide +kernel, by decide +kernel,
    by decide +kernel, by decide +kernel⟩
theorem test_manual_all : (vget (after (.manualOn .a 31) (loopLane id)).loop.p.slot 23 .reset).manual = true ∧
    (vget (after (.manualOn .a 31) (loopLane id)).loop.p.slot 22 .reset).manual = false ∧
    (after (.manualOn .a 23) (inMode 4)).cget .s LOOP_STAT_REJ = 1 := by decide +kernel

/-! ### Gates, bus, Stopper, agreement -/

/-- Leg 17 (phase W of channel 5) with its channel sampled in a sector that every command of the channel drives. -/
def legLane (f : LegUnit → LegUnit) : Lane :=
  (lane0.setLeg 17 (f LegUnit.reset)).setChD 5 { ChanDrive.reset with taken := ⟨7, 1, 1, 1⟩, sector := 6 }
theorem witness_GateOutputs : ((legLane id).mayDrive 17 true = true ∧ (legLane id).mayDrive 17 false = true ∧
      ((legLane id).legU 17).low = false ∧ ((legLane id).legU 17).high = false) ∧
    ((legLane id).on BRDG_STAT_UVLO).is BRDG_STAT_UVLO = true ∧ bit (((legLane id).wr BRDG_SCSTAT 0x20000).rd BRDG_SCSTAT) 17 = true ∧
    ((legLane fun u => { u with softHigh := true }).legU 17).softHigh = true ∧ lane0.mayDrive 17 false = false ∧
    ((legLane fun u => { u with high := true }).legU 17).high = true ∧
    legMode (((legLane id).setChD 5 { ChanDrive.reset with taken := ⟨7, 1, 1, 3⟩, sector := 6 }).legEff 17) = 3 ∧
    ((legLane fun u => { u with refresh := true }).legU 17).refresh = true := by decide +kernel
theorem test_gate : ((after (.pwmEdge .a 35 true 0 9) (legLane id)).legU 17).low = true ∧
    ((after (.pwmEdge .a 35 true 0 9) (legLane fun u => { u with high := true })).legU 17).low = false := by decide +kernel

def tripped : Lane := (legLane fun u => { u with softLow := true }).wr BRDG_SCSTAT 0x20000
theorem witness_ShortCircuits : (bit ((legLane id).rd BRDG_SCSTAT) 17 = false ∧ ((legLane id).legU 17).blankLow = false ∧
      ((legLane id).chD (17 / 3)).tripLeg = none) ∧
    (let u := (legLane id).setChD 5 { ChanDrive.reset with tripLeg := some 16 }
     (u.chD (17 / 3)).tripLeg = some 16 ∧ u.is (BRDG_SCREC_TWO 5) = false) ∧
    bit (tripped.rd BRDG_SCSTAT) 17 = true ∧ (tripped.legU 17).softLow = true ∧ tripped.brdg.override = false ∧
    tripped.cst 5 = 0 ∧ (tripped.put (COMM_CSTAT_STATE 5) 7).cst 5 = 7 ∧ (tripped.put (COMM_CSTAT_STATE 5) 6).cst 5 = 6 ∧
    (0x20000 : BitVec 18).getLsbD 17 = true ∧ (0 : BitVec 18).getLsbD 17 = false ∧ (tripped.legU 17).toReserve = false ∧
    (let u : Lane := { legLane id with wear := { (legLane id).wear with needStage := 0x400000000 } }
     u.wear.needStage.getLsbD 34 = true ∧ (34 : Fin 37).val / 2 = 17 ∧ (u.legU 17).high = false ∧ (u.legU 17).low = false) := by
  decide +kernel
theorem witness_ShortCircuits_others : ∀ i, i / 3 = 17 / 3 → i ≠ 17 → ((tripped.legU i).softHigh || (tripped.legU i).softLow) = false := by
  intro i h1 h2
  have h : ∀ j : Fin 18, j.val ≠ 17 → ((tripped.legU j.val).softHigh || (tripped.legU j.val).softLow) = false := by decide +kernel
  exact h ⟨i, by omega⟩ h2
theorem test_short_latches : (after (.shortDetected .a 17 true false 9) (legLane id)).rd BRDG_SCSTAT = 0x20000 ∧
    (after (.shortDetected .a 17 true false 9) (legLane fun u => { u with blankLow := true })).rd BRDG_SCSTAT = 0 := by decide +kernel

/-- The chopper enabled, on or off, its VBUS at 40 V and its resistor at 1 ohm. -/
def chopLane (on : Bool) (low : Nat) : Lane :=
  let u := (((inMode 3).on BRDG_CFG_CHEN).putB BRDG_STAT_CHON on).put BRDG_VBUS_VBUS 0x8000
  { u with brdg := { u.brdg with locked := true, chopLow := low } }
theorem witness_BusAndChopper : ((chopLane false 0).is BRDG_CFG_CHEN = true ∧ (chopLane false 0).brdg.locked = true ∧
      (chopLane false 0).is BRDG_STAT_UVLO = false ∧ (chopLane false 0).brdg.chopLatched = false) ∧
    ¬ ((chopLane false 0).is BRDG_STAT_CHON = true) ∧ (chopLane true 0).is BRDG_STAT_CHON = true ∧
    160000 ≤ ((160000 : LTime) - (chopLane true 0).brdg.chopSince).toNat ∧ ¬ 160000 ≤ ((159999 : LTime) - (chopLane true 0).brdg.chopSince).toNat ∧
    ((chopLane true 99).put BRDG_CHCFG_CHR 100).brdg.chopLow = 99 ∧
    (3999 * 65536 * ((chopLane true 99).put BRDG_CHCFG_CHR 100).get BRDG_CHCFG_CHR < (chopLane true 99).get BRDG_VBUS_VBUS * 800000) ∧
    ¬ (4000 * 65536 * ((chopLane true 99).put BRDG_CHCFG_CHR 100).get BRDG_CHCFG_CHR < (chopLane true 99).get BRDG_VBUS_VBUS * 800000) ∧
    (chopLane true 0).is BRDG_STAT_CHF = false ∧ ((chopLane true 0).on BRDG_STAT_CHF).is BRDG_STAT_CHF = true ∧ bit (1 : Word) 0 = true ∧
    (let u := ((chopLane false 0).put BRDG_CHCFG_CHTH 401).put BRDG_CHCFG_HYS 0
     (u.modeNow = 3 ∨ u.modeNow = 5) ∧
       u.get BRDG_VBUS_VBUS * 800 < (u.get BRDG_CHCFG_CHTH - 5 * u.get BRDG_CHCFG_HYS) * 65536 ∧
       0 * 65536 * u.get BRDG_CHCFG_CHR < u.get BRDG_VBUS_VBUS * 800000) ∧ (inMode 4).modeNow = 4 := by decide +kernel
theorem test_chopper_low : (after (.chopperCurrentSample .a 3999) ((chopLane true 99).put BRDG_CHCFG_CHR 100)).get BRDG_STAT_CHFC = 2 ∧
    (after (.chopperCurrentSample .a 4000) ((chopLane true 99).put BRDG_CHCFG_CHR 100)).brdg.chopLow = 0 := by decide +kernel

theorem witness_StopperTriggers : lane0.is STOP_STAT_REACT = false ∧ (lane0.on STOP_STAT_REACT).is STOP_STAT_REACT = true ∧
    (let u := (lane0.put STOP_IN_SETL 15).put STOP_IN_FILT 9
     (u.get STOP_IN_SETL).testBit 0 = true ∧ (u.get STOP_IN_SETL).testBit 1 = true ∧ (u.get STOP_IN_SETL).testBit 3 = true ∧
       (u.get STOP_IN_FILT).testBit 0 ≠ (u.get STOP_IN_FILT).testBit 1 ∧ (u.get STOP_IN_FILT).testBit 2 ≠ (u.get STOP_IN_FILT).testBit 3) ∧
    (lane0.on STOP_STAT_ARMD).is STOP_STAT_ARMD = true ∧ (inMode 2).locked = true ∧ (inMode 2).modeNow = 2 ∧
    (inMode 2).stop.testPassed = false ∧ bit (1 : Word) 0 = true ∧ bit (2 : Word) 0 = false ∧ lane0.log.buf.length < 32 := by decide +kernel
theorem test_safety_input : (after (.safetyInputFiltered .a 3 false 9) lane0).is STOP_STAT_GDEM = true ∧
    (after (.safetyInputFiltered .a 3 false 9) lane0).is STOP_STAT_REACT = true := by decide +kernel

/-- A running lane with a challenge out since lane time 0, its pattern 0xACE1, and a number of misses. -/
def beatLane (miss : Nat) : Lane :=
  (((lane0.put TALLY_STAT_LSTATE lsRunning).on STOP_HB_OUT).put STOP_HB_CHAL 0xACE1).put STOP_HB_MISS miss
/-- rotl(0xACE1, 5) is 0x9C35; xor 0x3C96 gives 0xA0A3, whose complement is 0x5F5C. -/
theorem witness_HeartbeatAndPark : isRunning (beatLane 0).lstate = true ∧
    (vget (beatLane 0).pwr.phase 0 .on = .on ∧ vget (beatLane 0).pwr.phase 1 .on = .on) ∧ ¬ (isRunning lane0.lstate = true) ∧
    (beatLane 0).is STOP_HB_OUT = true ∧
    (let r : BitVec 16 := (BitVec.ofNat 16 ((beatLane 0).get STOP_HB_CHAL)).rotateLeft 5 ^^^ 0x3C96
     (0x5F5CA0A3 : Word) = ~~~r ++ r ∧ 160000 ≤ ((160000 : LTime) - (beatLane 0).stop.chalAt).toNat ∧
       ((6400000 : LTime) - (beatLane 0).stop.chalAt).toNat ≤ 6400000 ∧ (0x5F5CA0A2 : Word) ≠ ~~~r ++ r) ∧
    (beatLane 0).get STOP_HB_MISS = 0 ∧ (beatLane 1).get STOP_HB_MISS = 1 ∧
    ((beatLane 1).rj.times.filter (fun x => decide (((beatLane 1).lt - x).toNat ≤ 480000000000))).length < 3 ∧
    ((beatLane 1).at 9).rj.times = [] ∧
    lane0.is BRDG_STAT_UVLO = false ∧ lane0.brdg.override = false ∧ lane0.rj.restartAtRelease = false := by decide +kernel
def parkLane : Lane :=
  let u := (lane0.on STOP_STAT_PARKP).put (COMM_CHCFG_ROLE 5) 2
  u.setHall 0 { u.hallU 0 with lines := 1 }
theorem witness_Park : (parkLane.is STOP_STAT_PARKP = true ∧ parkLane.get (COMM_CHCFG_ROLE 5) = 2 ∧ parkLane.parkSector 5 = some 0) ∧
    (let u := parkLane.setHall 0 { parkLane.hallU 0 with lines := 7 }
     u.parkSector 5 = none ∧ u.get (COMM_CHCFG_ROLE 5) = 2) := by decide +kernel
theorem test_heartbeat : (after (.heartbeatResponse .a 0x5F5CA0A3 160000) (beatLane 1)).get STOP_HB_MISS = 0 ∧
    (after (.heartbeatResponse .a 0x5F5CA0A3 159999) (beatLane 0)).get STOP_HB_MISS = 1 := by decide +kernel

/-- Lane A running beside lane B, its links up. -/
def agreeLane : Lane :=
  let u := ((lane0.put TALLY_STAT_LSTATE lsRunning).on SPLC_STAT_UPN).on SPLC_STAT_UPP
  let e : LaneEntry := { u.agr.vec.a with lstate := lsRunning, mode := 4 }
  { u with agr := { u.agr with vec := ⟨e, e, u.agr.vec.c⟩ } }
def q0 : Q0Body := ⟨some 0x8000, none, []⟩
def body : VBody := ⟨0, 0, 0, agreeLane.agr.vec.a, ⟨0, 0, 0⟩, 0, []⟩
def packet (src : LaneId) (ok : Bool) (p : Payload) : Packet := ⟨src, 0, 0, ok, none, p⟩
theorem witness_SplicePackets_links : agreeLane.is SPLC_STAT_UPN = true ∧ agreeLane.is SPLC_STAT_UPP = true ∧
    (agreeLane.put SPLC_STAT_UPP 0).is SPLC_STAT_UPP = false ∧ isRunning agreeLane.lstate = true ∧
    (agreeLane.rj.times.filter (fun x => decide ((agreeLane.lt - x).toNat ≤ 480000000000))).length < 3 ∧
    (∃ o ∈ (agreeLane.put SPLC_STAT_UPP 0).voters, o ≠ agreeLane.id) ∧ agreeLane.locked = true ∧ agreeLane.domOn 5 = true := by decide +kernel
theorem witness_SplicePackets_packets : (packet .b false (.q0 q0)).crcOk = false ∧ agreeLane.rj.crcRunN < 3 ∧
    ({ agreeLane.rj with crcRunN := 3 } : RejoinUnit).crcRunN = 3 ∧ (packet .a true (.q0 q0)).src = agreeLane.id ∧
    ((packet .b true (.q0 q0)).src ≠ agreeLane.id ∧ (packet .b true (.q0 q0)).body = .q0 q0 ∧ agreeLane.agr.q0.get .b = none) ∧
    ((packet .b true (.v body)).body = .v body ∧ body.demand = [] ∧ agreeLane.agr.v.get .b = none ∧ agreeLane.agr.v.get agreeLane.id = none) := by
  decide +kernel
def votingLane : Lane := { agreeLane with agr := { agreeLane.agr with v := ⟨some body, none, none⟩ } }
theorem witness_SplicePackets_rounds : (votingLane.locked = true ∧ votingLane.domOn 5 = true ∧ votingLane.agr.voted = false ∧
      (votingLane.agr.v.get votingLane.id).isSome = true ∧ .b ∈ votingLane.voters ∧ LaneId.b ≠ votingLane.id ∧ votingLane.agr.v.get .b = none) ∧
    (isRunning (agreeLane.agr.vec.get .b).lstate = true ∧ LaneId.b ∉ agreeLane.agr.gone ∧ LaneId.b ∉ agreeLane.agr.goneLate) ∧
    agreeLane.agr.demands = [] ∧
    (let u : Lane := { agreeLane with agr := { agreeLane.agr with demands := [(.c, .a)] } }
     LaneId.c ≠ u.id ∧ LaneId.c ≠ .b ∧ (LaneId.c, u.id) ∈ u.agr.demands) ∧
    (let u := (agreeLane.put TALLY_STAT_LSTATE lsResync).put TALLY_AGCFG_SIZE 64
     u.lstate = 3 ∧ u.is SPLC_STAT_UPN = true ∧ (255 : Byte).toNat < 4 * u.get TALLY_AGCFG_SIZE ∧ (255 : Byte).toNat ∉ u.rj.blocks) := by
  decide +kernel
theorem test_packet_forwarded : (after (.agreementPacketReceived .a .next false (packet .b true (.q0 q0)) 9) agreeLane).agr.tx =
    [(.prev, packet .b true (.q0 q0))] ∧
    (after (.agreementPacketReceived .a .next false (packet .b false (.q0 q0)) 9) agreeLane).agr.tx = [] := by decide +kernel

theorem witness_AgreementRounds : (agreeLane.agr.v = ⟨none, none, none⟩ ∧ agreeLane.rj.offs = ⟨none, none, none⟩ ∧
      ∃ o ∈ agreeLane.voters, o ≠ agreeLane.id) ∧
    (0 ≤ (2 : Int) ∧ (-5 : Int) ≤ -4 ∧ (-4 : Int) ≤ 9) ∧
    (let u : Lane := { agreeLane with agr := { agreeLane.agr with copies := [⟨.b, 5, [1, 2]⟩] } }
     (⟨.b, 5, [1, 2]⟩ : CmdCopy) ∈ u.agr.copies ∧ ((300000 : LTime) - (5 + BitVec.ofNat 64 u.matchUnits)).toNat < 2 ^ 63) ∧
    ((inMode 2).locked = true ∧ (inMode 2).modeNow = 2 ∧ (inMode 2).mode.selfCheck = false ∧ (inMode 2).rj.checking = false ∧ (1 : Byte) ≠ 0) ∧
    (let u := (lane0.put TALLY_AGCFG_SIZE 64).put TALLY_AGIDX_IDX 16383
     u.get TALLY_AGIDX_IDX < 256 * u.get TALLY_AGCFG_SIZE) := by decide +kernel
theorem witness_AgreementRounds_median : ([9, -5, -4] : List Int).Perm [-5, -4, 9] := by decide
theorem test_agreement : agreeVals 2 3 [9, -5, -4] = some (-4) ∧ agreeVals 2 2 [-5, -4] = some (-5) ∧ agreeVals 2 2 [1, 4] = none := by
  decide +kernel

/-! ### Registers, modes and sequences -/

theorem witness_ResultSets : (bit (rtaMask (POS_SR_STAT 15)) 16 = true ∧ ∀ n, n < 16 → bit (rtaMask (POS_SR_STAT 15)) n = true) ∧
    POS_SR_STAT 15 ∉ [POS_SR_SPDL 15, POS_SR_SPDH 15, POS_SR_TEND 15] ∧
    (∀ d, d ∈ [(POS_SR_SPDL 15, (7 : Word))] ++ [(POS_SR_SPDL 15, (8 : Word))] → d.1 ∈ [POS_SR_SPDL 15, POS_SR_SPDH 15, POS_SR_TEND 15]) := by
  decide +kernel
theorem test_latch : (let u := ((lane0.publish (POS_SR_STAT 0) 0 [(POS_SR_SPDL 0, 7)]).publish (POS_SR_STAT 0) 0 [(POS_SR_SPDL 0, 8)])
    (after (.speedResultRead .a 0) u).rd (POS_SR_SPDL 0) = 8 ∧ (after (.speedResultRead .a 0) u).rdata = 0x10002) := by decide +kernel

/-- A plain register, one with LK bits, a register held in each copy, and an offset of no register. -/
theorem witness_RegisterWrites : (∃ row, regRow LCTL_IRQ_EN = some row ∧ row.copy = false ∧ blockOf LCTL_IRQ_EN ≠ 12 ∧ row.lk = 0) ∧
    LCTL_IRQ_EN ∉ effectRegs ∧ (∃ row, regRow (COMM_CHCFG 0) = some row ∧ row.copy = false ∧ blockOf (COMM_CHCFG 0) ≠ 12 ∧ row.lk ≠ 0) ∧
    COMM_CHCFG 0 ∉ effectRegs ∧ COMM_CHCFG 0 < 0x100000 ∧ lane0.locked = true ∧ State.reset.a.locked = false ∧
    (∃ row, regRow LOOP_CAPIDX = some row ∧ row.copy = true ∧ row.staged = false) ∧ LOOP_CAPIDX ≠ LOOP_CMD ∧
    regRow 0xFFFFC = none ∧ blockOf STOP_STAT = 12 :=
  ⟨⟨_, rfl, by decide +kernel⟩, by decide +kernel, ⟨_, rfl, by decide +kernel⟩, by decide +kernel, by decide +kernel,
    by decide +kernel, by decide +kernel, ⟨_, rfl, by decide +kernel⟩, by decide +kernel, by decide +kernel, by decide +kernel⟩
theorem witness_RegisterWrites_notRecords : ∀ n, n < 48 → LOOP_CAPIDX ≠ SECT_NXT_C n := by
  have h : ∀ n : Fin 48, LOOP_CAPIDX ≠ SECT_NXT_C n.val := by decide +kernel
  exact fun n hn => h ⟨n, hn⟩
theorem test_locked_write : (after (.registerWrite .a (BitVec.ofNat 32 (0x40000000 + COMM_CHCFG 0)) 1) lane0).rd (COMM_CHCFG 0) = lane0.rd (COMM_CHCFG 0) ∧
    lane0.rd (COMM_CHCFG 0) = 2 ∧
    (after (.registerWrite .a (BitVec.ofNat 32 (0x40000000 + COMM_CHCFG 0)) 1) lane0).log.buf.length = 1 := by decide +kernel
theorem test_extest : (after (.boundaryScanInstruction .a .extest) (inMode 4)).jtag = .bypass ∧
    (after (.boundaryScanInstruction .a .extest) (inMode 12)).jtag = .extest := by decide +kernel

/-- Lane A the one running lane of the module, in a mode, with its checks passed, its guard tests good and its channels OFF. -/
def modeLane (m : Nat) (f : LaneEntry → LaneEntry) : Lane :=
  let u := (((inMode m).put TALLY_STAT_LSTATE lsRunning).put LCTL_MODE_PEND 4).put TALLY_LANES_NRUN 2
  let e : LaneEntry := f { u.agr.vec.a with lstate := lsRunning, mode := m, checks := true, gtok := true, gtack := true }
  { u with agr := { u.agr with vec := ⟨e, { u.agr.vec.b with lstate := 0 }, { u.agr.vec.c with lstate := 0 }⟩ } }
/-- All three lanes running, and an activation waiting. -/
def updateLane : Lane :=
  let u := modeLane 3 id
  { u with
    agr := { u.agr with vec := ⟨u.agr.vec.a, u.agr.vec.a, u.agr.vec.a⟩ }
    nv := { u.nv with boot := { u.nv.boot with pendSlot := true } } }
def standLane (m : Nat) : Lane :=
  let u := (modeLane m id).put LCTL_LIMPCFG_VSTOP 1
  { u.wr TALLY_SQV 0xFFFFFFFF with lt := 900000000, stop := { u.stop with quietSince := some 0 } }.put STOP_IN_FILT 0xF
/-- An objection of every kind, and each request of the table granted. -/
theorem witness_ModeRequests : objection (modeLane 6 id) 3 0 = 0x01 ∧ objection (modeLane 4 id) 3 0 = 0x05 ∧
    objection (modeLane 9 id) 3 0 = 0x06 ∧ objection updateLane 10 0 = 0x07 ∧
    objection (modeLane 2 fun e => { e with checks := false }) 3 0 = 0x08 ∧
    objection (modeLane 3 fun e => { e with gtok := false }) 5 0 = 0x02 ∧ objection ((modeLane 4 id).put TALLY_LANES_NRUN 1) 6 0 = 0x03 ∧
    (objection (modeLane 2 id) 3 0 = 0 ∧ (modeLane 2 id).modeNow = 2) ∧ (objection (standLane 5) 3 0 = 0 ∧ (standLane 5).modeNow = 5) ∧
    (objection (standLane 9) 3 0 = 0 ∧ (standLane 9).modeNow = 9) ∧ (objection (modeLane 3 id) 4 0 = 0 ∧ (modeLane 3 id).modeNow ≠ 5) ∧
    (objection (modeLane 5 id) 4 0 = 0 ∧ (modeLane 5 id).modeNow = 5) ∧ objection (modeLane 4 id) 5 0 = 0 ∧
    objection (modeLane 4 id) 6 0 = 0 ∧ objection (modeLane 4 id) 7 0 = 0 ∧ objection (modeLane 3 id) 11 0 = 0 ∧
    objection (modeLane 9 id) 12 0 = 0 ∧ (objection updateLane 10 1 = 0 ∧ updateLane.id.code = 1) ∧
    (objection updateLane 10 3 = 0 ∧ LaneId.c.code = 3 ∧ LaneId.c ≠ updateLane.id) ∧ (modeLane 8 id).modeNow = 8 := by decide +kernel
theorem witness_ModeRequests_write : (((0x0100 : BitVec 16) - (lane0.rd TIME_FRAME).setWidth 16).toNat ≤ 256 ∧
      256 < ((0x0101 : BitVec 16) - (lane0.rd TIME_FRAME).setWidth 16).toNat) ∧
    ((0 : BitVec 16) - (lane0.rd TIME_FRAME).setWidth 16).toNat = 0 ∧
    (0x01000003 : Word).extractLsb' 16 16 = (0x0100 : BitVec 16) ∧
    (bits (0x0001000D : Word) 3 0 = 13 ∧ (4, 13) ∉ requestTable ∧ (4, 3) ∈ requestTable) := by decide +kernel
theorem test_mode_request : (after (.requestArmed .a) (modeLane 3 id)).modeNow = 4 ∧
    (after (.requestService .a) (modeLane 3 fun e => { e with gtok := false })).get LCTL_MODE_REJC = 2 ∧
    (after (.requestRun3 .a) (modeLane 4 id)).modeNow = 7 := by decide +kernel

/-- Lane A at a stage of its start-up. -/
def stageLane (x : StartStage) : Lane := { lane0 with pwr := { lane0.pwr with stage := x } }
theorem witness_Startup : (stageLane .bist).pwr.stage = .bist ∧
    ((true && true && decide (920 ≤ 920) && true) = true ∧ (true && true && decide (920 ≤ 919) && true) = false) ∧
    (stageLane .filling).pwr.stage ≠ .bist ∧ (stageLane .filling).pwr.stage = .filling ∧
    (∀ e, e ∈ ([⟨3, 9, 0, false⟩] : List FillError) → e.many = false) ∧ (∃ e, e ∈ ([⟨3, 9, 0, true⟩] : List FillError) ∧ e.many = true) ∧
    (stageLane .configuring).pwr.stage = .configuring ∧ (stageLane .configuring).nv.wout = false ∧
    ({ stageLane .configuring with nv := { lane0.nv with wout := true } } : Lane).nv.wout = true ∧
    (let u : Lane := { lane0 with nv := { lane0.nv with boot := { lane0.nv.boot with trial := true } } }
     u.nv.boot.trial = true ∧ u.locked = true ∧ u.lstate ≠ lsRunning) ∧ lane0.nv.boot.trial = false := by
  refine ⟨by decide +kernel, by decide +kernel, by decide +kernel, by decide +kernel, ?_, ⟨_, List.mem_singleton.mpr rfl, rfl⟩,
    by decide +kernel, by decide +kernel, rfl, by decide +kernel, by decide +kernel⟩
  intro e h; rw [List.mem_singleton.mp h]
theorem test_worn_out : (after (.configurationLock .a) (stageLane .configuring)).helm.run = .running ∧
    (after (.configurationLock .a) { stageLane .configuring with nv := { lane0.nv with wout := true } }).pwr.stage = .heldInit := by
  decide +kernel

/-- Lane A at a step of its shutdown. -/
def shutLane (x : ShutStep) (held : Bool) : Lane := { inMode 12 with mode := { lane0.mode with shut := x, heldWake := held } }
theorem witness_Shutdown : ((shutLane .flush false).mode.shut = .flush ∧ (shutLane .repair false).mode.shut = .repair) ∧
    ((shutLane .zeroise false).mode.shut = .zeroise ∧ (shutLane .zeroise false).mode.heldWake = false) ∧
    ((shutLane .logic false).mode.shut = .logic ∧ (shutLane .memory false).mode.shut = .memory) ∧
    ((shutLane .record false).mode.shut = .record ∧ (shutLane .record false).mode.heldWake = false) ∧
    (shutLane .done false).mode.shut = .done ∧ ((shutLane .off false).mode.shut ≠ .done ∧ (shutLane .off false).mode.shut ≠ .none) ∧
    lane0.mode.shut = .none ∧ (Instr.fieldFuseRepair .a, ShutStep.repair) ∈ [(Instr.fieldFuseRepair .a, ShutStep.repair)] := by decide +kernel
theorem test_shutdown_order : (after (.logicBistDone .a true) (shutLane .logic false)).mode.shut = .memory ∧
    (after (.logicBistDone .a true) (shutLane .flush false)).mode.shut = .flush := by decide +kernel

/-- Lane A at a step of its sleep sequence, every wake source enabled, its channels off and its drive program waiting. -/
def sleepLane (x : SleepStep) : Lane :=
  let u := ((inMode 3).wr PWR_WAKEEN 0xFF).on PWR_SLPOK_OK
  { u with mode := { u.mode with sleep := x }, drv := { u.drv with run := .waiting } }
def yes : SleepAnswer := ⟨false, false, true, none⟩
theorem witness_Sleep : ((sleepLane (.ask 1)).mode.sleep = .ask 1 ∧ (sleepLane (.ask 1)).is PWR_DOMSTAT_BUSY = false) ∧
    (domainRefuses (sleepLane (.ask 1)) 1 yes = none ∧ domainRefuses (sleepLane (.ask 5)) 5 yes = none) ∧
    (let u := sleepLane (.ask 1)
     domainRefuses { u with drv := { u.drv with run := .running } } 1 yes = some 1) ∧
    domainRefuses ((sleepLane (.ask 2)).put PWR_SLPOK_OK 0) 2 yes = some 2 ∧
    domainRefuses (sleepLane (.ask 3)) 3 { yes with calibrating := true } = some 3 ∧
    domainRefuses (sleepLane (.ask 4)) 4 { yes with canQueued := true } = some 4 ∧
    domainRefuses (sleepLane (.ask 4)) 4 { yes with refusedBy := some .b } = some 5 ∧
    ((sleepLane .none).on PWR_DOMSTAT_BUSY).is PWR_DOMSTAT_BUSY = true ∧
    (bit ((sleepLane .asleep).rd PWR_WAKEEN) ((wakeCode .key).1 - 1) = true ∧ (sleepLane .asleep).mode.sleep = .asleep) ∧
    bit ((inMode 3).rd PWR_WAKEEN) ((wakeCode .timer).1 - 1) = false ∧
    (lane0.put PWR_WKTIME_SEC 1).get PWR_WKTIME_SEC ≠ 0 ∧ lane0.get PWR_WKTIME_SEC = 0 ∧
    ((sleepLane .rollback).mode.sleep = .rollback ∧ (sleepLane (.ask 5)).mode.sleep = .ask 5) := by decide +kernel
theorem test_sleep_refused : (after (.sleepDomainAnswer .a { yes with calibrating := true }) (sleepLane (.ask 3))).get PWR_WAKE_RCODE = 3 ∧
    (after (.sleepDomainAnswer .a yes) (sleepLane (.ask 3))).mode.sleep = .ask 4 := by decide +kernel

/-! ### Images

Whether an image verifies rests on free functions (log 8, 9): the witnesses of clauses about good images take the
outcome of SM2's verification as their one premise. -/

theorem bytesWord_wordBytes (w : Word) : bytesWord (wordBytes w) = w := by
  apply BitVec.eq_of_getLsbD_eq
  intro i hi
  simp only [bytesWord, wordBytes, List.getD_cons_zero, List.getD_cons_succ, BitVec.getLsbD_append, BitVec.getLsbD_extractLsb']
  by_cases h0 : i < 8
  · simp [h0]
  · by_cases h1 : i - 8 < 8
    · simp [h0, h1]; congr 1; omega
    · by_cases h2 : i - 8 - 8 < 8
      · simp [h0, h1, h2]; congr 1; omega
      · have h3 : i - 8 - 8 - 8 < 8 := by omega
        simp [h0, h1, h2, h3]; congr 1; omega

/-- A block built by `mkBlock` passes its check. -/
theorem blockOk_mkBlock (l : List Byte) : blockOk (mkBlock l) = true := by
  have len : (padTo 4092 (l.take 4092)).length = 4092 := by
    simp [padTo, List.length_take]
    all_goals omega
  have h := bytesWord_wordBytes (crc32c (padTo 4092 (l.take 4092)))
  simp only [blockOk, mkBlock]
  rw [List.take_left' len, List.drop_left' len, h]
  simp [len, wordBytes]

/-- An image of one block: a header of its kind, format version 5, an all-zero key and signature. -/
def imageOf (kind : Nat) : ImageStore :=
  ⟨true, [(0, mkBlock (leBytes 4 0x494B444C ++ [1, BitVec.ofNat 8 kind, 0, 5] ++ leBytes 4 77 ++ leBytes 2 1))]⟩
def goodKeys : Vector KeySlot 4 := Vector.replicate 4 ⟨Config.sm3 (List.replicate 64 0), true, false⟩

theorem imageOf_crcOk (kind : Nat) (h : kind = 1 ∨ kind = 2 ∨ kind = 3) : (imageOf kind).crcOk = true := by
  have n : (imageOf kind).n = 1 := by rcases h with rfl | rfl | rfl <;> decide +kernel
  simp only [ImageStore.crcOk, n]
  simp [List.range_succ, imageOf, keyGet, blockOk_mkBlock]

theorem imageOf_verifies (ok : ∀ p d g, Config.sm2Verify p d g = true) (kind : Nat) (h : kind = 1 ∨ kind = 2 ∨ kind = 3) :
    (imageOf kind).result kind goodKeys = 0 := by
  have c := imageOf_crcOk kind h
  have key : ((imageOf kind).header.drop 56).take 64 = List.replicate 64 0 := by rcases h with rfl | rfl | rfl <;> decide +kernel
  have s : ((imageOf kind).keySlot goodKeys).isNone = false := by
    simp [ImageStore.keySlot, key, goodKeys, List.range_succ, vget]
  have f : (imageOf kind).fieldsOk kind = true := by rcases h with rfl | rfl | rfl <;> decide +kernel
  simp [ImageStore.result, c, s, f, ok]

/-- Registers that the loader accepts (R374, chapters 6 to 17): hall maps, the sections' sources, the bus limits,
periods of 100 us and 1 ms. -/
def goodConfig (u : Lane) : Lane :=
  let u := (List.range 8).foldl (fun (u : Lane) h =>
    u.wr (POS_HCFG h) (1 <<< 5 ||| 2 <<< 8 ||| 3 <<< 11 ||| 4 <<< 14 ||| 5 <<< 17)) u
  let u := ((u.cputBoth SECT_SRC_FN 1).cputBoth SECT_SRC_FAGE 2).cputBoth SECT_SRC_YAW 3
  (((((u.put BRDG_CHCFG_CHTH 520).put BRDG_CHCFG_HYS 1).put BRDG_OVCFG_OVABS 600).put BRDG_RSCFG_SLEW 1).put
    LCTL_LIMPCFG_AUXR 1).put WEAR_PLANCFG_PWM 400 |>.put WEAR_PLANCFG_FRAME 40

/-- Lane A with its images in the slot and the copy in force. -/
def bootLane (x : StartStage) (slots cfgs : Pair ImageStore) : Lane :=
  let u := goodConfig (stageLane x)
  { u with nv := { u.nv with keys := goodKeys, slots := slots, cfgs := cfgs, boot := { u.nv.boot with prevSlot := 1, prevCfg := 1 } } }

def images : Pair ImageStore := ⟨imageOf 1, imageOf 3⟩
def copies : Pair ImageStore := ⟨imageOf 2, imageOf 3⟩
def noImages : Pair ImageStore := ⟨⟨false, []⟩, ⟨false, []⟩⟩
def loads : LoadResult := ⟨true, true, true, true⟩

/-- A pair of images that verify, and a configuration that the loader takes. -/
theorem witness_ImageLoaded_good (ok : ∀ p d g, Config.sm2Verify p d g = true) : let u := bootLane .loading images copies
    u.pwr.stage = .loading ∧ u.slotOk loads u.nv.boot.slot = true ∧ u.copyOk loads u.nv.boot.cfg = true ∧
    (u.nv.cfg u.nv.boot.cfg).cfgVersion = (u.nv.img u.nv.boot.slot).cfgVersion ∧
    ∃ e, ({ u with nv := { u.nv with boot := { u.nv.boot with fellBack := u.nv.boot.failed, failed := false } } }).showNv.copyEntries
      (u.nv.img u.nv.boot.slot) (u.nv.cfg u.nv.boot.cfg) = some e := by
  have h1 := imageOf_verifies ok 1 (by decide)
  have h2 := imageOf_verifies ok 2 (by decide)
  refine ⟨rfl, ?_, ?_, by decide +kernel, ?_⟩
  · show (true && (imageOf 1).result 1 goodKeys == 0) = true
    rw [h1]; rfl
  · show (true && ((imageOf 2).result 2 goodKeys == 0 || ((imageOf 2).crcOk && (none == some (imageOf 2).digest)))) = true
    rw [h2]; simp
  · have h : ({ bootLane .loading images copies with nv := { (bootLane .loading images copies).nv with
        boot := { (bootLane .loading images copies).nv.boot with fellBack := false, failed := false } } } : Lane).showNv.copyEntries
        (imageOf 1) (imageOf 2) = some [] := by decide +kernel
    exact ⟨_, h⟩
/-- A bad slot beside a good previous one; two bad slots; a good slot beside two bad copies. -/
theorem witness_ImageLoaded_bad (ok : ∀ p d g, Config.sm2Verify p d g = true) :
    (let u := bootLane .loading ⟨⟨false, []⟩, imageOf 1⟩ copies
     ¬ (u.slotOk loads u.nv.boot.slot = true) ∧ u.slotOk loads u.nv.boot.prevSlot = true ∧ u.nv.boot.prevSlot ≠ u.nv.boot.slot) ∧
    (let u := bootLane .loading noImages noImages
     ¬ (u.slotOk loads u.nv.boot.slot = true) ∧ ¬ (u.slotOk loads u.nv.boot.prevSlot = true)) ∧
    (let u := bootLane .loading images noImages
     u.slotOk loads u.nv.boot.slot = true ∧ u.copyOk loads u.nv.boot.cfg = false ∧ u.copyOk loads u.nv.boot.prevCfg = false) := by
  have h1 := imageOf_verifies ok 1 (by decide)
  refine ⟨⟨by decide +kernel, ?_, by decide +kernel⟩, ⟨by decide +kernel, by decide +kernel⟩, ⟨?_, by decide +kernel, by decide +kernel⟩⟩
  · show (true && (imageOf 1).result 1 goodKeys == 0) = true
    rw [h1]; rfl
  · show (true && (imageOf 1).result 1 goodKeys == 0) = true
    rw [h1]; rfl
theorem test_no_image : (after (.imageLoaded .a loads) (bootLane .loading noImages noImages)).pwr.stage = .heldInit ∧
    (after (.imageLoaded .a loads) (bootLane .filling noImages noImages)).pwr.stage = .filling := by decide +kernel

/-! ### Memory integrity, wear and the log line -/

/-- Lane A with wrong bits in the last word of the drive data SRAM of copy S (memory 7). -/
def flipLane (x : BitVec 39) : Lane := lane0.setFlip 7 0xFFFF x
theorem witness_ScrubRead : (lane0.locked = true ∧ (0xFFFF : BitVec 20).toNat < memWords 7 ∧ lane0.testMem 7 = false) ∧
    errBits (lane0.flipAt 7 0xFFFF ^^^ 0) = [] ∧ errBits ((flipLane 4).flipAt 7 0xFFFF ^^^ 0) = [2] ∧
    errBits (lane0.flipAt 7 0xFFFF ^^^ 0x4000000000) = [38] ∧ errBits ((flipLane 4).flipAt 7 0xFFFF ^^^ 1) = [0, 2] ∧
    3 ≤ (errBits ((flipLane 6).flipAt 7 0xFFFF ^^^ 1)).length ∧
    (⟨7, 0xFFFF⟩ : WriteBack) ∉ lane0.mem.wback ∧
    (let u : Lane := { lane0 with mem := { lane0.mem with wback := [⟨7, 0xFFFF⟩] } }
     (⟨7, 0xFFFF⟩ : WriteBack) ∈ u.mem.wback ∧ u.mem.wback = ⟨7, 0xFFFF⟩ :: []) ∧
    memWords 7 ≤ (0x10000 : BitVec 20).toNat ∧ ((lane0.on MEM_CBTEST_EN).on MEM_CBTEST_SEL).testMem 7 = true ∧
    State.reset.a.locked = false := by decide +kernel
/-- The table's cases: an address in it, a free entry, no free entry with one that may go, and 16 hard ones. -/
def tableLane (hard : Bool) : Lane := lane0.setCeTable 7 ((List.range 16).map (fun w => ⟨w, 2, 1, hard, false⟩))
theorem witness_ScrubRead_table :
    ((tableLane false).ceTable 7).find? (fun x => x.wadr == 15) = some ⟨15, 2, 1, false, false⟩ ∧
    ((tableLane false).ceTable 7).find? (fun x => x.wadr == 16) = none ∧ (lane0.ceTable 7).length < 16 ∧
    16 ≤ ((tableLane false).ceTable 7).length ∧ (∃ x, x ∈ (tableLane false).ceTable 7 ∧ x.hard = false) ∧
    (∀ x, x ∈ (tableLane true).ceTable 7 → x.hard = true) := by decide +kernel
theorem test_scrub : (after (.scrubRead .a 7 0xFFFF 4) lane0).mem.wback = [⟨7, 0xFFFF⟩] ∧
    (after (.scrubRead .a 7 0xFFFF 5) lane0).is MEM_STAT_UE = true := by decide +kernel

/-- Block 477 with a reserve block 500 left, or none, or failed for good. -/
def storeLane (m : Nat) (free failed refresh : List Nat) : Lane :=
  let u := inMode m
  { u with nv := { u.nv with map := ⟨[], free, [], [(16 * 477 + 3, 9)], refresh, failed, 0⟩ } }
theorem witness_StoreDie : ((477 : Fin 478).val ∈ (storeLane 3 [] [477] []).nv.map.failed) ∧
    ((477 : Fin 478).val ∉ (storeLane 3 [500] [] []).nv.map.failed ∧ (storeLane 3 [500] [] []).nv.map.free = 500 :: []) ∧
    (storeLane 3 [] [] []).nv.map.free = [] ∧ ((0 : Fin 4) = 0 ∧ (2 : Fin 4) = 2 ∧ (3 : Fin 4) = 3) ∧
    ((storeLane 3 [500] [] [477]).modeNow = modeStandby ∧ (storeLane 3 [500] [] [477]).upd.session = none ∧
      (477 : Fin 478).val ∈ (storeLane 3 [500] [] [477]).nv.map.refresh) ∧
    ((storeLane 12 [] [] [477]).modeNow = modeShutdown ∧ (storeLane 12 [] [] [477]).nv.map.free = []) ∧
    ((storeLane 4 [] [] []).modeNow ≠ modeStandby ∧ (storeLane 4 [] [] []).modeNow ≠ modeService ∧
      (storeLane 4 [] [] []).modeNow ≠ modeShutdown) ∧
    (∃ x ∈ (storeLane 3 [] [] []).nv.map.crc, x.1 / 16 = (477 : Fin 478).val) ∧ (477 : Fin 478).val ∉ (storeLane 3 [] [] []).nv.map.refresh := by
  decide +kernel
/-- A margin below half of the block's own one as delivered, which is free (log 11), and one that is not. -/
theorem witness_RetentionRead (h : 0 < Config.factoryMargin .a 477) : 2 * 0 < Config.factoryMargin .a 477 ∧
    Config.factoryMargin .a 477 ≤ 2 * Config.factoryMargin .a 477 := by omega
theorem test_program_moves : (after (.sectorProgram .a 477 3 7 false) (storeLane 3 [500] [] [])).nv.map.phys 477 = 500 ∧
    (after (.sectorProgram .a 477 3 7 false) (storeLane 3 [] [] [])).is MEM_SDSTAT_NORES = true := by decide +kernel

theorem witness_Chafe : (¬ ((8 : Fin 9).val < 8) ∧ ¬ ((7 : Fin 9).val < 8 ∧ lane0.domOn ((7 : Fin 9).val + 1) = false)) ∧
    (lane0.nv.baseBad < 3 ∧ lane0.is PACE_STAT_SLEW = false) ∧ (-40 ≤ (-40 : Int) ∧ (150 : Int) ≤ 150) ∧ lane0.nv.boot.trial = false ∧
    3 ≤ ({ lane0.nv with baseBad := 3 } : NvStore).baseBad ∧ lane0.nv.bar1 = false ∧
    ((0 : Fin 9).val < 8 ∧ ({ lane0 with pwr := { lane0.pwr with phase := vset lane0.pwr.phase 0 .off } } : Lane).domOn (0 + 1) = false) ∧
    (lane0.on PACE_STAT_SLEW).is PACE_STAT_SLEW = true ∧ (-41 : Int) < -40 ∧ (150 : Int) < 151 := by decide +kernel
theorem witness_Wear : lane0.nv.bar1 = false ∧ ({ lane0.nv with bar1 := true } : NvStore).bar1 = true ∧ lane0.nv.bar2 = false ∧
    lane0.nv.wout = false ∧
    (let u : Lane := { lane0 with wear := { lane0.wear with shadow := [(23, 30, 64)] } }
     u.wear.shadow.find? (fun x => x.1 == (23 : Fin 24).val) = some (23, 30, 64) ∧ 64 ≤ (23, 30, 64).2.2) ∧
    (∀ x ∈ ([(23, 30, 63)] : List (Nat × Nat × Nat)), x.1 = (23 : Fin 24).val → x.2.2 < 64) := by decide +kernel
theorem test_planner : (after (.plannerThreshold .a .d35) ((inMode 3).put PACE_STAT_OP 1)).nv.bar2 = true ∧
    (after (.plannerThreshold .a .d5) (inMode 3)).nv.bar1 = false := by decide +kernel

def ev (f : Bool) : LogEvent := ⟨7, 0, 0x40, 4, 1, f, 1, 2, 3⟩
/-- Lane A with one event in the buffer, events lost before, and locked spans. -/
def logLane (f : Bool) (lost : Nat) (locks : List LockSpan) : Lane :=
  { lane0 with log := { lane0.log with buf := [ev f], lostSince := lost }, nv := { lane0.nv with locks := locks, ring := [(9, (9, ev true))] } }
theorem witness_Log_write : lane0.log.buf = [] ∧ lane0.log.buf.length < 32 ∧ 32 ≤ (List.replicate 32 (ev false)).length ∧
    (logLane true 3 []).log.buf = ev true :: [] ∧
    (¬ ∃ k ∈ (logLane true 3 [⟨514⟩]).nv.locks, (k.fatal - ((logLane true 3 [⟨514⟩]).nv.seq + 1)).toNat % 4096 ≤ 512) ∧
    (∃ k ∈ (logLane true 3 [⟨513⟩]).nv.locks, (k.fatal - ((logLane true 3 [⟨513⟩]).nv.seq + 1)).toNat % 4096 ≤ 512) ∧
    (ev true).fatal = true ∧ (ev false).fatal = false ∧ (logLane true 0 []).log.lostSince = 0 ∧ 0 < (logLane true 3 []).log.lostSince ∧
    2 ≤ (logLane true 3 [⟨600⟩, ⟨2000⟩]).nv.locks.length := by decide +kernel
/-- An event stored in slot 9 and selected, in a good slot or a bad one; a frozen record, one never written, and one whose
block failed. -/
def readLane (bad : List Nat) : Lane :=
  let u := (logLane true 0 [⟨9⟩]).wr LOG_RSEL 9
  { u with nv := { u.nv with seq := 9, badSlots := bad, frozen := [(0, ⟨(9, ev true), []⟩)] } }
theorem witness_Log_read : ((readLane []).eventAt 9 = some (9, ev true) ∧ (9 : Word).toNat % 4096 ∉ (readLane []).nv.badSlots) ∧
    (9 : Word).toNat % 4096 ∈ (readLane [9]).nv.badSlots ∧ lane0.eventAt (lane0.rd LOG_RSEL) = none ∧
    ((readLane []).nv.locks = ⟨9⟩ :: [] ∧ keyGet (readLane []).nv.ring ((9 : Word).toNat % 4096) = some (9, ev true)) ∧ lane0.nv.locks = [] ∧
    (392 + (readLane []).get LOG_FSEL_REC ∉ (readLane []).nv.map.failed ∧
      keyGet (readLane []).nv.frozen ((readLane []).get LOG_FSEL_REC) = some ⟨(9, ev true), []⟩ ∧ keyGet lane0.nv.frozen (lane0.get LOG_FSEL_REC) = none) ∧
    392 + (storeLane 3 [] [392] []).get LOG_FSEL_REC ∈ (storeLane 3 [] [392] []).nv.map.failed := by decide +kernel
theorem test_log : (after (.logEventWrite .a) (logLane true 0 [])).nv.locks = [⟨1⟩] ∧
    (after (.logRdataRead .a) (readLane [9])).is MEM_STAT_UE = true := by decide +kernel

/-! ### The Lay bus -/

/-- Lane A with both channels enabled and its network in a state. -/
def layLane (st : Nat) : Lane := ((lane0.on LAY_CFG_XEN).on LAY_CFG_YEN).put LAY_STAT_NSTATE st
/-- A reference frame of rank 2 at its action point, exactly on time, in cycle 0; a strand frame in slot 31; a yarn frame
in the first yarn slot. -/
def refRx (ch : Fin 2) : LayRx := ⟨ch, 16000, layChars 0 0 false 2 0 (wordBytes 0 ++ wordBytes 16000 ++ wordBytes 0), true⟩
def strandRx (kind : Nat) (held : Bool) : LayRx := ⟨0, 336000 + 160000 * 31, layChars 1 kind held 31 0 [1, 2, 3], true⟩
def yarnRx (kind : Nat) : LayRx := ⟨1, 5448000, layChars 2 kind false 0 0 [9], true⟩
theorem witness_LayReception_checks : ((layLane 1).layOn = true ∧ (layLane 1).chanOn 1 = true) ∧
    lane0.chanOn 0 = false ∧ (layLane nsSync).get LAY_STAT_NSTATE = nsSync ∧ (layLane nsRef).get LAY_STAT_NSTATE = nsRef ∧
    ((layLane nsUnsync).get LAY_STAT_NSTATE = nsUnsync ∧ 3 ≤ (strandRx 0 false).chars.length ∧ (layHead (strandRx 0 false).chars).type ≠ 0 ∧
      (layLane nsUnsync).layCheck (strandRx 0 false) = .ignored) ∧
    (layLane 1).layCheck { refRx 0 with start := 7999 } = .win ∧ (layLane 1).layCheck { refRx 0 with stops := false } = .frm ∧
    (layLane 1).layCheck { refRx 0 with chars := layChars 0 0 false 2 1 (wordBytes 0 ++ wordBytes 16000 ++ wordBytes 0) } = .hdr ∧
    (layLane 1).layCheck { refRx 0 with chars := (refRx 0).chars.dropLast ++ [0] } = .crc := by decide +kernel
theorem witness_LayReception_frames : ((layLane 1).layCheck (refRx 1) = .ok ∧ (layHead (refRx 1).chars).type = 0 ∧
      (layLane 1).lay.refSeen.getLsbD 0 = false) ∧
    (let u := (layLane 1).wr LAY_RXSX 0x80000000
     u.layCheck (strandRx 0 false) = .ok ∧ (layHead (strandRx 0 false).chars).type = 1 ∧ (layHead (strandRx 0 false).chars).kind ≠ 1 ∧
       bit (u.rd LAY_RXSX) (layHead (strandRx 0 false).chars).id = true ∧ (layHead (strandRx 0 false).chars).id < 32) ∧
    bit ((layLane 1).rd LAY_RXSX) (layHead (strandRx 0 false).chars).id = false ∧
    ((layLane 1).layCheck (yarnRx 0) = .ok ∧ (layHead (yarnRx 0).chars).type = 2 ∧ (layHead (yarnRx 0).chars).kind ≠ 1 ∧
      (layLane 1).get LAY_YCFG_RLO ≤ (layHead (yarnRx 0).chars).id ∧ (layHead (yarnRx 0).chars).id ≤ (layLane 1).get LAY_YCFG_RHI ∧
      (layLane 1).lay.yq.length < 16) ∧
    16 ≤ (List.replicate 16 (⟨1, []⟩ : LayEntry)).length ∧ (layHead (yarnRx 0).chars).id < ((layLane 1).put LAY_YCFG_RLO 1).get LAY_YCFG_RLO ∧
    (let u := (layLane 1).wr LAY_CMDMX 0x80000000
     u.layCheck (strandRx 1 false) = .ok ∧ (layHead (strandRx 1 false).chars).kind = 1 ∧ bit (u.rd LAY_CMDMX) 31 = true ∧
       (layHead (strandRx 1 false).chars).held = false ∧ (layHead (strandRx 1 false).chars).len ≤ 32) ∧
    (layHead (strandRx 1 true).chars).held = true ∧
    ((layLane 1).layCheck (yarnRx 1) = .ok ∧ (layHead (yarnRx 1).chars).kind = 1 ∧
      (layLane 1).get LAY_YCMD_CLO ≤ (layHead (yarnRx 1).chars).id ∧ (layHead (yarnRx 1).chars).id ≤ (layLane 1).get LAY_YCMD_CHI) := by
  decide +kernel
/-- Rank 1 with one lower cycle missed, 4 misses in a row, a full grid, and queues of one entry. -/
def queueLane : Lane :=
  let u := (layLane 1).put LAY_CFG_RANK 1
  { u with lay := { u.lay with lowerMiss := 1, miss := 4, leaveRef := true, yq := [⟨7, [1]⟩], yqLatch := some ⟨7, [1]⟩, cq := [⟨8, [2]⟩] } }
theorem witness_LayReception_rest : queueLane.layOn = true ∧ State.reset.a.layOn = false ∧ (layLane 1).lay.miss < 4 ∧ 4 ≤ queueLane.lay.miss ∧
    (1 ≤ queueLane.get LAY_CFG_RANK ∧ queueLane.get LAY_STAT_NSTATE = nsSync ∧ queueLane.get LAY_CFG_RANK ≤ queueLane.lay.lowerMiss) ∧
    ¬ (1 ≤ (layLane 1).get LAY_CFG_RANK) ∧
    ((vget queueLane.lay.yarn 1 (0, 0)).2 < 160 ∧ 1 ≤ 1 ∧ 160 ≤ (vget (vset queueLane.lay.yarn 1 (3, 160)) 1 (0, 0)).2) ∧
    (queueLane.lay.yq = ⟨7, [1]⟩ :: [] ∧ (7 : BitVec 16) = (7 : Word).setWidth 16 ∧ (7 : BitVec 16) ≠ (8 : Word).setWidth 16) ∧
    (layLane 1).lay.yq = [] ∧ queueLane.lay.yqLatch = some ⟨7, [1]⟩ ∧ (layLane 1).lay.yqLatch = none ∧
    queueLane.lay.cq = ⟨8, [2]⟩ :: [] ∧ (layLane 1).lay.cq = [] := by decide +kernel
theorem test_reference_frame : (after (.layFrameValid .a { refRx 0 with start := 16005 } 20000) (layLane 1)).lay.nofs = -5 ∧
    (after (.layFrameValid .a { refRx 0 with start := 16005 } 20000) (layLane 1)).get LAY_STAT_REFR = 2 := by decide +kernel
/-- A frame 8,001 units before its action point is outside its window, one 8,000 units before it inside (R447). -/
theorem test_frame_window : (after (.layFrameValid .a { refRx 0 with start := 7999 } 9) (layLane 1)).get (LAY_ERR_WIN 0) = 1 ∧
    (after (.layFrameValid .a { refRx 0 with start := 8000 } 9) (layLane 1)).get (LAY_ERR_WIN 0) = 0 := by decide +kernel

/-- Lane A with a commit made 4 us before the action point of strand 31 (and a newer one) on channel X, and a yarn commit. -/
def sendLane (st : Nat) : Lane :=
  let u := (((layLane st).wr LAY_TXSX 0x80000000).on (LAY_TXCTL_EN 31)).on (LAY_YTXCTL_EN 0)
  { u with lay := { u.lay with buf := vset (vset u.lay.buf 31 ⟨none, [(⟨0, [1]⟩, 5264000), (⟨0, [2]⟩, 5264001)]⟩) 64 ⟨none, [(⟨2, [3]⟩, 0)]⟩ } }
theorem witness_LayTransmission_frames : (3 < 4 ∧ 255 < 256 ∧ (List.replicate 128 (7 : Byte)).length < 256) ∧
    ((sendLane 1).maySend 0 = true ∧ onNetwork (sendLane 1) ∧ bit ((sendLane 1).rd LAY_TXSX) 31 = true) ∧
    (sendsContent (sendLane 1) 31 (pointTime (sendLane 1) (336000 + 160000 * 31)) = some ⟨0, [1]⟩ ∧ (sendLane 1).is (LAY_TXCTL_EN 31) = true) ∧
    sendsContent (layLane 1) 31 (pointTime (layLane 1) (336000 + 160000 * 31)) = none ∧ (layLane 1).is (LAY_TXCTL_EN 31) = false ∧
    ¬ onNetwork (sendLane 0) ∧
    ((vget (sendLane 1).lay.yarn 0 (0, 0)).1 = (sendLane 1).get LAY_YCFG_YIDX ∧ (vget (sendLane 1).lay.yarn 0 (0, 0)).2 < 160 ∧
      sendsContent (sendLane 1) 64 (pointTime (sendLane 1) 5448000) = some ⟨2, [3]⟩ ∧ (sendLane 1).is (LAY_YTXCTL_EN 0) = true ∧
      5448000 + 16000 * 0 + 3200 * (8 + [3].length) + 8000 ≤ 8000000) ∧
    8000000 < 5448000 + 16000 * 159 + 3200 * (8 + [3].length) + 8000 := by
  unfold onNetwork; decide +kernel
def coldLane (wait : Bool) : Lane :=
  let u := ((layLane nsUnsync).on LAY_CFG_CSEN).put LAY_CFG_RANK 1
  { u with lay := { u.lay with coldWait := wait, refAt := 0 } }
theorem witness_LayTransmission_cold : ((layLane nsRef).layOn = true ∧ (layLane nsRef).get LAY_STAT_NSTATE = nsRef ∧ (layLane nsRef).get LAY_CFG_RANK < 8) ∧
    ((coldLane false).layOn = true ∧ (coldLane false).is LAY_CFG_CSEN = true ∧ 1 ≤ (coldLane false).get LAY_CFG_RANK ∧
      (coldLane false).get LAY_STAT_NSTATE = nsUnsync ∧ (coldLane false).lay.coldWait = false ∧
      5 * 8000000 ≤ ((40000000 : LTime) - (coldLane false).lay.refAt).toNat ∧ ¬ 5 * 8000000 ≤ ((39999999 : LTime) - (coldLane false).lay.refAt).toNat) ∧
    ((coldLane true).lay.coldWait = true ∧ (((coldLane true).at 9).netTime ((coldLane true).at 9).lt).toNat + 8000000 < 2 ^ 64) ∧
    (let u : Lane := { layLane nsRef with lay := { (layLane nsRef).lay with cold := some true } }
     u.lay.cold = some true ∧ u.get LAY_STAT_NSTATE = nsRef) ∧ (layLane 1).lay.cold = none ∧
    (bits (0x208 : Word) 3 2 = 2 ∧ bits (0x208 : Word) 11 4 = 32 ∧ bits (0x218 : Word) 11 4 = 33) ∧ State.reset.a.layOn = false := by decide +kernel
theorem test_strand_sent : vget (after (.strandFrameSend .a 31 true) (sendLane 1)).lay.sent 0 [] = layChars 1 0 false 31 0 [1] ∧
    (after (.coldStart .a 40000000) (coldLane false)).get LAY_STAT_NSTATE = nsRef ∧
    (after (.coldStart .a 39999999) (coldLane false)).get LAY_STAT_NSTATE = nsUnsync := by decide +kernel

/-! ### CAN, GNSS and host commands -/

/-- Lane A with the address 128. -/
def canLane : Lane := ((lane0.on CAN_STAT_CLAIMED).put CAN_STAT_ADDR 128).put TALLY_STAT_LSTATE lsRunning
theorem witness_AddressClaim : canLane.canOn = true ∧ State.reset.a.canOn = false ∧ (canLane.is CAN_STAT_CLAIMED = true ∧
      canLane.get CAN_STAT_ADDR = (128 : Byte).toNat) ∧ canLane.get CAN_STAT_ADDR ≠ (129 : Byte).toNat ∧
    canLane.canName.toNat ≤ canLane.canName.toNat :=
  ⟨by decide +kernel, by decide +kernel, by decide +kernel, by decide +kernel, Nat.le_refl _⟩
/-- The NAME has its highest bit set whatever the serial number, so a NAME of 0 is lower. -/
theorem witness_AddressClaim_lower : (0 : BitVec 64).toNat < canLane.canName.toNat := by
  have h : canLane.get CAN_CFG2_MFR = 0 ∧ canLane.id.idx = 0 ∧ canLane.get CAN_CFG_FINST = 0 ∧ canLane.get CAN_CFG_FUNC = 0 := by
    decide +kernel
  have m : (Config.serial canLane.id).toNat % 2097152 < 2097152 := Nat.mod_lt _ (by decide)
  have z : (0 : BitVec 64).toNat = 0 := rfl
  rw [z]
  simp only [Lane.canName, h.1, h.2.1, h.2.2.1, h.2.2.2, BitVec.toNat_ofNat]
  omega
/-- 247 is the highest free address where it is taken by nobody. -/
theorem witness_AddressClaim_free : (∀ c ∈ ([(128, 0)] : List (Byte × BitVec 64)), c.1.toNat ≠ 247) ∧
    (∀ b, 247 < b → b ≤ 247 → ∃ c ∈ ([(128, 0)] : List (Byte × BitVec 64)), c.1.toNat = b) :=
  ⟨by intro c h; rw [List.mem_singleton] at h; subst h; decide, fun _ h1 h2 => by omega⟩
def tpSession (got : List (Nat × List Byte)) : TpSession := ⟨7, 61184, 9, got⟩
def tpLane (pgn : BitVec 18) : Lane :=
  { canLane with can := { canLane.can with sessions := [⟨7, pgn, 9, [(1, [1, 2, 3, 4, 5, 6, 7])]⟩] } }
theorem witness_Requests : (canLane.on CAN_STAT_BUSOFF).is CAN_STAT_BUSOFF = true ∧ canLane.is CAN_STAT_BUSOFF = false ∧
    (60928 : BitVec 18).toNat = 60928 ∧ (128 : Byte).toNat = canLane.get CAN_STAT_ADDR ∧ (255 : Byte) = 255 ∧
    (129 : Byte).toNat ≠ canLane.get CAN_STAT_ADDR ∧ (canLane.answerTo 65226).isSome = true ∧ (canLane.answerTo 9).isNone = true ∧
    (65228 : BitVec 18).toNat = 65228 := by decide +kernel
theorem witness_Transport : (9 ≤ 9 ∧ 1785 ≤ 1785 ∧ 8 < 9 ∧ 1785 < 1786) ∧
    (tpLane 61184).can.sessions.find? (fun y => y.src == 8) = none ∧
    (tpLane 61184).can.sessions.find? (fun y => y.src == 7) = some (tpSession [(1, [1, 2, 3, 4, 5, 6, 7])]) ∧
    (tpSession (keyPut [(1, [1, 2, 3, 4, 5, 6, 7])] 1 [0, 0, 0, 0, 0, 0, 0])).whole = none ∧
    (tpSession (keyPut [(1, [1, 2, 3, 4, 5, 6, 7])] 2 [8, 9, 0, 0, 0, 0, 0])).whole = some [1, 2, 3, 4, 5, 6, 7, 8, 9] ∧
    ((61184 : BitVec 18) = 61184 ∧ (65226 : BitVec 18) ≠ 61184) ∧ (List.replicate 32 (1 : Byte)).length ≤ 32 ∧
    32 < (List.replicate 33 (1 : Byte)).length := by decide +kernel
theorem witness_StatusMessage : (canLane.canSend = true ∧ isRunning canLane.lstate = true) ∧
    (let u : Lane := { canLane.put TALLY_STAT_LSTATE lsWithdrawn with can := { canLane.can with status := [1, 2, 3] } }
     u.lstate = lsWithdrawn ∧ u.canSend = true ∧ u.can.status = 1 :: 2 :: [3]) ∧ lane0.canSend = false ∧
    (canLane.wr TALLY_SQV 0xFFFFFFFF).sqValid ((canLane.wr TALLY_SQV 0xFFFFFFFF).get LCTL_LIMPCFG_SPDW) = true ∧
    canLane.sqValid (canLane.get LCTL_LIMPCFG_SPDW) = false := by decide +kernel
def gga : Nmea := ⟨82, true, true, .gga, 43200000, 5, -6, 7, 0, 0, 1, 9⟩
def rmc : Nmea := { gga with kind := .rmc, sog := 3 }
def gnssLane : Lane := { canLane with gnss := { canLane.gnss with gga := some gga, edge := some 5 } }
theorem witness_Gnss : (gga.len ≤ 82 ∧ gga.sumOk = true ∧ gga.talkerOk = true ∧ gga.kind ≠ .other) ∧ ¬ ({ gga with len := 83 }.len ≤ 82) ∧
    (rmc.utc % 1000 = 0 ∧ ((5 + 7200000000 : LTime) - 5).toNat ≤ 900 * 8000000 ∧ rmc.kind = .rmc) ∧
    (gnssLane.gnss.gga = some gga ∧ gga.utc = rmc.utc ∧ gnssLane.gnss.done ≠ some gga.utc) ∧ canLane.gnss.rmc = none ∧
    gnssLane.gnss.edge ≠ none ∧ canLane.gnss.edge = none := by decide +kernel
theorem witness_Gnss_noEpoch : ¬ ∃ a r, inEpoch ({ canLane with gnss := { canLane.gnss with gga := some gga } } : Lane) a r :=
  fun ⟨_, _, h⟩ => nomatch (show (none : Option Nmea) = some _ from h.2.1)
theorem test_claim : (after (.addressClaim .a 129 0) canLane).get CAN_STAT_ADDR = 128 ∧
    (after (.gnssSentence .a rmc 100) gnssLane).gnss.paired = some 5 ∧
    rfGet (after (.gnssSentence .a rmc 100) gnssLane).pub GNSS_SOG = 3 := by decide +kernel

/-- A command of the host with its arguments, first received at lane time 0. -/
def cmd (lead rsv : Byte) (args : List Byte) : HostCmd := ⟨false, 9, 0, 1, lead, rsv, args, 0⟩
/-- Lane A running in a mode with its helm program. -/
def hostLane (m : Nat) : Lane :=
  let u := ((canLane.put LCTL_MODE_MODE m).put PACE_LIVE_FR_LIVE 40).put PACE_LIVE_PWM_LIVE 400
  { u with helm := { u.helm with run := .running } }
theorem witness_Host_forms : ((hostLane 4).locked = true ∧ (hostLane 4).helm.run ≠ .stopped) ∧ lane0.helm.run = .stopped ∧
    ((cmd 0 0 []).rsv = 0 ∧ (cmd 0 0 []).lead ≠ 1) ∧ (cmd 1 0 []).lead = 1 ∧ (cmd 0 1 []).rsv ≠ 0 ∧
    (hostLane 4).modeNow ∈ [modeArmed, modeService, modeRun3, modeRun2, modeLimp] ∧
    (hostLane 3).modeNow ∉ [modeArmed, modeService, modeRun3, modeRun2, modeLimp] ∧
    (hostLane 3).modeNow ∈ [modeStandby, modeService, modeSafestop] ∧
    (arg (cmd 0 0 [12, 3]) 4 ≤ 15 ∧ arg (cmd 0 0 [12, 3]) 5 ≤ 3 ∧ 1 ≤ arg (cmd 0 0 [12, 3]) 4 ∧ arg (cmd 0 0 [12, 3]) 4 ≤ 12) ∧
    arg (cmd 0 0 [13, 0]) 4 = 13 ∧ (arg (cmd 0 0 [63, 99]) 4 < 64 ∧ 10 ≤ arg (cmd 0 0 [63, 99]) 5 ∧ arg (cmd 0 0 [63, 99]) 5 ≤ 99) ∧
    (arg (cmd 0 0 [5, 4]) 4 < 6 ∧ 1 ≤ arg (cmd 0 0 [5, 4]) 5 ∧ arg (cmd 0 0 [5, 4]) 5 ≤ 4) ∧
    (arg (cmd 0 0 [31, 7]) 4 = 31 ∧ arg (cmd 0 0 [31, 7]) 5 ≤ 7) ∧ (arg (cmd 0 0 [1, 15]) 4 = 1 ∧ arg (cmd 0 0 [1, 15]) 5 < 16) ∧
    (arg (cmd 0 0 [2, 23]) 4 = 2 ∧ arg (cmd 0 0 [2, 23]) 5 < 24) ∧ (argWord (cmd 0 0 [0, 0, 0, 0, 0xFF, 0xFF, 3, 0]) 8).toNat < 2 ^ 18 ∧
    (argWord (cmd 0 0 [2, 0, 0, 0, 17, 0, 0, 0]) 8).toNat < 18 ∧ (1 ≤ arg (cmd 0 0 [16]) 4 ∧ arg (cmd 0 0 [16]) 4 ≤ 16) ∧
    (arg (cmd 0 0 [7, 4]) 4 ≤ 7 ∧ arg (cmd 0 0 [7, 4]) 5 ≤ 4) ∧ arg (cmd 0 0 [0x11]) 4 ∈ [0x0A, 0x0C, 0x10, 0x11] := by decide +kernel
/-- How many frames ahead a command lies that was first received at lane time 0, `n` frames later. -/
def framesAfter (n : Nat) (lead : Byte) : Nat :=
  let u : Lane := { hostLane 4 with lt := BitVec.ofNat 64 (n * 8000000) }
  (u.applyFrame (cmd lead 0 []) - (u.rd TIME_FRAME).setWidth 16).toNat
theorem witness_Host_frames : framesAfter 0 255 = 256 ∧ framesAfter 2 0 = 1 ∧ framesAfter 3 0 = 0 ∧ 256 < framesAfter 4 0 := by
  decide +kernel
/-- A command of each outcome: taken and discarded by channel and slot commands, and by CLEAR. -/
theorem witness_Host_outcomes :
    (let v (c : BitVec 16) : Word := (1 : BitVec 16) ++ c
     ((((hostLane 4).on (COMM_CHCFG_EN 0)).put COMM_IEN_REJ 0).writeCommCmd (v 0x10)).is COMM_IEN_REJ = false ∧
       (((hostLane 4).put COMM_IEN_REJ 0).writeCommCmd (v 0x16)).is COMM_IEN_REJ = true ∧
       (((((hostLane 5).cputBoth (LOOP_CFG_EN 1) 1).cputBoth LOOP_STAT_REJ 0).writeLoopCmd .p (v 0x101)).writeLoopCmd .s (v 0x101)).cget .p LOOP_STAT_REJ = 0 ∧
       ((((hostLane 5).cputBoth LOOP_STAT_REJ 0).writeLoopCmd .p (v 0x018)).writeLoopCmd .s (v 0x018)).cget .p LOOP_STAT_REJ = 1) ∧
    (let g := ((hostLane 3).wr BRDG_SCSTAT 1).put BRDG_STAT_CREJ 0
     (g.writeScclr 1 g.belowTrip).is BRDG_STAT_CREJ = false ∧
       ((g.put (COMM_CSTAT_STATE 0) 6).writeScclr 1 g.belowTrip).is BRDG_STAT_CREJ = true) := by decide +kernel
def late (seq : Nat) : LateResult := { (hostLane 4).host.frozenRes with seq := seq, fresh := true }
theorem witness_Host_results : (hostLane 3).host.frozen = none ∧ ({ (hostLane 3).host with frozen := some (cmd 0 0 []) } : HostUnit).frozen ≠ none ∧
    (hostLane 3).host.attest = none ∧ (hostLane 3).lateOf 0x0A = some (false, (hostLane 3).host.frozenRes) ∧ (hostLane 3).host.frozenRes.seq = 0 ∧
    (let u : Lane := { hostLane 3 with host := { (hostLane 3).host with frozen := some (cmd 0 0 []), frozenRes := late 7 } }
     u.lateOf 0x0A = some (true, late 7)) ∧
    (let u : Lane := { hostLane 3 with host := { (hostLane 3).host with frozenRes := late 7 } }
     u.lateOf 0x0A = some (false, late 7) ∧ (late 7).seq ≠ 0) ∧
    (let r : Response := ⟨1, 2, 0, true, 3, List.replicate 121 5, false, 9⟩
     r.lay = false ∧ (hostLane 3).canSend = true ∧ ({ (hostLane 3).host with out := [(r, 0)] } : HostUnit).out = [(r, 0)]) := by decide +kernel
theorem test_host : (after (.unknownOpcode .a { cmd 0 0 [] with opc := 0x1F }) (hostLane 4)).can.tx.length = 1 ∧
    keyGet (after (.hostStop .a (cmd 0 0 [1, 50])) ((hostLane 4).put (COMM_CHCFG_ROLE 0) 2 |>.put (COMM_CSTAT_STATE 0) 6)).host.override 0 =
      some 1073741824 ∧ (after (.mode .a (cmd 0 0 [4, 0])) (hostLane 4)).get LCTL_MODE_PEND = 4 := by decide +kernel

/-! ### Updates and section outputs -/

/-- A command for lane A's target `t` with session 5 and a length of n blocks, version 77. -/
def upCmd (t n : Byte) : HostCmd := cmd 0 0 [1, t, 5, 0, n, 0, 0, 0, 77, 0, 0, 0]
/-- Lane A in STANDBY with its helm program, an open session, images and keys. -/
def sessionLane (x : Option Session) : Lane :=
  let u := hostLane 3
  { u with nv := { u.nv with keys := goodKeys, slots := images, cfgs := copies }, upd := { u.upd with session := x, buffer := imageOf 3 } }
def session (t : Nat) (erased closing : Bool) : Session := ⟨t, 5, 1, 77, erased, closing⟩
theorem witness_Update_commands : arg (upCmd 0 1) 4 = (sessionLane none).id.code ∧
    (arg (cmd 0 0 [3]) 4 ≠ (sessionLane none).id.code ∧ 1 ≤ arg (cmd 0 0 [3]) 4 ∧ arg (cmd 0 0 [3]) 4 ≤ 3) ∧ arg (cmd 0 0 [0]) 4 = 0 ∧
    3 < arg (cmd 0 0 [4]) 4 ∧ (sessionLane none).modeNow ∈ [modeStandby, modeArmed, modeService, modeRun3, modeRun2] ∧
    (hostLane 9).modeNow ∉ [modeStandby, modeArmed, modeService, modeRun3, modeRun2] ∧
    (arg (upCmd 2 1) 5 ≤ 2 ∧ 1 ≤ arg (upCmd 2 1) 8 + 256 * arg (upCmd 2 1) 9 ∧ arg (upCmd 2 1) 8 + 256 * arg (upCmd 2 1) 9 ≤ 1) ∧
    arg (upCmd 1 64) 8 + 256 * arg (upCmd 1 64) 9 ≤ 64 ∧ (arg (upCmd 3 1) 5 = 3) ∧
    ((sessionLane (some (session 2 false false))).upd.session = some (session 2 false false) ∧ (session 2 false false).erased = false ∧
      (session 2 true false).erased = true ∧ (sessionLane none).upd.session = none) ∧
    ((sessionLane (some (session 2 true false))).upd.session.filter (fun x => x.sid.toNat == arg (upCmd 0 1) 6 && x.erased) =
      some (session 2 true false)) ∧
    ((sessionLane (some (session 2 false false))).upd.session.filter (fun x => x.sid.toNat == arg (upCmd 0 1) 6 && x.erased) = none) ∧
    ((session 2 true true).closing = true ∧ (session 2 true false).closing = false) := by decide +kernel
/-- Chunks of 1,024 bytes: the last that completes a block of zeros, whose check word is no CRC-32C of zeros; and one that
leaves it incomplete. -/
def chunk (n : Nat) (l : List Byte) : Chunk := ⟨5, 0, n, l⟩
def three : List (Nat × List Byte) := (List.range 3).map (fun k => (1024 * k, List.replicate 1024 0))
theorem witness_Update_chunks : ((chunk 3 (List.replicate 1024 0)).data.length = 1024 ∧ (chunk 3 []).chunk < 4) ∧
    ((chunk 63 (List.replicate 64 0)).data.length = 64 ∧ (chunk 63 []).chunk < 64) ∧
    ((chunk 3 []).sid = (session 1 true false).sid ∧ (session 1 true false).erased = true ∧ (chunk 3 []).block < (session 1 true false).n) ∧
    (∃ d, keyGet ((sessionLane none).targetImage 2).blocks 0 = some d) ∧
    keyGet ((hostLane 3).targetImage 2).blocks 0 = none ∧ assembled (keyPut [] (3 * 1024) (List.replicate 1024 0)) = none ∧
    (hostLane 3).nv.map.failed = [] :=
  ⟨by decide +kernel, by decide +kernel, by decide +kernel, ⟨_, rfl⟩, by decide +kernel, by decide +kernel, by decide +kernel⟩
/-- The last chunk of a block of zeros with its check word, and with another one. -/
def lastChunk (w : Word) : List Byte := List.replicate 1020 0 ++ wordBytes w
/-- The register of the CRC-32C after `n` bytes of zeros. -/
def crcZeros (n : Nat) (c : Word) : Word := (List.replicate n (0 : Byte)).foldl (fun c b => crc32cStep 8 (c ^^^ b.setWidth 32)) c
theorem crcZeros_add (m n : Nat) (c : Word) : crcZeros (m + n) c = crcZeros n (crcZeros m c) := by
  simp only [crcZeros, ← List.replicate_append_replicate, List.foldl_append]
theorem crc_zeros : crc32c (List.replicate 4092 0) = 0xA732586E := by
  have h1 : crcZeros 1023 0xFFFFFFFF = 0x0A0A9AE1 := by decide +kernel
  have h2 : crcZeros 1023 0x0A0A9AE1 = 0x99040156 := by decide +kernel
  have h3 : crcZeros 1023 0x99040156 = 0x8A5CCE2B := by decide +kernel
  have h4 : crcZeros 1023 0x8A5CCE2B = 0x58CDA791 := by decide +kernel
  have h : crcZeros (1023 + 1023 + 1023 + 1023) 0xFFFFFFFF = 0x58CDA791 := by
    rw [crcZeros_add, crcZeros_add, crcZeros_add, h1, h2, h3, h4]
  show ~~~(crcZeros 4092 0xFFFFFFFF) = 0xA732586E
  rw [show 4092 = 1023 + 1023 + 1023 + 1023 from rfl, h]
  decide
theorem witness_Update_blocks (w : Word) (h : w = 0xA732586E ∨ w = 0) :
    ∃ d, assembled (keyPut three (3 * 1024) (lastChunk w)) = some d ∧ blockOk d = decide (w = 0xA732586E) := by
  refine ⟨List.replicate 4092 0 ++ wordBytes w, ?_, ?_⟩
  · rcases h with rfl | rfl <;> decide +kernel
  · have l : (List.replicate 4092 (0 : Byte)).length = 4092 := List.length_replicate
    simp only [blockOk]
    rw [List.take_left' l, List.drop_left' l, crc_zeros, bytesWord_wordBytes]
    rcases h with rfl | rfl <;> decide +kernel

/-- A revocation image whose target is key slot 1, signed under slot 0. -/
def revocationImage : ImageStore :=
  ⟨true, [(0, mkBlock (leBytes 4 0x494B444C ++ [1, 3, 0, 5] ++ leBytes 4 77 ++ leBytes 2 1 ++ List.replicate 170 0 ++ [1]))]⟩
theorem revocation_verifies (ok : ∀ p d g, Config.sm2Verify p d g = true) : revocationImage.result 3 goodKeys = 0 ∧
    revocationImage.keySlot goodKeys = some 0 := by
  have n : revocationImage.n = 1 := by decide +kernel
  have c : revocationImage.crcOk = true := by
    simp only [ImageStore.crcOk, n]
    simp [List.range_succ, revocationImage, keyGet, blockOk_mkBlock]
  have key : (revocationImage.header.drop 56).take 64 = List.replicate 64 0 := by decide +kernel
  have s : revocationImage.keySlot goodKeys = some 0 := by
    simp [ImageStore.keySlot, key, goodKeys, List.range_succ, vget]
  have f : revocationImage.fieldsOk 3 = true := by decide +kernel
  exact ⟨by simp [ImageStore.result, c, s, f, ok], s⟩

/-- A close that verifies, and one that finds no block. -/
theorem witness_Update_verify (ok : ∀ p d g, Config.sm2Verify p d g = true) :
    (sessionLane (some (session 2 true true))).verify (session 2 true true) = 0 ∧
    (hostLane 3).verify (session 2 true true) ≠ 0 := by
  refine ⟨?_, by decide +kernel⟩
  have h := imageOf_verifies ok 3 (by decide)
  have n : (imageOf 3).n = 1 := by decide +kernel
  have v : BitVec.ofNat 32 (leAt (imageOf 3).header 8 4) = 77 := by decide +kernel
  have b : keyGet (imageOf 3).blocks 0 ≠ none := by simp [imageOf, keyGet]
  have all : ∀ (u : Lane) (s : Session), u.targetImage s.target = imageOf 3 → u.nv.keys = goodKeys → s.target = 2 → s.n = 1 →
      s.version = 77 → u.verify s = 0 := by
    intro u s h1 h2 h3 h4 h5
    rw [h3] at h1
    simp [Lane.verify, h1, h2, h3, h4, h5, h, n, v, b, Lane.fits]
  exact all _ _ rfl rfl rfl rfl rfl
theorem witness_Update_revocation (ok : ∀ p d g, Config.sm2Verify p d g = true) :
    (let u := sessionLane none
     { u with upd := { u.upd with buffer := revocationImage } : Lane }.revocation = some 1) ∧ (hostLane 3).revocation = none := by
  refine ⟨?_, by decide +kernel⟩
  have h := revocation_verifies ok
  have k : leAt revocationImage.header 184 1 = 1 := by decide +kernel
  simp only [Lane.revocation, sessionLane, h.1, h.2, k]
  decide +kernel
/-- A trial in this lane or in another, a target that is valid or not, and a previous slot to go back to. -/
theorem witness_Update_boot : ({ (hostLane 3).nv.boot with trial := true } : BootRec).trial = true ∧ (hostLane 3).nv.boot.trial = false ∧
    (∀ j, j ≠ LaneId.a → ((hostLane 3).agr.vec.get j).trial = false) ∧ ((hostLane 3).targetImage 0).valid = false ∧
    ((sessionLane none).targetImage 0).valid = true ∧ ({ (hostLane 3).nv.boot with uncommitted := true } : BootRec).uncommitted = true ∧
    (hostLane 3).nv.boot.uncommitted = false ∧
    (((sessionLane none).nv.img (sessionLane none).nv.boot.prevSlot).valid = true ∧ (sessionLane none).nv.boot.superseded = false) ∧
    ((hostLane 3).nv.img (hostLane 3).nv.boot.prevSlot).valid = false :=
  ⟨rfl, by decide +kernel, fun j _ => by cases j <;> rfl, by decide +kernel, by decide +kernel, rfl, by decide +kernel, by decide +kernel,
    by decide +kernel⟩
theorem test_arm : (after (.arm .a (upCmd 0 1)) (sessionLane none)).nv.boot.pendSlot = true ∧
    (after (.arm .a (upCmd 0 1)) (hostLane 3)).nv.boot.pendSlot = false := by decide +kernel

/-- Output 47 with a current record, a next one and a committed edge, its gate low and its lane's line valid. -/
def sectLane (edge : Option (LTime × Bool)) (cur : Option BRec) : Lane :=
  let u := (lane0.setOut 47 { SectOut.reset with edge := edge, cur := cur }).sput (SECT_OSTAT_LEVEL 47) 1
  { u with sect := { u.sect with line := true } }
theorem witness_SectionOutputs : ((sectLane (some (9, true)) none).out 47).edge = some (9, true) ∧ ((sectLane none none).out 47).edge = none ∧
    ((sectLane none none).out 47).cur = none ∧ ((sectLane none (some ⟨1, 2, 3, true⟩)).out 47).cur = some ⟨1, 2, 3, true⟩ ∧
    (sectLane none none).sect.line = true ∧ lane0.sect.line = false ∧
    (sectLane none none).sis (SECT_OSTAT_LEVEL 47) = gateOf (st (sectLane none none)) 47 ∧
    (let s : State :=
       { st (sectLane none none) with
         b := { State.reset.b with sect := { State.reset.b.sect with line := true } }
         c := { State.reset.c with sect := { State.reset.c.sect with line := true } } }
     (s.lane .a).sis (SECT_OSTAT_LEVEL 47) ≠ gateOf s 47) := by decide +kernel
theorem test_commit : ((after (.scheduleCommit .a 47 0x1FFFF) (sectLane none none)).out 47).cur = some ⟨0, 0, 0xFFFF, true⟩ ∧
    (after (.sectionEdge .a 47) (sectLane (some (9, false)) none)).sis (SECT_OSTAT_LEVEL 47) = false := by decide +kernel

end Sys2Proof.Tests
end

section
/-!
SUPPORT. The helm's arithmetic at an instruction boundary (chapter 3): the rule for an instruction that writes a general
register and flags, the values of the register ALU, multiply and divide lines, and the statement about them.
-/

namespace Sys2Proof.Machine

open Sys2Proof

/-! ### Registers and flags of a copy -/

@[simp] theorem HelmCopy.setSv_pc (c : HelmCopy) (b : Bool) : (c.setSv b).pc = c.pc := rfl
@[simp] theorem HelmCopy.setSv_retired (c : HelmCopy) (b : Bool) : (c.setSv b).retired = c.retired := rfl
@[simp] theorem HelmCopy.setDz_pc (c : HelmCopy) (b : Bool) : (c.setDz b).pc = c.pc := rfl
@[simp] theorem HelmCopy.setDz_retired (c : HelmCopy) (b : Bool) : (c.setDz b).retired = c.retired := rfl

/-- A sticky flag that an operation does not meet stays as it was (R66). -/
@[simp] theorem HelmCopy.setSv_false (c : HelmCopy) : c.setSv false = c := rfl
@[simp] theorem HelmCopy.setDz_false (c : HelmCopy) : c.setDz false = c := rfl

/-- A copy that takes the result of a divide with its flags (R82). -/
def HelmCopy.putDiv (c : HelmCopy) (gd : Reg5) (r : DivResult) : HelmCopy := ((c.wg gd r.val).setSv r.sv).setDz r.dz

/-! ### Instructions that write a general register -/

section Rules

variable {x : Instr} {s : State} {i : HelmIssue} {illegal : Bool} {gd : Reg5} {f g : HelmCopy → HelmCopy}

/-- An instruction of the plain shape goes on to the next, with any function that agrees with its own effect. -/
theorem runs_of_plainInstr (h : (s.lane i.lane).helmReady i false)
    (hx : exec x s = onLane s i.lane (fun ln => ln.plainInstr i illegal g)) (legal : illegal = false)
    (hpc : ∀ c, (g c).pc = c.pc) (hret : ∀ c, (g c).retired = c.retired) (hf : ∀ c, g c = f c) : Runs x s i f := by
  obtain rfl : g = f := funext hf
  subst legal
  rw [Runs, Gives, hx, onLane, Lane.plainInstr_ready _ _ _ h hpc hret]

/-- gd takes a value, and nothing else changes. -/
theorem runs_writes {v w : HelmCopy → Word} (h : (s.lane i.lane).helmReady i false)
    (hx : exec x s = onLane s i.lane (fun ln => ln.plainInstr i illegal (fun c => c.wg gd (v c)))) (legal : illegal = false)
    (hv : ∀ c, v c = w c) : Runs x s i (fun c => c.wg gd (w c)) :=
  runs_of_plainInstr h hx legal (fun c => c.wg_pc gd _) (fun c => c.wg_retired gd _) (fun c => by rw [hv])

/-- gd takes a value, and SV is set where it saturated (R66). -/
theorem runs_writesSat {r : HelmCopy → Word × Bool} (h : (s.lane i.lane).helmReady i false)
    (hx : exec x s = onLane s i.lane (fun ln => ln.plainInstr i illegal (fun c => (c.wg gd (r c).1).setSv (r c).2)))
    (legal : illegal = false) (hf : ∀ c, (c.wg gd (r c).1).setSv (r c).2 = f c) : Runs x s i f :=
  runs_of_plainInstr h hx legal (fun c => by simp) (fun c => by simp) hf

/-- gd takes the result of a divide, with SV and DZ (R82). -/
theorem runs_divides {r : HelmCopy → DivResult} (h : (s.lane i.lane).helmReady i false)
    (hx : exec x s = onLane s i.lane (fun ln => ln.plainInstr i false (fun c => c.putDiv gd (r c))))
    (hf : ∀ c, c.putDiv gd (r c) = f c) : Runs x s i f :=
  runs_of_plainInstr h hx rfl (fun c => by simp [HelmCopy.putDiv]) (fun c => by simp [HelmCopy.putDiv]) hf

end Rules

/-! ### Values of the register ALU -/

theorem boolWord_slt (a b : Word) : boolWord (a.slt b) = if a.toInt < b.toInt then 1 else 0 := by
  simp [boolWord, BitVec.slt_eq_decide]

theorem boolWord_ult (a b : Word) : boolWord (a.ult b) = if a.toNat < b.toNat then 1 else 0 := by
  simp [boolWord, BitVec.ult_eq_decide]

theorem ite_slt_eq_ofInt_min (a b : Word) : (if a.slt b then a else b) = BitVec.ofInt 32 (min a.toInt b.toInt) := by
  simp only [BitVec.slt_eq_decide, decide_eq_true_eq, min_def_lt, apply_ite (BitVec.ofInt 32),
    BitVec.ofInt_toInt]

theorem ite_slt_eq_ofInt_max (a b : Word) : (if b.slt a then a else b) = BitVec.ofInt 32 (max a.toInt b.toInt) := by
  simp only [BitVec.slt_eq_decide, decide_eq_true_eq, max_comm a.toInt, max_def_lt, apply_ite (BitVec.ofInt 32),
    BitVec.ofInt_toInt]

theorem ite_ult_eq_ofNat_min (a b : Word) : (if a.ult b then a else b) = BitVec.ofNat 32 (min a.toNat b.toNat) := by
  simp only [BitVec.ult_eq_decide, decide_eq_true_eq, min_def_lt, apply_ite (BitVec.ofNat 32),
    BitVec.ofNat_toNat, BitVec.setWidth_eq]

theorem ite_ult_eq_ofNat_max (a b : Word) : (if b.ult a then a else b) = BitVec.ofNat 32 (max a.toNat b.toNat) := by
  simp only [BitVec.ult_eq_decide, decide_eq_true_eq, max_comm a.toNat, max_def_lt, apply_ite (BitVec.ofNat 32),
    BitVec.ofNat_toNat, BitVec.setWidth_eq]

/-- The exact absolute value that abs wraps and qabs saturates. -/
theorem ite_msb_neg_toInt (a : Word) : (if a.msb then -a.toInt else a.toInt) = (a.toInt.natAbs : Int) := by
  rw [BitVec.msb_eq_toInt]
  by_cases h : a.toInt < 0
  · simp only [h, decide_true, if_true]; omega
  · simp only [h, decide_false, Bool.false_eq_true, if_false]; omega

theorem absOf_eq_ofInt_natAbs (a : Word) : absOf a = BitVec.ofInt 32 (a.toInt.natAbs : Int) := by
  rw [← ite_msb_neg_toInt, absOf]
  split <;> simp [BitVec.ofInt_neg]

theorem popOf_eq_countP (a : Word) : popOf a = BitVec.ofNat 32 ((List.range 32).countP (fun n => a.getLsbD n)) := by
  rw [popOf, List.countP_eq_length_filter]

/-- The number of leading zeros of a word, 32 for the word 0. -/
def leadingZeros (w : Word) : Nat := if w = 0 then 32 else 31 - Nat.log2 w.toNat

theorem clzOf_eq_ofNat_leadingZeros (w : Word) : clzOf w = BitVec.ofNat 32 (leadingZeros w) := rfl

/-- The leading zeros of a word say between which powers of two it lies. -/
theorem leadingZeros_spec (w : Word) : leadingZeros w ≤ 32 ∧ w.toNat < 2 ^ (32 - leadingZeros w) ∧
    (leadingZeros w < 32 → 2 ^ (31 - leadingZeros w) ≤ w.toNat) := by
  by_cases hw : w = 0
  · simp [leadingZeros, hw]
  · have hn : w.toNat ≠ 0 := fun h => hw (BitVec.eq_of_toNat_eq h)
    have hlog : w.toNat.log2 < 32 := (Nat.log2_lt hn).mpr w.isLt
    have hz : leadingZeros w = 31 - w.toNat.log2 := if_neg hw
    have htop : 32 - leadingZeros w = w.toNat.log2 + 1 := by omega
    have hbot : 31 - leadingZeros w = w.toNat.log2 := by omega
    rw [htop, hbot]
    exact ⟨by omega, Nat.lt_log2_self, fun _ => Nat.log2_self_le hn⟩

theorem extractLsb'_zero_eq_setWidth (n : Nat) (a : Word) (h : n ≤ 32) : a.extractLsb' 0 n = a.setWidth n :=
  (BitVec.setWidth_eq_extractLsb' h).symm

/-- Keeping the low `n` bits of a word is masking it with `2^n - 1`. -/
theorem zeroExtend_low_eq_and (n : Nat) (a : Word) (h : n ≤ 32) :
    (a.extractLsb' 0 n).setWidth 32 = a &&& BitVec.ofNat 32 (2 ^ n - 1) := by
  have hlt : 2 ^ n - 1 < 2 ^ 32 := by have := Nat.pow_le_pow_right (n := 2) (by omega) h; omega
  apply BitVec.eq_of_toNat_eq
  rw [extractLsb'_zero_eq_setWidth n a h, BitVec.toNat_and, BitVec.toNat_ofNat, Nat.mod_eq_of_lt hlt,
    Nat.and_two_pow_sub_one_eq_mod, BitVec.toNat_setWidth_of_le h, BitVec.toNat_setWidth]

/-! ### Immediates -/

theorem add_sext13 (a : Word) (imm : Imm13) : a + sext13 imm = BitVec.ofInt 32 (a.toInt + imm.toInt) := by
  rw [BitVec.ofInt_add, BitVec.ofInt_toInt]
  rfl

theorem zext13_eq_ofNat (imm : Imm13) : zext13 imm = BitVec.ofNat 32 imm.toNat := (BitVec.ofNat_toNat 32 imm).symm

/-- lui's word is its immediate shifted left by 14. -/
theorem append_zero14_eq_ofNat (imm : BitVec 18) : imm ++ (0 : BitVec 14) = BitVec.ofNat 32 (imm.toNat * 16384) := by
  have := imm.isLt
  apply BitVec.eq_of_toNat_eq
  calc (imm ++ (0 : BitVec 14)).toNat = imm.toNat * 16384 := by
        rw [BitVec.toNat_append]; simp [Nat.shiftLeft_eq]
    _ = (BitVec.ofNat 32 (imm.toNat * 16384)).toNat := by rw [BitVec.toNat_ofNat, Nat.mod_eq_of_lt (by omega)]

/-- The legal immediates of oril are those below 2^14, and they are taken as they stand. -/
theorem oril_legal (imm : BitVec 18) (h : imm.toNat < 16384) : (imm.extractLsb' 14 4 != 0) = false := by
  simp only [bne_eq_false_iff_eq]
  apply BitVec.eq_of_toNat_eq
  simp [BitVec.extractLsb'_toNat, Nat.shiftRight_eq_div_pow, Nat.div_eq_of_lt h]

theorem oril_imm_eq_ofNat (imm : BitVec 18) (h : imm.toNat < 16384) :
    (imm.extractLsb' 0 14).setWidth 32 = BitVec.ofNat 32 imm.toNat := by
  apply BitVec.eq_of_toNat_eq
  simp [BitVec.extractLsb'_toNat, Nat.mod_eq_of_lt h]

/-! ### Products -/

theorem mul_eq_ofNat (a b : Word) : a * b = BitVec.ofNat 32 (a.toNat * b.toNat) := by
  simp [BitVec.ofNat_mul]

/-- A result inside the range of a word is written as it stands, without the flag (R66). -/
theorem sat32_of_mem (x : Int) (lo : -2147483648 ≤ x) (hi : x ≤ 2147483647) : sat32 x = (BitVec.ofInt 32 x, false) := by
  simp [sat32, clampI, wordI, not_lt.mpr lo, not_lt.mpr hi]

/-- The signed word 0x8000_0000 is the one of value -2^31. -/
theorem toInt_eq_min_iff (a : Word) : a.toInt = -2147483648 ↔ a = 0x80000000 :=
  ⟨fun h => BitVec.eq_of_toInt_eq (h.trans (by decide)), fun h => by subst h; decide⟩

theorem abs_toInt_le (a : Word) : |a.toInt| ≤ 2147483648 := by
  have := a.le_toInt
  have := a.toInt_lt
  rw [abs_le]; omega

theorem abs_toInt_le_of_ne_min (a : Word) (h : a ≠ 0x80000000) : |a.toInt| ≤ 2147483647 := by
  have := (toInt_eq_min_iff a).not.mpr h
  have := a.le_toInt
  have := a.toInt_lt
  rw [abs_le]; omega

/-- Only 0x8000_0000 × 0x8000_0000 has a product near 2^62. -/
theorem abs_prod_le (a b : Word) (h : ¬(a = 0x80000000 ∧ b = 0x80000000)) :
    |a.toInt * b.toInt| ≤ 2147483647 * 2147483648 := by
  rw [abs_mul]
  by_cases ha : a = 0x80000000
  · have hb : b ≠ 0x80000000 := fun hb => h ⟨ha, hb⟩
    rw [mul_comm]
    exact mul_le_mul (abs_toInt_le_of_ne_min b hb) (abs_toInt_le a) (abs_nonneg _) (by decide)
  · exact mul_le_mul (abs_toInt_le_of_ne_min a ha) (abs_toInt_le b) (abs_nonneg _) (by decide)

/-- qmul saturates in its one case and rounds half up in every other (R81). -/
theorem qmulOf_eq (a b : Word) : qmulOf a b =
    if a = 0x80000000 ∧ b = 0x80000000 then (0x7FFFFFFF, true)
    else (BitVec.ofInt 32 ((a.toInt * b.toInt + 2 ^ 30) / 2 ^ 31), false) := by
  split
  case isTrue h =>
    obtain ⟨rfl, rfl⟩ := h
    decide
  case isFalse h =>
    have hp := abs_le.mp (abs_prod_le a b h)
    rw [qmulOf, roundQ]
    exact sat32_of_mem _ (by omega) (by omega)

theorem put_qmulOf (c : HelmCopy) (gd : Reg5) (a b : Word) : (c.wg gd (qmulOf a b).1).setSv (qmulOf a b).2 =
    if a = 0x80000000 ∧ b = 0x80000000 then (c.wg gd 0x7FFFFFFF).setSv true
    else c.wg gd (BitVec.ofInt 32 ((a.toInt * b.toInt + 2 ^ 30) / 2 ^ 31)) := by
  rw [qmulOf_eq]
  split <;> rfl

/-! ### Divisions -/

theorem divOver_iff (a b : Word) : divOver a b = true ↔ a = 0x80000000 ∧ b = 0xFFFFFFFF := by
  simp [divOver]

theorem putDiv_divOf (c : HelmCopy) (gd : Reg5) (a b : Word) : c.putDiv gd (divOf a b) =
    if b = 0 then (c.wg gd (if 0 ≤ a.toInt then 0x7FFFFFFF else 0x80000000)).setDz true
    else if a = 0x80000000 ∧ b = 0xFFFFFFFF then (c.wg gd 0x7FFFFFFF).setSv true
    else c.wg gd (BitVec.ofInt 32 (a.toInt.tdiv b.toInt)) := by
  have hsign : (if a.msb then (0x80000000 : Word) else 0x7FFFFFFF) = if 0 ≤ a.toInt then 0x7FFFFFFF else 0x80000000 := by
    by_cases h : a.toInt < 0
    · simp [BitVec.msb_eq_toInt, h]
    · simp [BitVec.msb_eq_toInt, h, not_lt.mp h]
  simp only [divOf, divOver_iff, hsign]
  split_ifs <;> rfl

theorem putDiv_divuOf (c : HelmCopy) (gd : Reg5) (a b : Word) : c.putDiv gd (divuOf a b) =
    if b = 0 then (c.wg gd 0xFFFFFFFF).setDz true else c.wg gd (BitVec.ofNat 32 (a.toNat / b.toNat)) := by
  rw [divuOf]
  split <;> rfl

/-- The signed remainder by the quotient that div gives; for the one quotient out of range it is 0 without a case of its
own (R82). -/
theorem putDiv_remOf (c : HelmCopy) (gd : Reg5) (a b : Word) : c.putDiv gd (remOf a b) =
    if b = 0 then (c.wg gd a).setDz true
    else c.wg gd (BitVec.ofInt 32 (a.toInt - a.toInt.tdiv b.toInt * b.toInt)) := by
  have hmod : a.toInt - a.toInt.tdiv b.toInt * b.toInt = a.toInt.tmod b.toInt := by rw [Int.tmod_def, mul_comm]
  rw [remOf, hmod]
  by_cases hb : b = 0
  · simp only [hb, if_true]; rfl
  by_cases hover : divOver a b = true
  · obtain ⟨rfl, rfl⟩ := (divOver_iff a b).mp hover
    rfl
  · simp only [hb, hover, if_false]; rfl

theorem putDiv_remuOf (c : HelmCopy) (gd : Reg5) (a b : Word) : c.putDiv gd (remuOf a b) =
    if b = 0 then (c.wg gd a).setDz true
    else c.wg gd (BitVec.ofNat 32 (a.toNat - a.toNat / b.toNat * b.toNat)) := by
  rw [remuOf, Nat.mod_eq_sub_div_mul]
  split <;> rfl

/-! ### The statement -/

/-- Settles O12: every line is the plain shape at an instruction boundary, with the value that its own lemma gives. -/
theorem helmArithmetic : Obligations.HelmArithmetic := by
  refine ⟨fun s i gd ga gb h => ?registerLines, fun s i imm gd ga gb h => ?shiftsAndSaturation,
    ⟨fun s i gd ga imm h => ?immediates, fun s i gd imm h => ?wideImmediates⟩, fun s i gd ga gb h => ?multiplyDivide⟩
  case registerLines =>
    exact ⟨runs_writes h rfl rfl fun _ => rfl, runs_writes h rfl rfl fun _ => rfl, runs_writes h rfl rfl fun _ => rfl,
      runs_writes h rfl rfl fun _ => rfl, runs_writes h rfl rfl fun _ => rfl, runs_writes h rfl rfl fun _ => rfl,
      runs_writes h rfl rfl fun _ => boolWord_slt _ _,
      runs_writes h rfl rfl fun _ => boolWord_ult _ _,
      runs_writes h rfl rfl fun _ => ite_slt_eq_ofInt_min _ _,
      runs_writes h rfl rfl fun _ => ite_slt_eq_ofInt_max _ _,
      runs_writes h rfl rfl fun _ => ite_ult_eq_ofNat_min _ _,
      runs_writes h rfl rfl fun _ => ite_ult_eq_ofNat_max _ _,
      runs_writes h rfl rfl fun _ => absOf_eq_ofInt_natAbs _,
      runs_writes h rfl rfl fun _ => popOf_eq_countP _,
      runs_writes h rfl rfl fun _ => congrArg _ (extractLsb'_zero_eq_setWidth 8 _ (by decide)),
      runs_writes h rfl rfl fun _ => congrArg _ (extractLsb'_zero_eq_setWidth 16 _ (by decide)),
      runs_writes h rfl rfl fun _ => zeroExtend_low_eq_and 8 _ (by decide),
      runs_writes h rfl rfl fun _ => zeroExtend_low_eq_and 16 _ (by decide),
      leadingZeros, runs_writes h rfl rfl fun _ => clzOf_eq_ofNat_leadingZeros _, leadingZeros_spec⟩
  case shiftsAndSaturation =>
    exact ⟨runs_writesSat h rfl rfl fun _ => HelmCopy.setSv_false _,
      runs_writesSat h rfl rfl fun _ => HelmCopy.setSv_false _,
      runs_writesSat h rfl rfl fun _ => HelmCopy.setSv_false _,
      runs_writesSat h rfl rfl fun _ => rfl,
      runs_writesSat h rfl rfl fun _ => rfl,
      runs_writesSat h rfl rfl fun _ => rfl,
      runs_writesSat h rfl rfl fun _ => rfl,
      runs_writesSat h rfl rfl fun c =>
        congrArg (fun x => (c.wg gd (sat32 x).1).setSv (sat32 x).2) (ite_msb_neg_toInt (c.rg ga))⟩
  case immediates =>
    exact ⟨runs_writes h rfl rfl fun _ => add_sext13 _ _,
      runs_writes h rfl rfl fun _ => congrArg _ (zext13_eq_ofNat _),
      runs_writes h rfl rfl fun _ => congrArg _ (zext13_eq_ofNat _),
      runs_writes h rfl rfl fun _ => congrArg _ (zext13_eq_ofNat _)⟩
  case wideImmediates =>
    exact ⟨runs_writes h rfl rfl fun _ => append_zero14_eq_ofNat _, fun himm =>
      runs_writes h rfl (oril_legal imm himm) fun _ => congrArg _ (oril_imm_eq_ofNat imm himm)⟩
  case multiplyDivide =>
    exact ⟨runs_writes h rfl rfl fun _ => mul_eq_ofNat _ _, runs_writes h rfl rfl fun _ => rfl,
      runs_writes h rfl rfl fun _ => rfl,
      runs_writesSat h rfl rfl fun _ => put_qmulOf _ _ _ _,
      runs_divides h rfl fun _ => putDiv_divOf _ _ _ _,
      runs_divides h rfl fun _ => putDiv_divuOf _ _ _ _,
      runs_divides h rfl fun _ => putDiv_remOf _ _ _ _,
      runs_divides h rfl fun _ => putDiv_remuOf _ _ _ _⟩

end Sys2Proof.Machine
end

section
/-!
SUPPORT. Interrupts of the helm pair (chapter 4): which source the gate takes, an entry at a boundary, the end of a
wfe, and the statement about them.
-/

namespace Sys2Proof.Machine

open Sys2Proof

/-! ### Lanes of a state -/

/-- Of two writes to one lane the second stands. -/
@[simp] theorem State.setLane_setLane (s : State) (l : LaneId) (u v : Lane) :
    (s.setLane l u).setLane l v = s.setLane l v := by
  cases l <;> rfl

/-- Reading the lane just written gives it back where it carries its place's letter (R95). -/
theorem State.lane_setLane_of_id (s : State) (l : LaneId) (v : Lane) (h : v.id = l) : (s.setLane l v).lane l = v := by
  subst h
  exact s.lane_setLane_same v.id v

/-- A command on one lane gives that lane what its effect makes of it. -/
theorem gives_of_onLane {x : Instr} {s : State} {l : LaneId} {t : Lane} {f : Lane → Lane} (hx : exec x s = onLane s l f)
    (hf : f (s.lane l) = t) : Gives x s l t := by
  rw [Gives, hx, onLane, hf]

/-! ### The source that the gate takes (R110) -/

/-- Source `n` is pending and enabled. -/
def Lane.srcDue (ln : Lane) (n : Nat) : Prop :=
  n < 21 ∧ ln.irqPend.getLsbD n = true ∧ (ln.rd LCTL_IRQ_EN).getLsbD n = true

theorem Lane.bit_irqPend_and_irqEn (ln : Lane) (n : Nat) (h : n < 21) :
    bit (ln.irqPend &&& ln.rd LCTL_IRQ_EN) n = true ↔ ln.srcDue n := by
  simp [Lane.srcDue, bit, h]

/-- The next interrupt is the lowest-numbered source that is pending and enabled. -/
theorem Lane.irqNext_eq_some_iff (ln : Lane) (n : Nat) :
    ln.irqNext = some n ↔ ln.srcDue n ∧ ∀ k, k < n → ¬ ln.srcDue k := by
  rw [Lane.irqNext, List.find?_range_eq_some, List.mem_range]
  constructor
  · rintro ⟨hbit, hn, hlow⟩
    refine ⟨(ln.bit_irqPend_and_irqEn n hn).mp hbit, fun k hk hdue => ?_⟩
    simpa [(ln.bit_irqPend_and_irqEn k hdue.1).mpr hdue] using hlow k hk
  · rintro ⟨hdue, hlow⟩
    refine ⟨(ln.bit_irqPend_and_irqEn n hdue.1).mpr hdue, hdue.1, fun k hk => ?_⟩
    have hk21 : k < 21 := hk.trans hdue.1
    simpa using (ln.bit_irqPend_and_irqEn k hk21).not.mpr (hlow k hk)

/-- No interrupt is next where no source is pending and enabled. -/
theorem Lane.irqNext_eq_none (ln : Lane) (h : ∀ n, ¬ ln.srcDue n) : ln.irqNext = none :=
  Option.eq_none_iff_forall_ne_some.mpr fun n hn => h n ((ln.irqNext_eq_some_iff n).mp hn).1

/-- No interrupt is due while CS_STAT.IE is 0, and none where no source is pending and enabled. -/
theorem Lane.irqDue_eq_false (ln : Lane) (h : ln.helmIe = false ∨ ∀ n, ¬ ln.srcDue n) : ln.irqDue = false := by
  rcases h with hie | hnone
  · simp [Lane.irqDue, hie]
  · simp [Lane.irqDue, ln.irqNext_eq_none hnone]

/-! ### The entry (R110, R113) -/

/-- An interrupt that is due is taken with its cause. -/
theorem Lane.takeIrq_enters (ln : Lane) (n : Nat) (hb : ln.atBoundary = true) (hrel : ln.releaseDue = false)
    (hie : ln.helmIe = true) (hnext : ln.irqNext = some n) (hc : ln.canEnter (0x40 + n)) :
    ln.takeIrq = ln.enters (0x40 + n) := by
  simp [Lane.takeIrq, hb, hrel, hie, hnext, Lane.enters, ln.enterExc_can _ _ hc]

/-- The gate takes nothing while no interrupt is due. -/
theorem Lane.takeIrq_of_not_due (ln : Lane) (h : ln.irqDue = false) : ln.takeIrq = ln := by
  rw [Lane.irqDue, Bool.and_eq_false_iff] at h
  rcases h with hie | hnone
  · simp [Lane.takeIrq, hie]
  · have hnext : ln.irqNext = none := by simpa using hnone
    simp [Lane.takeIrq, hnext]

/-! ### The end of a wait (R110) -/

/-- An instruction that changes nothing in its copies goes on to the next one, whatever its predicate. -/
theorem Lane.retireHelm_skip (ln : Lane) (i : HelmIssue) :
    (ln.mapHelm HelmCopy.skip).retireHelm false = ln.goesOn i (fun c => c) := by
  simp [Lane.mapHelm, Lane.retireHelm, Pair.map, HelmCopy.skip, HelmCopy.retire, Lane.goesOn, Lane.afterHelm,
    HelmCopy.after]

/-- An instruction that need not wait goes on to the next one. -/
theorem Lane.waitInstr_done (ln : Lane) (i : HelmIssue) (done : Lane → Bool) (r : Run) (h : ln.helmReady i false)
    (hd : done ln = true) : ln.waitInstr i false done r = ln.goesOn i (fun c => c) := by
  obtain ⟨hgate, hpred⟩ := h
  rw [Lane.waitInstr, ln.issueHelm_gate _ _ _ hgate]
  simp [hpred, hd, ln.retireHelm_skip i]

/-- A wfe that waits retires where a source is pending and no interrupt is due. -/
theorem Lane.wakeHelm_waiting (ln : Lane) (i : HelmIssue) (hrun : ln.helm.run = .waiting) (hpend : ln.irqPend ≠ 0)
    (hdue : ln.irqDue = false) :
    ln.wakeHelm = ({ ln with helm := { ln.helm with run := .running } } : Lane).goesOn i (fun c => c) := by
  rw [← Lane.retireHelm_skip, Lane.wakeHelm, if_pos]
  simpa [hrun, hdue] using hpend

/-- The end of a wait comes before whatever issues next, so that it makes no difference whether it came already. -/
theorem Lane.issueHelm_wakeHelm (ln : Lane) (i : HelmIssue) (held : Bool) (body : Lane → Lane)
    (h : ln.wakeHelm.helm.run = .running) : ln.wakeHelm.issueHelm i held body = ln.issueHelm i held body := by
  rw [Lane.issueHelm, ln.wakeHelm.wakeHelm_running h, Lane.issueHelm]

/-! ### The statement -/

/-- Settles O16: the gate's search finds the lowest source that is due, and an instruction's issue begins with the end
of a wait. -/
theorem helmInterruptEntry : Obligations.HelmInterruptEntry := by
  intro s l ln hstop harm hdom hclose hrel due
  refine ⟨fun n hie hdue hlow hc => ?taken, fun hnot => ?notDue,
    fun i gd ga gb hi hid hpend => ⟨fun hready => ?atOnce, fun hwait hnot => ?woken⟩⟩
  case taken =>
    have hb : ln.atBoundary = true := by simp [Lane.atBoundary, hstop, harm, hdom, hclose]
    have hnext : ln.irqNext = some n := (ln.irqNext_eq_some_iff n).mpr ⟨hdue, hlow⟩
    exact gives_of_onLane rfl (ln.takeIrq_enters n hb hrel hie hnext hc)
  case notDue =>
    exact gives_of_onLane rfl (ln.takeIrq_of_not_due (ln.irqDue_eq_false hnot))
  case atOnce =>
    subst hi
    exact gives_of_onLane (f := fun u => u.waitInstr i false (fun u => u.irqPend != 0) .waiting) rfl
      (ln.waitInstr_done i _ _ hready (bne_iff_ne.mpr hpend))
  case woken =>
    subst hi
    intro woken
    have hwake : ln.wakeHelm = woken := ln.wakeHelm_waiting i hwait hpend (ln.irqDue_eq_false hnot)
    have hlane : (s.setLane i.lane woken).lane i.lane = woken := s.lane_setLane_of_id i.lane woken hid
    have hsame : woken.plainInstr i false _ = ln.plainInstr i false (fun c => c.wg gd (c.rg ga + c.rg gb)) :=
      hwake ▸ ln.issueHelm_wakeHelm i false _ (by rw [hwake]; rfl)
    have hadd : ∀ t : State, exec (.add i gd ga gb) t =
        onLane t i.lane (fun u => u.plainInstr i false (fun c => c.wg gd (c.rg ga + c.rg gb))) := fun _ => rfl
    rw [hadd, hadd, onLane, onLane, State.setLane_setLane, hlane, hsame]

end Sys2Proof.Machine
end
